-- ==== Sys2Proof/Word.lean ====
section
/-! DEFINITION. The words of the 4120's interface: bytes, stations, the names the spec sets in
capitals, and the records a command carries (a key, a NAV record, a frame, an offer id). -/

namespace Sys2Proof

/-- A character, or one byte of a frame (00, Characters). -/
abbrev Byte := BitVec 8

/-- A sequence number or serial: 8 bits, wrapping from 255 to 0 (00, Sequence numbers). -/
abbrev Serial := BitVec 8

/-- A station number, 0 to 4,095 (00, Station numbers). -/
abbrev Station := Nat

/-- A moment of the model's clock, in milliseconds (log 2). -/
abbrev Moment := Nat

/-- The seven duty states (R1, section 1.2). `onBreak` is BREAK. -/
inductive DutyState where
  | offShift | vacant | pending | assigned | hired | paying | onBreak
deriving DecidableEq, Repr

/-- The start causes sent on the air (R194). -/
inductive StartCause where
  | cold | warmPower | warmReset
deriving DecidableEq, Repr

/-- The fourteen assigned frame kinds (section 2.7.2). -/
inductive FrameKind where
  | beacon | offer | bid | withdraw | take | release | confirm | msg | ack | fare | tariff
  | alarm | alarmClear | alarmSeen
deriving DecidableEq, Repr

/-- The two kinds of frame that are relayed (R75). -/
inductive AlarmKind where
  | alarm | clear
deriving DecidableEq, Repr

/-- The 24 keys of the keypad (section 1.6). `onBreak` is the BREAK key. -/
inductive Key where
  | shift | hire | pay | vacant | onBreak | accept | decline | extra | tariff
  | read | up | down | reply | clear
  | digit (d : Fin 10)
deriving DecidableEq, Repr

/-- The five lamps (00, pin table). -/
inductive Lamp where
  | roofVacant | roofAlarm | ledRadio | ledMsg | ledOffer
deriving DecidableEq, Repr

/-- The fix state of a NAV record: one of its two codes, or neither (R18). -/
inductive FixState where
  | fix | noFix | neither
deriving DecidableEq, Repr

/-- A point of the fleet grid, in grid steps (00, Positions). -/
structure Position where
  east  : Nat
  north : Nat
deriving DecidableEq, Repr

/-- An offer id: the source dispatch station and the offer serial (R83). -/
structure OfferId where
  dispatch : Station
  serial   : Serial
deriving DecidableEq, Repr

/-- A NAV record as it completes (section 1.8). Its byte layout lies outside the manual, so the first
three tests of R18 come as their results (log 7). -/
structure NavRecord where
  markerBegins : Bool
  allFields    : Bool
  checkMatches : Bool
  timeOfDay    : Nat
  position     : Position
  fix          : FixState
deriving DecidableEq, Repr

/-- The fields of a frame header but kind, sequence of bytes and payload length (section 2.7.1).
Spare bits are ignored on receive and are not held. -/
structure Header where
  fleet     : Nat
  hop       : Nat
  ackReq    : Bool
  source    : Station
  dest      : Station
  seq       : Serial
  duty      : Nat
  emergency : Bool
  fixValid  : Bool
  cause     : Nat
  position  : Position
deriving DecidableEq, Repr

/-- What the 13 header bytes tell of the frame being gathered beside its length: the kind, 0 to 15, and the
other fields (section 2.7.1). -/
structure FrameHead where
  kind   : Nat
  fields : Header
deriving DecidableEq, Repr

/-- A frame gathered whole with its CRC good: header and payload bytes. Its kind is the row's. -/
structure AirFrame where
  header  : Header
  payload : List Byte
deriving DecidableEq, Repr

/-- The key that names a relay record: origin station, kind and origin serial (R75). -/
structure RelayKey where
  origin : Station
  kind   : AlarmKind
  serial : Serial
deriving DecidableEq, Repr

/-- A key of the duplicate table (R74). -/
structure DupName where
  station : Station
  kind    : FrameKind
  number  : Serial
deriving DecidableEq, Repr

/-- The event that begins a start (R194). -/
inductive StartEvent where
  | resetReleased | powerReturned
deriving DecidableEq, Repr

end Sys2Proof
end

