-- ==== Sys2Proof/Config.lean ====
section
/-! DEFINITION. The configuration image as it is read (R195), the copy the 4120 holds, and the free
values: what the spec leaves open and no proof may know. -/

namespace Sys2Proof

/-- One item of the configuration image: its value as read, and whether the image marks it absent
(R195). The image's byte layout lies outside the manual (log 6). -/
structure Item where
  absent : Bool
  value  : Nat
deriving DecidableEq, Repr

/-- The console's seven items and the SENSE level aside: day and night levels, night window, dimming,
key click and roof alarm lamp (chapter 9, opening). -/
structure ConsoleConfig where
  dayLevel   : Nat
  nightLevel : Nat
  nightStart : Nat
  nightEnd   : Nat
  dimming    : Bool
  keyClick   : Bool
  roofAlarm  : Bool
deriving DecidableEq, Repr, Inhabited

/-- The configuration image read at step 3 of a start (R194, R195). `crcMatches` is the result of the
image's own CRC; the tariff set comes as its encoded bytes with its set CRC. -/
structure Image where
  crcMatches   : Bool
  setBytes     : List Byte
  setCrc       : BitVec 16
  ownStation   : Item
  fleet        : Item
  home         : Item
  pulsesPerKm  : Item
  rounding     : Item
  cancelCode   : Item
  duressCode   : Item
  tBeacon      : Item
  tNbAge       : Item
  tReach       : Item
  tAccept      : Item
  tConfirm     : Item
  wv           : Item
  mmax         : Item
  tHoldMs      : Item
  relayEnable  : Item
  senseLevel   : Item
  dayLevel     : Item
  nightLevel   : Item
  nightStart   : Item
  nightEnd     : Item
  dimming      : Item
  keyClick     : Item
  roofAlarm    : Item
  phrases      : List (Option (List Byte))
deriving DecidableEq, Repr

/-- The copy of the image held for the whole of a start (R195): clamped after a good check, as read in
FAULT. -/
structure Config where
  ownStation  : Station
  fleet       : Nat
  home        : Station
  pulsesPerKm : Nat
  rounding    : Nat
  cancelCode  : Nat
  duressCode  : Option Nat
  tBeacon     : Nat
  tNbAge      : Nat
  tReach      : Nat
  tAccept     : Nat
  tConfirm    : Nat
  wv          : Nat
  mmax        : Nat
  tHoldMs     : Nat
  relayEnable : Bool
  senseLevel  : Nat
  console     : ConsoleConfig
deriving DecidableEq, Repr

/-- What START is given: its event, the samples of steps 1 and 2, the image of step 3 and the result of
the retained area's own check of step 4 (R194, R196). -/
structure StartInput where
  event        : StartEvent
  strap        : Bool
  senseMv      : Nat
  image        : Image
  retainedGood : Bool
deriving DecidableEq, Repr

/-- FREE VALUE (log 10). The console's items during the n-th start's FAULT: R195 says that in FAULT the
copy's other items are not used, and no rule gives the console others. -/
opaque Config.faultConsole : Nat → ConsoleConfig

/-- FREE VALUE (log 11). The score in a TAKE or BID whose offer entry has been freed before its first
bit (R97 builds it from the entry). -/
opaque Config.freeScore : Nat → BitVec 15

/-- FREE VALUE (log 12). The reply number, the reply-to number and the phrase number of a reply whose
entry left the store between its keying and its first bit (R154, R156). -/
opaque Config.freeReplyNumber : Nat → Serial
opaque Config.freeReplyTo : Nat → Serial
opaque Config.freeReplyPhrase : Nat → Fin 10

/-- FREE VALUE (log 13). Byte `offset` of the fare report of record `n` where the field's presence flag
is clear (section 2.7.3 gives those bytes no value). -/
opaque Config.absentFieldByte : Nat → Nat → Byte

end Sys2Proof
end

