-- ==== Sys2Proof/Syntax.lean ====
section
/-! DEFINITION. The commands: one constructor for each row of spec/opcode_table.json, in the table's
order, with the row's operands. -/

namespace Sys2Proof

/-- A command: one step of the 4120, "each whole and indivisible" (95). A frame row carries the frame
gathered whole with its CRC good; a row of a table entry carries the entry's name. -/
inductive Instr where
  | start (i : StartInput)
  | lampTestEnd
  | oneSecondTick
  | positionStale
  | navRecord (r : NavRecord)
  | keyContact (k : Key)
  | keyRelease (k : Key)
  | keyReleaseWaitEnd
  | keyRepeat
  | wakeTimerExpiry
  | shift
  | hire
  | pay
  | vacant
  | onBreak
  | accept
  | decline
  | extra
  | tariffKey
  | digit (d : Fin 10)
  | read
  | up
  | down
  | reply
  | clear
  | odoPulse
  | intervalEnd
  | beacon (f : AirFrame)
  | offer (f : AirFrame)
  | bid (f : AirFrame)
  | withdraw (f : AirFrame)
  | take (f : AirFrame)
  | release (f : AirFrame)
  | confirm (f : AirFrame)
  | msg (f : AirFrame)
  | ack (f : AirFrame)
  | fare (f : AirFrame)
  | tariff (f : AirFrame)
  | alarm (f : AirFrame)
  | alarmClear (f : AirFrame)
  | alarmSeen (f : AirFrame)
  | unassignedKind (kind : Nat) (f : AirFrame)
  | badLength (length : Nat)
  | crcMismatch
  | cdAsserted
  | cdClear
  | gapEnd
  | backoffSlotEnd
  | keyupEnd
  | transmissionEnd
  | ackWaitExpiry
  | ackGapEnd
  | loopedFrameEnd
  | beaconTimerExpiry
  | slotClockTick (senseMv : Nat)
  | relayDelayEnd (k : RelayKey)
  | quietAsserted
  | quietReleased
  | supplyLow (senseMv : Nat)
  | supplyNormal (senseMv : Nat)
  | ignOn
  | ignOff
  | parkTimerExpiry
  | neighbourAgeOut (station : Station)
  | homeReachExpiry
  | duplicateKeyAgeOut (k : DupName)
  | bidDelayEnd (id : OfferId)
  | windowEnd (id : OfferId)
  | tAcceptExpiry
  | tConfirmExpiry
  | offerHoldExpiry (id : OfferId)
  | stagingDeadline
  | assemblyTimeout (source : Station) (number : Serial)
  | validityExpiry (source : Station) (number : Serial)
  | displayRefresh
  | dimStepEnd
  | activityStretchEnd
  | blinkPhaseEnd (lamp : Lamp)
  | buzzerPatternEnd
  | alarmPressed
  | alarmReleased
  | holdTimerExpiry
  | alarmDue
  | clearDue
  | lockoutExpiry
  | alarmListExpiry (origin : Station)
  | mainPowerLoss
  | resetAsserted
  | syncWordMatched (window : BitVec 16)
  | headerComplete (h : FrameHead) (length : Nat)
  | tAcceptLastFiveSeconds
deriving DecidableEq, Repr

end Sys2Proof
end

