-- ==== Sys2Proof/WellFormed.lean ====
section
/-! DEFINITION. Which commands are well formed: every operand within what its line or field can carry. -/

namespace Sys2Proof

/-- A 12-bit station number (00, Station numbers). -/
def Station.wf (n : Station) : Bool := n ≤ 4095

/-- A point with both coordinates of 16 bits (00, Positions). -/
def Position.wf (p : Position) : Bool := p.east ≤ 65535 && p.north ≤ 65535

/-- An offer id names a dispatch station (R83). -/
def OfferId.wf (i : OfferId) : Bool := 3840 ≤ i.dispatch && i.dispatch ≤ 4095

/-- A header whose fields fit their bits (section 2.7.1); no station sends fleet code 0 (R32). -/
def Header.wf (h : Header) : Bool :=
  1 ≤ h.fleet && h.fleet ≤ 65535 && h.hop ≤ 3 && Station.wf h.source && Station.wf h.dest &&
    h.duty ≤ 7 && h.cause ≤ 3 && h.position.wf

/-- A header of one of the sixteen kinds (section 2.7.1). -/
def FrameHead.wf (h : FrameHead) : Bool := h.kind ≤ 15 && h.fields.wf

/-- A frame gathered whole: a good header and a payload of 0 to 64 bytes (R30). -/
def AirFrame.wf (f : AirFrame) : Bool := f.header.wf && f.payload.length ≤ 64

/-- The image's tariff set is 92 bytes and its phrases are nine (section 2.7.4, chapter 8). -/
def Image.wf (i : Image) : Bool := i.setBytes.length = 92 && i.phrases.length = 9

/-- The lamps that blink or flash (R172). -/
def Lamp.blinks : Lamp → Bool
  | .roofAlarm | .ledMsg | .ledOffer => true
  | .roofVacant | .ledRadio => false

/-- Well-formedness of a command, by cases of its operands. -/
def Instr.wf : Instr → Bool
  | .start i => i.image.wf
  | .navRecord r => r.position.wf
  | .beacon f | .offer f | .bid f | .withdraw f | .take f | .release f | .confirm f | .msg f
  | .ack f | .fare f | .tariff f | .alarm f | .alarmClear f | .alarmSeen f => f.wf
  | .unassignedKind kind f => (kind = 14 || kind = 15) && f.wf
  | .badLength length => 65 ≤ length && length ≤ 255
  | .relayDelayEnd k => Station.wf k.origin
  | .neighbourAgeOut station => Station.wf station
  | .duplicateKeyAgeOut k => Station.wf k.station
  | .bidDelayEnd id | .windowEnd id | .offerHoldExpiry id => id.wf
  | .assemblyTimeout source _ | .validityExpiry source _ => 3840 ≤ source && source ≤ 4095
  | .blinkPhaseEnd lamp => lamp.blinks
  | .alarmListExpiry origin => 1 ≤ origin && origin ≤ 3839
  | .headerComplete h length => h.wf && length ≤ 64
  | .lampTestEnd | .oneSecondTick | .positionStale | .keyContact _ | .keyRelease _
  | .keyReleaseWaitEnd | .keyRepeat | .wakeTimerExpiry | .shift | .hire | .pay | .vacant
  | .onBreak | .accept | .decline | .extra | .tariffKey | .digit _ | .read | .up | .down | .reply
  | .clear | .odoPulse | .intervalEnd | .crcMismatch | .cdAsserted | .cdClear | .gapEnd
  | .backoffSlotEnd | .keyupEnd | .transmissionEnd | .ackWaitExpiry | .ackGapEnd
  | .loopedFrameEnd | .beaconTimerExpiry | .slotClockTick _ | .quietAsserted | .quietReleased
  | .supplyLow _ | .supplyNormal _ | .ignOn | .ignOff | .parkTimerExpiry | .homeReachExpiry
  | .tAcceptExpiry | .tConfirmExpiry | .stagingDeadline | .displayRefresh | .dimStepEnd
  | .activityStretchEnd | .buzzerPatternEnd | .alarmPressed | .alarmReleased | .holdTimerExpiry
  | .alarmDue | .clearDue | .lockoutExpiry | .mainPowerLoss | .resetAsserted
  | .syncWordMatched _ | .tAcceptLastFiveSeconds => true

end Sys2Proof
end

