-- ==== Sys2Proof/Decode.lean ====
section
/-! DEFINITION. The command that a word of spec/opcode_table.json's bits spells. No row of this
block's table gives bits ("fields": [] and no "fixed"), so no word spells a command (log 29). -/

namespace Sys2Proof

/-- No row gives bits: every word spells nothing. -/
def decodeTableWord (_nbits _w : Nat) : Option Instr := none

end Sys2Proof
end

