-- ==== Sys2Proof/Machine/State.lean ====
section
/-! DEFINITION. The state of the 4120, block by block (00, Block diagram), the two kinds of stop, and
the state before the first start. Everything here is plain data. -/

namespace Sys2Proof.Machine

/-! ## Start Controller and lines -/

/-- What the 4120 is doing as a whole (R194): held by RESET or without main power, in steps 1 to 5 of a
start, or running after the end of the lamp test. -/
inductive RunPhase where
  | halted | lampTest | running
deriving DecidableEq, Repr

/-- The power state (R199). -/
inductive PowerState where
  | run | park
deriving DecidableEq, Repr

/-- The supply state (R200). -/
inductive Supply where
  | normal | low
deriving DecidableEq, Repr

/-- The input lines as they stand: levels that rules read at the moment they test them. -/
structure Lines where
  cd            : Bool
  quiet         : Bool
  ignOn         : Bool
  alarmPressed  : Bool
  senseMv       : Nat
  loopbackStrap : Bool
  resetAsserted : Bool
  mainPower     : Bool
deriving DecidableEq, Repr

/-- The Start Controller (chapter 11). `retStation` and `retFleet` stand in the retained area (R196).
`starts` is the model's own: it names the free values of one FAULT (log 10). -/
structure Stc where
  phase        : RunPhase
  phaseSince   : Moment
  startCause   : StartCause
  pendingCause : Option StartCause
  loopback     : Bool
  config       : Config
  fault        : Bool
  power        : PowerState
  parkSince    : Option Moment
  supply       : Supply
  retStation   : Station
  retFleet     : Nat
  powerLost    : Bool
  starts       : Nat
deriving DecidableEq, Repr

/-! ## Duty Controller -/

inductive ConfirmState where
  | unconfirmed | confirmed
deriving DecidableEq, Repr

/-- The job record (R12). -/
structure JobRecord where
  id          : OfferId
  pickup      : Position
  text        : List Byte
  confirm     : ConfirmState
  confirmWait : Bool
  conflict    : Bool
  acceptTime  : Option Nat
deriving DecidableEq, Repr

/-- The cab record (R1). `pos` is held while absent but given to no reader (R20). -/
structure Dtc where
  duty          : DutyState
  vacantSeconds : Nat
  pos           : Position
  fixValid      : Bool
  posAge        : Nat
  timeOfDay     : Nat
  timeValid     : Bool
  job           : Option JobRecord
deriving DecidableEq, Repr

/-! ## Frame Engine -/

/-- The receive engine (section 2.4); `off` until the end of the lamp test (R29). -/
inductive RxState where
  | off | hunt | header | body | suspended
deriving DecidableEq, Repr

/-- The pending ACK record (R38), with the moment of tACKGAP. -/
structure PendingAck where
  dest : Station
  kind : FrameKind
  seq  : Serial
  due  : Moment
deriving DecidableEq, Repr

/-- An ACK that has been keyed: in its keyup (`sent` clear) or on the air (R38). -/
structure AckTx where
  record : PendingAck
  sent   : Bool
  since  : Moment
deriving DecidableEq, Repr

/-- The five channel counters (R40). -/
structure Counters where
  good          : Nat
  transmissions : Nat
  badCrc        : Nat
  foreign       : Nat
  txFailures    : Nat
deriving DecidableEq, Repr

/-- A frame as it goes out: kind, header and payload (R28), and the bits that TXD presents, in order, from
the first preamble bit to the last CRC bit (R24, R25); none in loopback, which does not drive TXD (R42). -/
structure TxFrame where
  kind  : FrameKind
  frame : AirFrame
  txd   : List Bool
deriving DecidableEq, Repr

structure Fre where
  seq        : Serial
  rx         : RxState
  window     : BitVec 16
  gathering  : Option (FrameHead × Nat)
  pendingAck : Option PendingAck
  ackTx      : Option AckTx
  onAir      : Option TxFrame
  counters   : Counters
deriving DecidableEq, Repr

/-! ## Channel Access Unit -/

/-- The originator tag: the block and the record the frame is sent for (R44). A message entry and a
fare record are named by the model's own numbers, so that a name is never used twice. -/
inductive Tag where
  | offer (id : OfferId)
  | reply (entry : Nat)
  | fareRecord (record : Nat)
  | ownAlarm
  | relay (origin : Station) (serial : Serial)
  | beacon
deriving DecidableEq, Repr

/-- A queue request (R45). -/
structure Request where
  kind   : FrameKind
  dest   : Station
  cls    : Nat
  ackReq : Bool
  hop    : Nat
  tag    : Tag
deriving DecidableEq, Repr

/-- The admission answers (R45). -/
inductive Answer where
  | queued | merged | cancelled | held | dropped
deriving DecidableEq, Repr

/-- An outbound queue entry (R44). `number` is the model's own name of the entry. -/
structure QueueEntry where
  number   : Nat
  req      : Request
  enqueued : Moment
  retries  : Nat
  backoff  : Option Nat
  seq      : Option Serial
deriving DecidableEq, Repr

inductive ServicePhase where
  | keyup | sending | ackWait
deriving DecidableEq, Repr

/-- The in-service record (R50). `since` is when its phase began. -/
structure InService where
  entry    : Nat
  phase    : ServicePhase
  since    : Moment
  endTime  : Option Moment
  deferred : Bool
deriving DecidableEq, Repr

/-- The access procedure outside service (section 3.4). While the in-service record names an entry the
state is the record's phase, and `AccessPhase` is `idle` with no candidate. -/
inductive AccessPhase where
  | idle | inhibited | defer | gap | backoff
deriving DecidableEq, Repr

/-- The access procedure: its state, its candidate, and when the gap or slot it is timing began. -/
structure Access where
  phase     : AccessPhase
  candidate : Option Nat
  since     : Moment
deriving DecidableEq, Repr

structure Cau where
  queue        : List QueueEntry
  held         : Option Request
  inService    : Option InService
  mask         : Nat
  access       : Access
  rng          : BitVec 15
  beaconCount  : Nat
  beaconLoaded : Bool
  nextEntry    : Nat
deriving DecidableEq, Repr

/-! ## Neighbour Table -/

/-- A neighbour entry (R67). Its type, CAB or DISPATCH, is its station's range (`isDispatch`). -/
structure Neighbour where
  station     : Station
  duty        : Nat
  emergency   : Bool
  position    : Option Position
  lastHeard   : Nat
  framesHeard : Nat
deriving DecidableEq, Repr

/-- A key of the duplicate table with the tick count at its entry (R74). -/
structure DupKey where
  name    : DupName
  entered : Nat
deriving DecidableEq, Repr

inductive RelayState where
  | delay | queued | onAir
deriving DecidableEq, Repr

/-- A relay record (R75). -/
structure Relay where
  key       : RelayKey
  heardHop  : Nat
  payload   : List Byte
  slotsLeft : Nat
  state     : RelayState
deriving DecidableEq, Repr

/-- The neighbour table, duplicate table and relay schedule (chapter 4). `dups` stands oldest first.
`homeLevel` is the reachability level as last told to the TLU and the console (R72). -/
structure Nbt where
  ticks      : Nat
  neighbours : List Neighbour
  homeLevel  : Bool
  dups       : List DupKey
  relays     : List Relay
deriving DecidableEq, Repr

/-! ## Offer Contest Unit -/

/-- The ten entry states (section 5.1). -/
inductive OfferState where
  | passed | waiting | bid | yielded | late | won | taken | lost | declined | closed
deriving DecidableEq, Repr

inductive BidFrame where
  | none | inQueue | sent
deriving DecidableEq, Repr

/-- A bid as rank compares it (R85). -/
structure BidRank where
  score   : Nat
  vacant  : Nat
  station : Station
deriving DecidableEq, Repr

/-- A bid of the heard-bid list (R84). -/
structure HeardBid where
  rank      : BidRank
  withdrawn : Bool
deriving DecidableEq, Repr

/-- An offer entry (R83). `windowTaken` says that the window end has been taken, which decides on which
side of it a frame of the same moment falls (R90, R95). -/
structure OfferEntry where
  id            : OfferId
  arrival       : Moment
  pickup        : Position
  radius        : Nat
  text          : List Byte
  windowEnd     : Moment
  state         : OfferState
  ownScore      : Option Nat
  ownVacant     : Option Nat
  delayDeadline : Option Moment
  bidFrame      : BidFrame
  jobTimer      : Option Moment
  heard         : List HeardBid
  windowTaken   : Bool
deriving DecidableEq, Repr

/-- The offer table, in the order of arrival. -/
structure Ocu where
  offers : List OfferEntry
deriving DecidableEq, Repr

/-! ## Tariff sets and the Fare Meter -/

/-- A tariff's seven rates (R126). -/
structure Rates where
  f  : Nat
  d0 : Nat
  ud : Nat
  cd : Nat
  t0 : Nat
  ut : Nat
  ct : Nat
deriving DecidableEq, Repr

structure Tariff where
  enabled : Bool
  rates   : Rates
deriving DecidableEq, Repr

structure Band where
  startMinute : Nat
  tariffId    : Nat
deriving DecidableEq, Repr

structure ExtraDef where
  amount   : Nat
  maxCount : Nat
deriving DecidableEq, Repr

/-- A decoded tariff set: four tariffs, six bands, four extras (R126). -/
structure TariffSet where
  version : Nat
  tariffs : List Tariff
  bands   : List Band
  extras  : List ExtraDef
deriving DecidableEq, Repr

/-- A segment of a hire (R106). -/
structure Segment where
  tariffId        : Nat
  rates           : Rates
  ad              : Nat
  at_             : Nat
  nd              : Nat
  nt              : Nat
  distanceCounter : Nat
  timeCounter     : Nat
deriving DecidableEq, Repr

structure ExtraUse where
  id    : Nat
  count : Nat
deriving DecidableEq, Repr

inductive HireState where
  | opened | ended
deriving DecidableEq, Repr

structure HireFlags where
  cap         : Bool
  implausible : Bool
  powerGap    : Bool
  conflict    : Bool
deriving DecidableEq, Repr

/-- The hire record (R106). `closed` are the segments before the current one, in order. -/
structure HireRecord where
  state          : HireState
  startTime      : Option Nat
  endTime        : Option Nat
  offerId        : Option OfferId
  closed         : List Segment
  current        : Segment
  extras         : List ExtraUse
  extrasTable    : List ExtraDef
  pulsesPerKm    : Nat
  mmax           : Nat
  rounding       : Nat
  intervalMetres : Nat
  residue        : Nat
  totalMetres    : Nat
  flags          : HireFlags
  fare           : Nat
  payable        : Option Nat
deriving DecidableEq, Repr

/-- The Fare Meter: the hire record and the interval timer, which runs from `intervalSince` (R110).
`atInterval` is the hire record as the last interval end left it, which a start goes back to (R124); log 38
says what stands there before a first interval end. -/
structure Fmr where
  hire          : Option HireRecord
  intervalSince : Option Moment
  atInterval    : Option HireRecord
deriving DecidableEq, Repr

/-! ## Tariff and Log Unit -/

inductive ReportState where
  | unsent | inFlight | reported
deriving DecidableEq, Repr

structure SegmentCount where
  tariffId : Nat
  nd       : Nat
  nt       : Nat
deriving DecidableEq, Repr

/-- A HIRE record of the fare log (R132). -/
structure HireReport where
  hireNumber  : Nat
  startMinute : Option Nat
  endMinute   : Option Nat
  flags       : HireFlags
  offerId     : Option OfferId
  segments    : List SegmentCount
  extras      : List ExtraUse
  totalMetres : Nat
  paidMetres  : Nat
  waiting     : Nat
  fare        : Nat
  payable     : Nat
deriving DecidableEq, Repr

/-- The six shift totals (R137). -/
structure ShiftTotals where
  hires       : Nat
  payableSum  : Nat
  extrasSum   : Nat
  totalMetres : Nat
  paidMetres  : Nat
  waiting     : Nat
deriving DecidableEq, Repr

/-- A SHIFT record of the fare log (R132). -/
structure ShiftReport where
  startMinute : Option Nat
  endMinute   : Option Nat
  totals      : ShiftTotals
  counters    : Counters
  implausible : Nat
deriving DecidableEq, Repr

inductive LogBody where
  | hire (r : HireReport)
  | shift (r : ShiftReport)
deriving DecidableEq, Repr

/-- A record of the fare log. `number` is the model's own name of the record. -/
structure LogRecord where
  number : Nat
  body   : LogBody
  state  : ReportState
deriving DecidableEq, Repr

/-- The tariff staging buffer when not empty (section 7.2): each segment present with its bytes. -/
structure Staging where
  version  : Nat
  count    : Nat
  setCrc   : BitVec 16
  segments : List (Nat × List Byte)
  deadline : Moment
deriving DecidableEq, Repr

/-- The Tariff and Log Unit (chapter 7). `log` stands in the order of appending. -/
structure Tlu where
  active      : Option TariffSet
  pendingSet  : Option TariffSet
  staging     : Option Staging
  log         : List LogRecord
  hold        : Option Nat
  totals      : ShiftTotals
  implausible : Nat
  shiftStart  : Option Nat
  nextRecord  : Nat
deriving DecidableEq, Repr

/-! ## Message Store -/

inductive MsgKind where
  | direct | broadcast | system
deriving DecidableEq, Repr

inductive MsgState where
  | assembling | unread | read
deriving DecidableEq, Repr

/-- The notice keys (R140). -/
inductive NoticeKey where
  | jobGone | logFull | tariffNew
  | alarmNear (origin : Station)
deriving DecidableEq, Repr

inductive ReplyState where
  | queued | sent | delivered | failed
deriving DecidableEq, Repr

structure Reply where
  phrase : Nat
  number : Serial
  state  : ReplyState
deriving DecidableEq, Repr

/-- What names an entry: a station and message number, or a notice key (R141). -/
inductive MsgName where
  | message (source : Station) (number : Serial)
  | notice (key : NoticeKey)
deriving DecidableEq, Repr

/-- A message store entry (R140). `validityMinutes` waits for the completion (R144). `entry` is the
model's own name of the entry. -/
structure MsgEntry where
  entry           : Nat
  name            : MsgName
  kind            : MsgKind
  state           : MsgState
  pin             : Bool
  replyWanted     : Bool
  count           : Nat
  segments        : List (Nat × List Byte)
  assemblyAge     : Nat
  listAge         : Nat
  validityMinutes : Nat
  validityLeft    : Option Nat
  expired         : Bool
  reply           : Option Reply
deriving DecidableEq, Repr

/-- The Message Store (chapter 8). The complete entries of `entries` stand in list order, the youngest
first (R141). -/
structure Mst where
  entries      : List MsgEntry
  openEntry    : Option Nat
  replyCounter : Serial
  phrases      : List (List Byte)
  nextMsg      : Nat
deriving DecidableEq, Repr

/-! ## Console Controller -/

inductive DriverView where
  | none | list | message | menu
deriving DecidableEq, Repr

/-- The seven views (R162). -/
inductive View where
  | meter | offer | job | totals | list | message | menu
deriving DecidableEq, Repr

/-- One scroll pointer per view (R164). -/
structure Pointers where
  meter   : Nat
  offer   : Nat
  job     : Nat
  totals  : Nat
  list    : Nat
  message : Nat
  menu    : Nat
deriving DecidableEq, Repr

inductive KeyPrefix where
  | extra | tariff
deriving DecidableEq, Repr

/-- The key scanner (R169); `off` before the end of the lamp test. `down` says that the accepted key of
HELD still makes contact, and `repeatDue` is the moment of its next repeat (R170). -/
inductive Scanner where
  | off
  | free
  | settling (k : Key) (since : Moment)
  | held (k : Key) (down : Bool) (repeatDue : Moment)
  | locked
deriving DecidableEq, Repr

/-- How a lamp is driven (R172): dark, steadily lit, or blinking in the phase `on` since a moment. -/
inductive LampDrive where
  | dark
  | lit
  | blink (on : Bool) (since : Moment)
deriving DecidableEq, Repr

structure Lamps where
  roofVacant : LampDrive
  roofAlarm  : LampDrive
  ledRadio   : LampDrive
  ledMsg     : LampDrive
  ledOffer   : LampDrive
deriving DecidableEq, Repr

/-- The five buzzer patterns (R175). -/
inductive Tone where
  | alarmNear | offer | error | message | click
deriving DecidableEq, Repr

/-- What BUZZ drives (R175): nothing, a tone, the low tone or the tick; no rule gives them a pitch (log 43). -/
inductive Sound where
  | silent | tone | lowTone | tick
deriving DecidableEq, Repr

/-- How a pattern sounds (R175): `count` sounds of `length` ms, with `gap` ms between two of them. -/
structure Beats where
  sound  : Sound
  count  : Nat
  length : Nat
  gap    : Nat
deriving DecidableEq, Repr

/-- The Console Controller (chapter 9). `module` is the display module's copy, `shown` the view shown at
the last layout, `selection` the entry that the LIST pointer follows. The display is awake in PARK while
the wake timer runs. -/
structure Cns where
  display      : List (List Byte)
  module       : List (List Byte)
  view         : DriverView
  pointers     : Pointers
  shown        : Option View
  selection    : Option Nat
  keyPrefix    : Option KeyPrefix
  scanner      : Scanner
  contacts     : List Key
  releaseSince : Option Moment
  lamps        : Lamps
  stretchSince : Option Moment
  buzzer       : Option (Tone × Moment)
  level        : Nat
  target       : Nat
  dimSince     : Option Moment
  wakeSince    : Option Moment
deriving DecidableEq, Repr

/-! ## Emergency Unit -/

inductive EmuState where
  | idle | arming | active | acknowledged | covert | clearing
deriving DecidableEq, Repr

/-- The hold timer of the present press; `acted` once tHOLD has acted (R185). -/
structure HoldTimer where
  since : Moment
  acted : Bool
deriving DecidableEq, Repr

inductive SchedPhase where
  | fast (left : Nat)
  | slow
deriving DecidableEq, Repr

/-- The alarm schedule while it runs (R181): phase, slow period in ms, next due time. -/
structure Schedule where
  phase  : SchedPhase
  period : Nat
  due    : Moment
deriving DecidableEq, Repr

/-- The lockout timer (R187): running to a moment, or standing with a time left (R193, FAULT). -/
inductive Lockout where
  | running (deadline : Moment)
  | standing (leftMs : Nat)
deriving DecidableEq, Repr

/-- An alarm list entry (R190). -/
structure AlarmEntry where
  origin      : Station
  lastSerial  : Serial
  lastRelayed : Option Serial
  seen        : Bool
  lastHeard   : Moment
deriving DecidableEq, Repr

/-- The Emergency Unit (R178). The alarm list stands in the order of last heard, the earliest first.
`keptPeriod` is the slow period of the schedule that CLEARING has stopped (R181, R185). -/
structure Emu where
  state       : EmuState
  holdTimer   : Option HoldTimer
  ownSerial   : Serial
  firstSerial : Option Serial
  seen        : Bool
  duress      : Bool
  elapsed     : Nat
  schedule    : Option Schedule
  keptPeriod  : Nat
  clearsSent  : Nat
  clearDue    : Option Moment
  code        : List (Fin 10)
  attempts    : Nat
  lockout     : Option Lockout
  alarms      : List AlarmEntry
deriving DecidableEq, Repr

/-! ## The state -/

/-- The 4120: its lines, its eleven blocks, the model's clock (log 2), the counter of free values, and
the queue of waiting commands, first in, first out. -/
structure State where
  lines   : Lines
  stc     : Stc
  dtc     : Dtc
  fre     : Fre
  cau     : Cau
  nbt     : Nbt
  ocu     : Ocu
  fmr     : Fmr
  tlu     : Tlu
  mst     : Mst
  cns     : Cns
  emu     : Emu
  now     : Moment
  tickAt  : Moment
  slotAt  : Moment
  free    : Nat
  pending : List Instr
deriving DecidableEq, Repr

/-- The 4120 has no fault that stops it: nothing raises one (INVENTORY.md, Faults). -/
inductive Fault where
deriving DecidableEq, Repr

/-- Why a command has no meaning. -/
inductive Refusal where
  /-- Raised only by an arm of `exec` for a command not modelled yet; no arm is. Safe. -/
  | notModelled (mnemonic : String)
deriving DecidableEq, Repr

/-! ## Before the first start -/

/-- A display memory with nothing to show: 8 rows of 24 spaces (R158). -/
def blankDisplay : List (List Byte) := List.replicate 8 (List.replicate 24 0x20#8)

def Lines.reset : Lines :=
  { cd := false, quiet := false, ignOn := false, alarmPressed := false, senseMv := 1200,
    loopbackStrap := false, resetAsserted := true, mainPower := true }

/-- The copy of the image before any image has been read (log 4). -/
def configUnread : Config :=
  { ownStation := 0, fleet := 0, home := 0, pulsesPerKm := 0, rounding := 0, cancelCode := 0,
    duressCode := none, tBeacon := 0, tNbAge := 0, tReach := 0, tAccept := 0, tConfirm := 0, wv := 0,
    mmax := 0, tHoldMs := 0, relayEnable := false, senseLevel := 2,
    console := { dayLevel := 0, nightLevel := 0, nightStart := 0, nightEnd := 0, dimming := false,
                 keyClick := false, roofAlarm := false } }

def Stc.reset : Stc :=
  { phase := .halted, phaseSince := 0, startCause := .cold, pendingCause := some .cold,
    loopback := false, config := configUnread, fault := true, power := .run, parkSince := none,
    supply := .normal, retStation := 0, retFleet := 0, powerLost := true, starts := 0 }

/-- R23, cold start. -/
def Dtc.reset : Dtc :=
  { duty := .offShift, vacantSeconds := 0, pos := ⟨0, 0⟩, fixValid := false, posAge := 0,
    timeOfDay := 0, timeValid := false, job := none }

def Counters.reset : Counters :=
  { good := 0, transmissions := 0, badCrc := 0, foreign := 0, txFailures := 0 }

/-- R43, cold start. -/
def Fre.reset : Fre :=
  { seq := 0, rx := .off, window := 0, gathering := none, pendingAck := none, ackTx := none,
    onAir := none, counters := Counters.reset }

def Access.reset : Access := { phase := .idle, candidate := none, since := 0 }

/-- R66, cold start. -/
def Cau.reset : Cau :=
  { queue := [], held := none, inService := none, mask := 4, access := Access.reset, rng := 1,
    beaconCount := 0, beaconLoaded := false, nextEntry := 0 }

/-- R82. -/
def Nbt.reset : Nbt := { ticks := 0, neighbours := [], homeLevel := false, dups := [], relays := [] }

/-- R105. -/
def Ocu.reset : Ocu := { offers := [] }

/-- R125, cold start. -/
def Fmr.reset : Fmr := { hire := none, intervalSince := none, atInterval := none }

def ShiftTotals.zero : ShiftTotals :=
  { hires := 0, payableSum := 0, extrasSum := 0, totalMetres := 0, paidMetres := 0, waiting := 0 }

/-- R139, cold start; no set has been taken from an image. -/
def Tlu.reset : Tlu :=
  { active := none, pendingSet := none, staging := none, log := [], hold := none,
    totals := ShiftTotals.zero, implausible := 0, shiftStart := none, nextRecord := 0 }

/-- R157, cold start. -/
def Mst.reset : Mst :=
  { entries := [], openEntry := none, replyCounter := 0, phrases := List.replicate 9 [], nextMsg := 0 }

def Pointers.zero : Pointers :=
  { meter := 0, offer := 0, job := 0, totals := 0, list := 0, message := 0, menu := 0 }

def Lamps.all (d : LampDrive) : Lamps :=
  { roofVacant := d, roofAlarm := d, ledRadio := d, ledMsg := d, ledOffer := d }

/-- R177; the lamps are dark while RESET is held (log 5). -/
def Cns.reset : Cns :=
  { display := blankDisplay, module := blankDisplay, view := .none, pointers := Pointers.zero,
    shown := none, selection := none, keyPrefix := none, scanner := .off, contacts := [],
    releaseSince := none, lamps := Lamps.all .dark, stretchSince := none, buzzer := none, level := 0,
    target := 0, dimSince := none, wakeSince := none }

/-- R193, cold start. -/
def Emu.reset : Emu :=
  { state := .idle, holdTimer := none, ownSerial := 0, firstSerial := none, seen := false,
    duress := false, elapsed := 0, schedule := none, keptPeriod := 30000, clearsSent := 0, clearDue := none, code := [],
    attempts := 0, lockout := none, alarms := [] }

/-- The 4120 with RESET held and main power present, before its first START (log 4). Every item of a
start table stands at its cold start value. -/
def State.reset : State :=
  { lines := Lines.reset, stc := Stc.reset, dtc := Dtc.reset, fre := Fre.reset, cau := Cau.reset,
    nbt := Nbt.reset, ocu := Ocu.reset, fmr := Fmr.reset, tlu := Tlu.reset, mst := Mst.reset,
    cns := Cns.reset, emu := Emu.reset, now := 0, tickAt := 0, slotAt := 0, free := 0, pending := [] }

end Sys2Proof.Machine
end

