-- ==== Sys2Proof/Machine/Ops.lean ====
section
/-! DEFINITION. The fixed parameters, the arithmetic and lists the rules share, the model's clock, and
the reading of lines and configuration. -/

namespace Sys2Proof.Machine

open Sys2Proof

/-! ## Fixed parameters, in milliseconds unless their unit is named (00, Parameters) -/

def tSlot : Nat := 20
def tAckGap : Nat := 10
def tAckWait : Nat := 80
def tKeyup : Nat := 5
def tLampTest : Nat := 1000
def tTick : Nat := 1000
def tPark : Nat := 60000
def tWake : Nat := 30000
def tDim : Nat := 100
def tStretch : Nat := 100
def tDebounce : Nat := 20
def tRepeatFirst : Nat := 500
def tRepeat : Nat := 150
def tAlm1 : Nat := 5000
def tAlm2 : Nat := 30000
def tAlm3 : Nat := 60000
def tClear : Nat := 5000
def tLock : Nat := 300000
def tAlarmList : Nat := 300000
def tOfferHold : Nat := 60000
def tTariffAsm : Nat := 60000
/-- Seconds. -/
def tPosStale : Nat := 10
/-- Seconds. -/
def tActive : Nat := 30
/-- Seconds. -/
def tDupAge : Nat := 60
/-- Seconds. -/
def tAssemble : Nat := 30
def queueCapacity : Nat := 16
def neighbourCapacity : Nat := 24
def dupCapacity : Nat := 32
def relayCapacity : Nat := 8
def offerCapacity : Nat := 8
def heardCapacity : Nat := 8
def segmentCapacity : Nat := 4
def logCapacity : Nat := 64
def storeCapacity : Nat := 24
def alarmCapacity : Nat := 4
/-- The fare, distance and paid caps (00, Parameters). -/
def fareCap : Nat := 999999
def distanceCap : Nat := 999999
def waitingCap : Nat := 359999
/-- Vacant seconds saturate here, at 255 minutes (R1). -/
def vacantCap : Nat := 15300

/-! ## Arithmetic -/

/-- Clamp to the nearer limit (00, Out-of-range values). -/
def clamp (lo hi x : Nat) : Nat := max lo (min hi x)

/-- Add at a counter that saturates. -/
def satAdd (limit x y : Nat) : Nat := min limit (x + y)

/-- Increase a counter that wraps from `limit` to 0. -/
def wrapInc (limit x : Nat) : Nat := if x ≥ limit then 0 else x + 1

/-- The absolute difference. -/
def absDiff (a b : Nat) : Nat := (a - b) + (b - a)

/-- The Manhattan distance in grid steps (00, Positions). -/
def gridDistance (p q : Position) : Nat := absDiff p.east q.east + absDiff p.north q.north

/-- A serial s is newer than L when (s − L) modulo 256 lies in 1 to 127 (R77, R190). -/
def newerSerial (s l : Serial) : Bool := 1 ≤ (s - l).toNat && (s - l).toNat ≤ 127

/-! ## Lists -/

/-- Change every element that meets a test. -/
def updateWhere {α : Type} (p : α → Bool) (f : α → α) (l : List α) : List α :=
  l.map fun a => if p a then f a else a

/-- Remove the first element that meets a test. -/
def removeFirst {α : Type} (p : α → Bool) : List α → List α
  | [] => []
  | a :: l => if p a then l else a :: removeFirst p l

/-- The last element that meets a test. -/
def findLast {α : Type} (p : α → Bool) : List α → Option α
  | [] => none
  | a :: l => match findLast p l with
    | some b => some b
    | none => if p a then some a else none

/-- The element that `better` prefers to every other; of equals, the first. -/
def pick {α : Type} (better : α → α → Bool) : List α → Option α
  | [] => none
  | a :: l => match pick better l with
    | none => some a
    | some b => if better b a then some b else some a

/-! ## The model's clock (log 2) -/

/-- Bring the clock to a moment that has been reached, never back. -/
def State.reach (t : Moment) (s : State) : State := { s with now := max s.now t }

/-- The next value of the free-value counter (log 11, log 12). -/
def State.nextFree (s : State) : State := { s with free := s.free + 1 }

/-! ## Configuration -/

/-- Bounds of a field to which a free value is put. -/
def boundConsole (c : ConsoleConfig) : ConsoleConfig :=
  { c with dayLevel := c.dayLevel % 16, nightLevel := c.nightLevel % 16,
           nightStart := c.nightStart % 1440, nightEnd := c.nightEnd % 1440 }

/-- The console's items: from the copy, or free in FAULT (R195, log 10). -/
def State.consoleConfig (s : State) : ConsoleConfig :=
  if s.stc.fault then boundConsole (Config.faultConsole s.stc.starts) else s.stc.config.console

/-- The own station number (00, Station numbers). -/
def State.own (s : State) : Station := s.stc.config.ownStation

/-- A dispatch station: 3,840 to 4,095. -/
def isDispatch (n : Station) : Bool := 3840 ≤ n && n ≤ 4095

/-- A cab station: 1 to 3,839. -/
def isCab (n : Station) : Bool := 1 ≤ n && n ≤ 3839

/-! ## Levels that rules read as they stand -/

/-- The 4120 runs: after the end of the lamp test, and neither RESET nor loss of power since (R194). -/
def State.running (s : State) : Bool := s.stc.phase = .running

/-- The position, absent while fix-valid is clear (R1, R20). -/
def State.position (s : State) : Option Position := if s.dtc.fixValid then some s.dtc.pos else none

/-- The time of day, absent while invalid (R19). -/
def State.time (s : State) : Option Nat := if s.dtc.timeValid then some s.dtc.timeOfDay else none

/-- The minute of day: floor(time of day / 60). -/
def State.minute (s : State) : Option Nat := s.time.map (· / 60)

/-- Vacant minutes: floor(vacant seconds / 60) (R1, R21). -/
def State.vacantMinutes (s : State) : Nat := s.dtc.vacantSeconds / 60

/-- The inhibits that hold the access procedure in INHIBITED: QUIET, SENSE low, FAULT (R59). -/
def State.inhibited (s : State) : Bool := s.lines.quiet || s.stc.supply = .low || s.stc.fault

/-- TXKEY is asserted: an ACK is keyed, or a queued frame in KEYUP or SENDING outside loopback (R24,
R38, R58). -/
def State.txKey (s : State) : Bool :=
  s.fre.ackTx.isSome ||
    match s.cau.inService with
    | some r => r.phase ≠ .ackWait && !s.stc.loopback
    | none => false

/-- The moment of the first bit of the transmission in progress (R58, R38). -/
def State.bitsSince (s : State) : Moment :=
  match s.fre.ackTx, s.cau.inService with
  | some a, _ => a.since
  | none, some r => r.since
  | none, none => s.now

/-- The level of TXD now (R24): the bit of the frame on the air whose turn it is at 9,600 bit/s (log 40), and
1 between frames and while TXKEY is released. -/
def State.txd (s : State) : Bool :=
  if s.txKey then
    match s.fre.onAir with
    | some t => t.txd.getD ((s.now - s.bitsSince) * 9600 / 1000) true
    | none => true
  else true

/-- A carrier is on the channel: CD asserted, or the 4120's own carrier, for which the radio module
must assert CD too (R24; log 14). -/
def State.channelBusy (s : State) : Bool := s.lines.cd || s.txKey

/-- The emergency flag of the status header (R22). -/
def State.emergencyFlag (s : State) : Bool :=
  match s.emu.state with
  | .active | .acknowledged | .covert => true
  | .idle | .arming | .clearing => false

/-- The emergency state is IDLE. -/
def State.emergencyIdle (s : State) : Bool := s.emu.state = .idle

/-- The neighbour entry of a station. -/
def State.neighbour (s : State) (n : Station) : Option Neighbour :=
  s.nbt.neighbours.find? (·.station = n)

/-- The age of an item set at a tick count (R70). -/
def State.age (s : State) (setAt : Nat) : Nat := s.nbt.ticks - setAt

/-- Home dispatch is reachable: its entry stands with an age below tREACH (R72). -/
def State.homeReachable (s : State) : Bool :=
  match s.neighbour s.stc.config.home with
  | some e => s.age e.lastHeard < s.stc.config.tReach
  | none => false

/-- The active-neighbour count (R71). -/
def State.activeNeighbours (s : State) : Nat :=
  (s.nbt.neighbours.filter fun e => s.age e.lastHeard < tActive).length

/-- The three conditions of the park timer (R199). -/
def State.parkConditions (s : State) : Bool :=
  !s.lines.ignOn && (s.dtc.duty = .offShift || s.dtc.duty = .onBreak) && s.emergencyIdle

/-- An offer entry by its id. -/
def State.offer? (s : State) (id : OfferId) : Option OfferEntry := s.ocu.offers.find? (·.id = id)

/-- The WON entry (R6: there is at most one). -/
def State.wonOffer? (s : State) : Option OfferEntry := s.ocu.offers.find? (·.state = .won)

/-- A message store entry by its number. -/
def State.msg? (s : State) (n : Nat) : Option MsgEntry := s.mst.entries.find? (·.entry = n)

/-- An entry is complete: UNREAD or READ (R141). -/
def MsgEntry.complete (e : MsgEntry) : Bool := e.state ≠ .assembling

/-- The complete entries in list order (R141). -/
def State.messageList (s : State) : List MsgEntry := s.mst.entries.filter MsgEntry.complete

/-- The pinned entries in list order (R148, R160). -/
def State.pinned (s : State) : List MsgEntry := s.messageList.filter (·.pin)

/-- A queue entry by its number. -/
def State.entry? (s : State) (n : Nat) : Option QueueEntry := s.cau.queue.find? (·.number = n)

/-- A queue entry is the one in service (R50). -/
def State.isInService (s : State) (e : QueueEntry) : Bool :=
  match s.cau.inService with
  | some r => r.entry = e.number
  | none => false

/-! ## Changes of one record -/

/-- Change an offer entry. -/
def State.updOffer (id : OfferId) (f : OfferEntry → OfferEntry) (s : State) : State :=
  { s with ocu := { s.ocu with offers := updateWhere (·.id = id) f s.ocu.offers } }

/-- Free an offer entry with its heard-bid list and timers (R104). -/
def State.freeOffer (id : OfferId) (s : State) : State :=
  { s with ocu := { s.ocu with offers := s.ocu.offers.filter (·.id ≠ id) } }

/-- Change a message store entry. -/
def State.updMsg (n : Nat) (f : MsgEntry → MsgEntry) (s : State) : State :=
  { s with mst := { s.mst with entries := updateWhere (·.entry = n) f s.mst.entries } }

/-- Change a fare log record's report state. -/
def State.setReport (n : Nat) (r : ReportState) (s : State) : State :=
  { s with tlu := { s.tlu with log := updateWhere (·.number = n) (fun x => { x with state := r }) s.tlu.log } }

/-- Change a relay record. -/
def State.updRelay (k : RelayKey) (f : Relay → Relay) (s : State) : State :=
  { s with nbt := { s.nbt with relays := updateWhere (·.key = k) f s.nbt.relays } }

/-- Free a relay record (R75). -/
def State.freeRelay (k : RelayKey) (s : State) : State :=
  { s with nbt := { s.nbt with relays := s.nbt.relays.filter (·.key ≠ k) } }

/-- Change a queue entry. -/
def State.updEntry (n : Nat) (f : QueueEntry → QueueEntry) (s : State) : State :=
  { s with cau := { s.cau with queue := updateWhere (·.number = n) f s.cau.queue } }

end Sys2Proof.Machine
end

