-- ==== Sys2Proof/Machine/Operands.lean ====
section
/-! DEFINITION. The byte layouts of the air frames (section 2.7): codes, header, payloads, CRC and the
encoded tariff set. -/

namespace Sys2Proof.Machine

open Sys2Proof

/-! ## Bytes -/

/-- The byte of a number below 256; higher bits are dropped. -/
def byte (n : Nat) : Byte := BitVec.ofNat 8 n

/-- Two bytes, high byte first (R24). -/
def be16 (n : Nat) : List Byte := [byte (n / 256), byte n]

/-- Three bytes, high byte first. -/
def be24 (n : Nat) : List Byte := [byte (n / 65536), byte (n / 256), byte n]

/-- Four bytes, high byte first. -/
def be32 (n : Nat) : List Byte := [byte (n / 16777216), byte (n / 65536), byte (n / 256), byte n]

/-- The number in two bytes. -/
def num16 (hi lo : Byte) : Nat := hi.toNat * 256 + lo.toNat

/-- A 12-bit field of a byte pair: the low 12 bits, the top 4 spare (section 2.7). -/
def num12 (hi lo : Byte) : Nat := hi.toNat % 16 * 256 + lo.toNat

/-- A flag as a number at a bit. -/
def flagBit (b : Bool) (n : Nat) : Nat := if b then 2 ^ n else 0

/-- Bit `n` of a byte. -/
def bitOf (b : Byte) (n : Nat) : Bool := b.toNat / 2 ^ n % 2 = 1

/-! ## The CRC (R26) -/

/-- One bit: polynomial x^16 + x^12 + x^5 + 1, most significant bit first. -/
def crcStep (c : BitVec 16) : BitVec 16 :=
  if c.msb then (c <<< 1) ^^^ 0x1021#16 else c <<< 1

/-- One byte. -/
def crcByte (c : BitVec 16) (b : Byte) : BitVec 16 :=
  let c := c ^^^ (b.setWidth 16 <<< 8)
  crcStep (crcStep (crcStep (crcStep (crcStep (crcStep (crcStep (crcStep c)))))))

/-- The CRC of R26: from 0xFFFF with no final inversion. -/
def crc16 (l : List Byte) : BitVec 16 := l.foldl crcByte 0xFFFF#16

/-! ## Codes -/

/-- Section 1.2. -/
def dutyCode : DutyState → Nat
  | .offShift => 0 | .vacant => 1 | .pending => 2 | .assigned => 3 | .hired => 4 | .paying => 5
  | .onBreak => 6

/-- Section 2.7.1: 0 none, 1 COLD, 2 WARM_POWER, 3 WARM_RESET. -/
def causeCode : Option StartCause → Nat
  | none => 0 | some .cold => 1 | some .warmPower => 2 | some .warmReset => 3

/-- Section 2.7.2. -/
def kindCode : FrameKind → Nat
  | .beacon => 0 | .offer => 1 | .bid => 2 | .withdraw => 3 | .take => 4 | .release => 5
  | .confirm => 6 | .msg => 7 | .ack => 8 | .fare => 9 | .tariff => 10 | .alarm => 11
  | .alarmClear => 12 | .alarmSeen => 13

/-- The assigned kind of a code; 14 and 15 are unassigned (R33). -/
def kindOfCode : Nat → Option FrameKind
  | 0 => some .beacon | 1 => some .offer | 2 => some .bid | 3 => some .withdraw | 4 => some .take
  | 5 => some .release | 6 => some .confirm | 7 => some .msg | 8 => some .ack | 9 => some .fare
  | 10 => some .tariff | 11 => some .alarm | 12 => some .alarmClear | 13 => some .alarmSeen
  | _ => none

/-- The frame kind of a relayed alarm. -/
def alarmFrameKind : AlarmKind → FrameKind
  | .alarm => .alarm
  | .clear => .alarmClear

/-! ## The header (section 2.7.1) -/

/-- The 13 header bytes; every spare bit is 0 (R28). -/
def encodeHeader (kind : Nat) (h : Header) (length : Nat) : List Byte :=
  be16 h.fleet ++
  [ byte (kind * 16 + h.hop * 4 + flagBit h.ackReq 1),
    byte (h.source / 16),
    byte (h.source % 16 * 16 + h.dest / 256),
    byte h.dest,
    h.seq,
    byte (h.duty * 32 + flagBit h.emergency 4 + flagBit h.fixValid 3 + h.cause * 2) ] ++
  be16 h.position.east ++ be16 h.position.north ++ [byte length]

/-- The header of 13 bytes: kind, fields and payload length; spare bits are ignored. -/
def decodeHeader : List Byte → Option (Nat × Header × Nat)
  | [f1, f0, k, s1, sd, d0, q, st, e1, e0, n1, n0, len] =>
    some (k.toNat / 16,
      { fleet := num16 f1 f0, hop := k.toNat / 4 % 4, ackReq := bitOf k 1,
        source := s1.toNat * 16 + sd.toNat / 16, dest := sd.toNat % 16 * 256 + d0.toNat, seq := q,
        duty := st.toNat / 32, emergency := bitOf st 4, fixValid := bitOf st 3,
        cause := st.toNat / 2 % 4, position := ⟨num16 e1 e0, num16 n1 n0⟩ },
      len.toNat)
  | _ => none

/-- The frame's bytes after preamble and sync word: header, payload, CRC high byte first (R25, R26). -/
def frameBytes (kind : Nat) (f : AirFrame) : List Byte :=
  let body := encodeHeader kind f.header f.payload.length ++ f.payload
  body ++ be16 (crc16 body).toNat

/-- The preamble and the sync word 0xB34E that stand before the header (R25). -/
def frameLead : List Byte := [0xAA#8, 0xAA#8, 0xAA#8, 0xAA#8, 0xB3#8, 0x4E#8]

/-- The bits of a byte, most significant bit first (R24). -/
def byteBits (b : Byte) : List Bool :=
  [b.getMsbD 0, b.getMsbD 1, b.getMsbD 2, b.getMsbD 3, b.getMsbD 4, b.getMsbD 5, b.getMsbD 6, b.getMsbD 7]

/-- The bits of a frame on the air: preamble, sync word, header, payload and CRC (R24, R25). -/
def airBits (kind : Nat) (f : AirFrame) : List Bool := (frameLead ++ frameBytes kind f).flatMap byteBits

/-- The airtime in bits of a frame with a payload of L bytes (R25). -/
def airtimeBits (payloadLength : Nat) : Nat := (21 + payloadLength) * 8

/-- The airtime in milliseconds, rounded up (9,600 bit/s; log 25). -/
def airtimeMs (payloadLength : Nat) : Nat := (airtimeBits payloadLength * 1000 + 9599) / 9600

/-! ## Payloads (section 2.7.2) -/

/-- An offer id in three bytes: the dispatch station in 12 bits of a pair, then the serial. -/
def encodeOfferId (i : OfferId) : List Byte := be16 i.dispatch ++ [i.serial]

structure OfferPayload where
  serial : Serial
  pickup : Position
  radius : Nat
  window : Nat
  text   : List Byte
deriving DecidableEq, Repr

/-- OFFER: 9 bytes and the text, its length 0 to 32; the window is clamped to 5 to 100 (R33). -/
def parseOffer : List Byte → Option OfferPayload
  | sn :: e1 :: e0 :: n1 :: n0 :: r1 :: r0 :: w :: tl :: text =>
    if tl.toNat ≤ 32 ∧ text.length = tl.toNat then
      some { serial := sn, pickup := ⟨num16 e1 e0, num16 n1 n0⟩, radius := num16 r1 r0,
             window := clamp 5 100 w.toNat, text := text }
    else none
  | _ => none

structure BidPayload where
  id     : OfferId
  score  : Nat
  vacant : Nat
deriving DecidableEq, Repr

/-- BID and TAKE: 6 bytes, the score in bits 14 to 0. -/
def parseBid : List Byte → Option BidPayload
  | [d1, d0, sn, s1, s0, v] =>
    some { id := ⟨num12 d1 d0, sn⟩, score := num16 s1 s0 % 32768, vacant := v.toNat }
  | _ => none

def encodeBid (p : BidPayload) : List Byte := encodeOfferId p.id ++ be16 p.score ++ [byte p.vacant]

/-- WITHDRAW and RELEASE: 3 bytes. -/
def parseOfferId : List Byte → Option OfferId
  | [d1, d0, sn] => some ⟨num12 d1 d0, sn⟩
  | _ => none

structure ConfirmPayload where
  serial : Serial
  winner : Station
deriving DecidableEq, Repr

/-- CONFIRM: 3 bytes. -/
def parseConfirm : List Byte → Option ConfirmPayload
  | [sn, w1, w0] => some ⟨sn, num12 w1 w0⟩
  | _ => none

structure MsgPayload where
  number      : Serial
  index       : Nat
  count       : Nat
  pin         : Bool
  replyWanted : Bool
  isReply     : Bool
  validity    : Nat
  replyTo     : Serial
  phrase      : Nat
  text        : List Byte
deriving DecidableEq, Repr

/-- MSG: 8 bytes and the text, its length 0 to 40; count 1 to 8, index 1 to the count (R33). -/
def parseMsg : List Byte → Option MsgPayload
  | n :: ic :: fl :: v1 :: v0 :: rt :: ph :: tl :: text =>
    let index := ic.toNat / 16
    let count := ic.toNat % 16
    if tl.toNat ≤ 40 ∧ text.length = tl.toNat ∧ 1 ≤ count ∧ count ≤ 8 ∧ 1 ≤ index ∧ index ≤ count then
      some { number := n, index := index, count := count, pin := bitOf fl 7, replyWanted := bitOf fl 6,
             isReply := bitOf fl 5, validity := num16 v1 v0, replyTo := rt, phrase := ph.toNat,
             text := text }
    else none
  | _ => none

def encodeMsg (p : MsgPayload) : List Byte :=
  [ p.number, byte (p.index * 16 + p.count),
    byte (flagBit p.pin 7 + flagBit p.replyWanted 6 + flagBit p.isReply 5) ] ++ be16 p.validity ++
  [ p.replyTo, byte p.phrase, byte p.text.length ] ++ p.text

structure AckPayload where
  kind : Nat
  seq  : Serial
deriving DecidableEq, Repr

/-- ACK: 2 bytes. -/
def parseAck : List Byte → Option AckPayload
  | [k, q] => some ⟨k.toNat % 16, q⟩
  | _ => none

def encodeAck (p : AckPayload) : List Byte := [byte p.kind, p.seq]

/-- FARE: a HIRE report of 27 + 7 × segments + extras bytes, or a SHIFT report of 36 (section 2.7.3). -/
def fareWellFormed : List Byte → Bool
  | t :: rest =>
    if t.toNat = 1 then
      match rest.drop 7 with
      | c :: _ =>
        let segs := c.toNat / 16
        let extras := c.toNat % 16
        1 ≤ segs && segs ≤ 4 && extras ≤ 4 && rest.length + 1 = 27 + 7 * segs + extras
      | [] => false
    else t.toNat = 2 && rest.length + 1 = 36
  | [] => false

structure TariffPayload where
  version : Nat
  index   : Nat
  count   : Nat
  setCrc  : BitVec 16
  bytes   : List Byte
deriving DecidableEq, Repr

/-- TARIFF: 6 to 61 bytes; count 1 to 4, index 1 to the count (R33). -/
def parseTariff : List Byte → Option TariffPayload
  | v1 :: v0 :: ic :: c1 :: c0 :: bytes =>
    let index := ic.toNat / 16
    let count := ic.toNat % 16
    if 1 ≤ bytes.length ∧ bytes.length ≤ 56 ∧ 1 ≤ count ∧ count ≤ 4 ∧ 1 ≤ index ∧ index ≤ count then
      some { version := num16 v1 v0, index := index, count := count, setCrc := c1 ++ c0, bytes := bytes }
    else none
  | _ => none

structure AlarmPayload where
  origin   : Station
  serial   : Serial
  duress   : Bool
  seen     : Bool
  fixValid : Bool
  duty     : Nat
  elapsed  : Nat
  position : Position
  job      : Option OfferId
deriving DecidableEq, Repr

/-- ALARM and ALARM_CLEAR: 11 bytes, or 14 with job present. -/
def parseAlarm : List Byte → Option AlarmPayload
  | o1 :: o0 :: sn :: fl :: du :: l1 :: l0 :: e1 :: e0 :: n1 :: n0 :: rest =>
    let job : Option (Option OfferId) :=
      match bitOf fl 4, rest with
      | false, [] => some none
      | true, [d1, d0, js] => some (some ⟨num12 d1 d0, js⟩)
      | _, _ => none
    job.map fun j =>
      { origin := num12 o1 o0, serial := sn, duress := bitOf fl 7, seen := bitOf fl 6,
        fixValid := bitOf fl 5, duty := du.toNat % 8, elapsed := num16 l1 l0,
        position := ⟨num16 e1 e0, num16 n1 n0⟩, job := j }
  | _ => none

def encodeAlarm (p : AlarmPayload) : List Byte :=
  be16 p.origin ++
  [ p.serial,
    byte (flagBit p.duress 7 + flagBit p.seen 6 + flagBit p.fixValid 5 + flagBit p.job.isSome 4),
    byte p.duty ] ++
  be16 p.elapsed ++ be16 p.position.east ++ be16 p.position.north ++
  match p.job with
  | some i => encodeOfferId i
  | none => []

/-- The origin position of an alarm copy, absent with fix-valid clear (section 2.7.2, note 2). -/
def AlarmPayload.originPosition (p : AlarmPayload) : Option Position :=
  if p.fixValid then some p.position else none

/-- A relayed alarm payload with its SEEN flag set when it has been seen (R79). -/
def markSeen (seen : Bool) : List Byte → List Byte
  | o1 :: o0 :: sn :: fl :: rest => o1 :: o0 :: sn :: (if seen then fl ||| 0x40#8 else fl) :: rest
  | l => l

/-- ALARM_SEEN: 1 byte, the origin serial. -/
def parseAlarmSeen : List Byte → Option Serial
  | [sn] => some sn
  | _ => none

/-- The payload passes the form tests of R33 for its kind. -/
def payloadWellFormed : FrameKind → List Byte → Bool
  | .beacon, p => p.isEmpty
  | .offer, p => (parseOffer p).isSome
  | .bid, p | .take, p => (parseBid p).isSome
  | .withdraw, p | .release, p => (parseOfferId p).isSome
  | .confirm, p => (parseConfirm p).isSome
  | .msg, p => (parseMsg p).isSome
  | .ack, p => (parseAck p).isSome
  | .fare, p => fareWellFormed p
  | .tariff, p => (parseTariff p).isSome
  | .alarm, p | .alarmClear, p => (parseAlarm p).isSome
  | .alarmSeen, p => (parseAlarmSeen p).isSome

/-- The source range test of R34. -/
def sourceAccepted : FrameKind → Station → Bool
  | .offer, n | .confirm, n | .tariff, n | .alarmSeen, n | .msg, n => isDispatch n
  | .bid, n | .withdraw, n | .take, n | .release, n | .alarm, n | .alarmClear, n => isCab n
  | .beacon, _ | .ack, _ | .fare, _ => true

/-- The kind has an owner in R35, so a frame of it can ask for an acknowledgement (R36). -/
def kindHasOwner : FrameKind → Bool
  | .beacon | .fare => false
  | .offer | .bid | .withdraw | .take | .release | .confirm | .msg | .ack | .tariff | .alarm
  | .alarmClear | .alarmSeen => true

/-- The kinds whose duplicates are keyed on origin and serial (R36). -/
def isAlarmFamily : FrameKind → Bool
  | .alarm | .alarmClear | .alarmSeen => true
  | .beacon | .offer | .bid | .withdraw | .take | .release | .confirm | .msg | .ack | .fare
  | .tariff => false

/-! ## Fare reports (section 2.7.3) -/

/-- A field of `n` bytes at an offset whose presence flag is clear: no value is given (log 13). -/
def absentBytes (record offset n : Nat) : List Byte :=
  (List.range n).map fun i => Config.absentFieldByte record (offset + i)

/-- A minute of day, or bytes without a value. -/
def encodeMinute (record offset : Nat) : Option Nat → List Byte
  | some m => be16 m
  | none => absentBytes record offset 2

/-- The HIRE report. -/
def encodeHireReport (record : Nat) (r : HireReport) : List Byte :=
  byte 1 :: be16 r.hireNumber ++
  [ byte (flagBit r.flags.cap 7 + flagBit r.flags.implausible 6 + flagBit r.flags.powerGap 5 +
      flagBit r.flags.conflict 4 + flagBit r.offerId.isSome 3 + flagBit r.startMinute.isSome 2 +
      flagBit r.endMinute.isSome 1) ] ++
  encodeMinute record 4 r.startMinute ++ encodeMinute record 6 r.endMinute ++
  [ byte (r.segments.length * 16 + r.extras.length) ] ++
  (match r.offerId with
    | some i => encodeOfferId i
    | none => absentBytes record 9 3) ++
  be24 r.totalMetres ++ be24 r.paidMetres ++ be24 r.waiting ++ be24 r.fare ++ be24 r.payable ++
  r.segments.flatMap (fun g => byte g.tariffId :: be24 g.nd ++ be24 g.nt) ++
  r.extras.map fun x => byte (x.id * 16 + x.count)

/-- The SHIFT report. -/
def encodeShiftReport (record : Nat) (r : ShiftReport) : List Byte :=
  [ byte 2, byte (flagBit r.startMinute.isSome 7 + flagBit r.endMinute.isSome 6) ] ++
  encodeMinute record 2 r.startMinute ++ encodeMinute record 4 r.endMinute ++
  be16 r.totals.hires ++ be32 r.totals.payableSum ++ be32 r.totals.extrasSum ++
  be32 r.totals.totalMetres ++ be32 r.totals.paidMetres ++ be32 r.totals.waiting ++
  be16 r.counters.good ++ be16 r.counters.transmissions ++
  [ byte r.counters.badCrc, byte r.counters.foreign, byte r.counters.txFailures, byte r.implausible ]

/-- The FARE payload of a record (R135). -/
def encodeFare (r : LogRecord) : List Byte :=
  match r.body with
  | .hire h => encodeHireReport r.number h
  | .shift h => encodeShiftReport r.number h

/-! ## The encoded tariff set (section 2.7.4), decoded and clamped (R126) -/

/-- Two bytes at an offset. -/
def read16 (l : List Byte) (offset : Nat) : Nat :=
  num16 (l.getD offset 0) (l.getD (offset + 1) 0)

/-- Tariff `i` (0 to 3) of the 92 bytes; tariff 1 is always enabled. -/
def decodeTariff (l : List Byte) (i : Nat) : Tariff :=
  let o := 2 + 15 * i
  { enabled := i = 0 || l.getD o 0 ≠ 0
    rates :=
      { f := clamp 0 9999 (read16 l (o + 1)), d0 := clamp 0 9999 (read16 l (o + 3)),
        ud := clamp 10 1000 (read16 l (o + 5)), cd := clamp 0 999 (read16 l (o + 7)),
        t0 := clamp 0 3600 (read16 l (o + 9)), ut := clamp 1 600 (read16 l (o + 11)),
        ct := clamp 0 999 (read16 l (o + 13)) } }

/-- Band `i` (0 to 5). -/
def decodeBand (l : List Byte) (i : Nat) : Band :=
  let o := 62 + 3 * i
  { startMinute := clamp 0 1439 (read16 l o), tariffId := (l.getD (o + 2) 0).toNat }

/-- Extra `i` (0 to 3). -/
def decodeExtra (l : List Byte) (i : Nat) : ExtraDef :=
  let o := 80 + 3 * i
  { amount := clamp 0 9999 (read16 l o), maxCount := clamp 1 15 (l.getD (o + 2) 0).toNat }

/-- Put a band before the first band that starts later, so that equal starts keep their order. -/
def insertBand (b : Band) : List Band → List Band
  | [] => [b]
  | a :: l => if b.startMinute < a.startMinute then b :: a :: l else a :: insertBand b l

/-- The used bands by start minute, then the unused ones (R126). -/
def sortBands (l : List Band) : List Band :=
  (l.filter (·.tariffId ≠ 0)).foldl (fun acc b => insertBand b acc) [] ++ l.filter (·.tariffId = 0)

/-- The version bytes of an encoded set. -/
def setVersion (l : List Byte) : Nat := read16 l 0

/-- The set of 92 encoded bytes (R126). -/
def decodeSet (l : List Byte) : TariffSet :=
  { version := setVersion l
    tariffs := (List.range 4).map (decodeTariff l)
    bands := sortBands ((List.range 6).map (decodeBand l))
    extras := (List.range 4).map (decodeExtra l) }

/-- The image's set: version 0 is taken as version 1 (R126). -/
def decodeImageSet (l : List Byte) : TariffSet :=
  let d := decodeSet l
  { d with version := max 1 d.version }

end Sys2Proof.Machine
end

