-- ==== Sys2Proof/Machine/Flags.lean ====
section
/-! DEFINITION. The outputs that follow conditions: lamps (R172, R173), buzzer patterns (R175, R176) and
backlight (R166, R167). -/

namespace Sys2Proof.Machine

open Sys2Proof

/-! ## Buzzer -/

/-- The rank of a pattern, 0 best (R175). -/
def toneRank : Tone → Nat
  | .alarmNear => 0 | .offer => 1 | .error => 2 | .message => 3 | .click => 4

/-- The length of a pattern in milliseconds (R175). -/
def toneLength : Tone → Nat
  | .alarmNear => 1800 | .offer => 650 | .error => 400 | .message => 300 | .click => 15

/-- The sounds and gaps of each pattern (R175). -/
def toneBeats : Tone → Beats
  | .alarmNear => ⟨.tone, 5, 200, 200⟩
  | .offer => ⟨.tone, 3, 150, 100⟩
  | .error => ⟨.lowTone, 1, 400, 0⟩
  | .message => ⟨.tone, 2, 100, 100⟩
  | .click => ⟨.tick, 1, 15, 0⟩

/-- The sound of a pattern so many milliseconds after its start (R175). -/
def soundAt (t : Tone) (ms : Nat) : Sound :=
  let b := toneBeats t
  if ms < toneLength t && ms % (b.length + b.gap) < b.length then b.sound else .silent

/-- What BUZZ drives now: the pattern that plays, at its moment, or nothing (R175; log 43). -/
def State.buzz (s : State) : Sound :=
  match s.cns.buzzer with
  | some (t, since) => soundAt t (s.now - since)
  | none => .silent

/-- The buzzer takes a request at all (R176): running, emergency IDLE, and in PARK only ALARM_NEAR. -/
def toneAccepted (t : Tone) (s : State) : Bool :=
  s.running && s.emergencyIdle && (s.stc.power = .run || t = .alarmNear)

/-- A better pattern than the one playing, or any pattern while silent (R175). -/
def toneStarts (t : Tone) : Option (Tone × Moment) → Bool
  | none => true
  | some (playing, _) => toneRank t < toneRank playing

/-- Request a pattern: it starts, or the request is dropped (R175, R176). -/
def requestTone (t : Tone) (s : State) : State :=
  if toneAccepted t s && toneStarts t s.cns.buzzer then
    { s with cns := { s.cns with buzzer := some (t, s.now) } }
  else s

/-- Any pattern playing stops. -/
def silence (s : State) : State := { s with cns := { s.cns with buzzer := none } }

/-- A refusal: any pending prefix is dropped and the ERROR tone is requested (R15, R16). -/
def refuse (s : State) : State :=
  requestTone .error { s with cns := { s.cns with keyPrefix := none } }

/-! ## Lamps -/

/-- The activity signal: a stretch of 100 ms starts or restarts (R173). -/
def signalActivity (s : State) : State := { s with cns := { s.cns with stretchSince := some s.now } }

/-- How a lamp is to be driven now. -/
inductive LampRule where
  | dark | lit | blinking
deriving DecidableEq, Repr

/-- Milliseconds of tACCEPT left, while an entry is WON (R96). -/
def acceptLeftMs (s : State) : Option Nat :=
  match s.wonOffer? with
  | some e => e.jobTimer.map (· - s.now)
  | none => none

/-- Half a period of a lamp that blinks (R172). -/
def blinkHalf : Lamp → Nat
  | .roofAlarm => 250 | .ledMsg => 500 | .ledOffer => 125
  | .roofVacant | .ledRadio => 0

/-- ROOF_ALARM by R172, in RUN and in PARK. -/
def roofAlarmRule (s : State) : LampRule :=
  if s.consoleConfig.roofAlarm && (s.emu.state = .active || s.emu.state = .acknowledged) then .blinking
  else .dark

/-- Any entry of the store is UNREAD (R148). -/
def anyUnread (s : State) : Bool := s.mst.entries.any (·.state = .unread)

/-- The rule of each lamp (R172, R173); in PARK every lamp but ROOF_ALARM is dark (R174). -/
def lampRule (lamp : Lamp) (s : State) : LampRule :=
  match lamp with
  | .roofAlarm => roofAlarmRule s
  | .roofVacant => if s.stc.power = .run && s.dtc.duty = .vacant then .lit else .dark
  | .ledRadio =>
    if s.stc.power = .run && (s.nbt.homeLevel != s.cns.stretchSince.isSome) then .lit else .dark
  | .ledMsg => if s.stc.power = .run && anyUnread s then .blinking else .dark
  | .ledOffer =>
    if s.stc.power = .run && s.dtc.duty = .pending then
      match acceptLeftMs s with
      | some left => if left ≤ 5000 then .blinking else .lit
      | none => .lit
    else .dark

/-- A lamp follows its rule; a blink that runs on keeps its phase, a new one begins lit (R172). -/
def drive (now : Moment) (rule : LampRule) (cur : LampDrive) : LampDrive :=
  match rule, cur with
  | .dark, _ => .dark
  | .lit, _ => .lit
  | .blinking, .blink on since => .blink on since
  | .blinking, _ => .blink true now

/-- All five lamps follow their rules. -/
def followLamps (s : State) : State :=
  let l := s.cns.lamps
  { s with cns := { s.cns with lamps :=
    { roofVacant := drive s.now (lampRule .roofVacant s) l.roofVacant
      roofAlarm := drive s.now (lampRule .roofAlarm s) l.roofAlarm
      ledRadio := drive s.now (lampRule .ledRadio s) l.ledRadio
      ledMsg := drive s.now (lampRule .ledMsg s) l.ledMsg
      ledOffer := drive s.now (lampRule .ledOffer s) l.ledOffer } } }

def Lamps.get (l : Lamps) : Lamp → LampDrive
  | .roofVacant => l.roofVacant
  | .roofAlarm => l.roofAlarm
  | .ledRadio => l.ledRadio
  | .ledMsg => l.ledMsg
  | .ledOffer => l.ledOffer

def Lamps.set (l : Lamps) (lamp : Lamp) (d : LampDrive) : Lamps :=
  match lamp with
  | .roofVacant => { l with roofVacant := d }
  | .roofAlarm => { l with roofAlarm := d }
  | .ledRadio => { l with ledRadio := d }
  | .ledMsg => { l with ledMsg := d }
  | .ledOffer => { l with ledOffer := d }

/-- A half-period of a blink ends and the lamp toggles (R172). -/
def toggleLamp (lamp : Lamp) (s : State) : State :=
  match s.cns.lamps.get lamp with
  | .blink on since =>
    let t := max s.now (since + blinkHalf lamp)
    { s with now := t, cns := { s.cns with lamps := s.cns.lamps.set lamp (.blink (!on) t) } }
  | .dark | .lit => s

/-! ## Backlight -/

/-- The night window holds at a minute of day (R166). -/
def inNightWindow (c : ConsoleConfig) (minute : Nat) : Bool :=
  if c.nightStart < c.nightEnd then c.nightStart ≤ minute && minute < c.nightEnd
  else if c.nightEnd < c.nightStart then c.nightStart ≤ minute || minute < c.nightEnd
  else false

/-- The target in RUN (R166): the day level while the time of day is invalid. -/
def targetLevel (s : State) : Nat :=
  match s.minute with
  | some m => if inNightWindow s.consoleConfig m then s.consoleConfig.nightLevel else s.consoleConfig.dayLevel
  | none => s.consoleConfig.dayLevel

/-- Set the level at once and abandon a ramp (R167). -/
def setLevel (level : Nat) (s : State) : State :=
  { s with cns := { s.cns with level := level, dimSince := none } }

/-- A new target (R167): taken at once without dimming; with dimming the step timer starts when the
level first differs and is not restarted. -/
def setTarget (target : Nat) (s : State) : State :=
  if s.consoleConfig.dimming then
    { s with cns := { s.cns with target := target, dimSince :=
        match s.cns.dimSince with
        | some t => some t
        | none => if s.cns.level = target then none else some s.now } }
  else { s with cns := { s.cns with target := target, level := target, dimSince := none } }

/-- Work out the target afresh, in RUN (R166). -/
def refreshTarget (s : State) : State :=
  if s.running && s.stc.power = .run then setTarget (targetLevel s) s else s

/-- A dimming step ends (R167): the level moves 1 toward the target, and the timer runs on while they
differ. -/
def dimStep (since : Moment) (s : State) : State :=
  let t := max s.now (since + tDim)
  let c := s.cns
  let level := if c.level < c.target then c.level + 1 else if c.target < c.level then c.level - 1 else c.level
  { s with now := t, cns := { c with level := level, dimSince := if level = c.target then none else some t } }

end Sys2Proof.Machine
end

