-- ==== Sys2Proof/Machine/Queue.lean ====
section
/-! DEFINITION. The outbound queue (R44 to R49), what an originator does when told DROPPED, the random
generator, the contention window, the beacon timer, and the settling of the access procedure. -/

namespace Sys2Proof.Machine

open Sys2Proof

/-! ## Told DROPPED: each originator's answer, none of which queues a frame -/

/-- The reply of an entry changes state while it is QUEUED or SENT (R155). -/
def replyBecomes (r : ReplyState) (e : MsgEntry) : MsgEntry :=
  match e.reply with
  | some x =>
    if x.state = .queued || x.state = .sent then { e with reply := some { x with state := r } } else e
  | none => e

/-- A FARE record IN_FLIGHT returns to UNSENT and the report hold is set (R136). -/
def fareLost (n : Nat) (s : State) : State :=
  if s.tlu.log.any (fun r => r.number = n && r.state = .inFlight) then
    let s := s.setReport n .unsent
    { s with tlu := { s.tlu with hold := some s.nbt.ticks } }
  else s

/-- A dropped ALARM_CLEAR is asked for again tCLEAR later (R188); a wait of an earlier outcome is replaced (log
42). -/
def clearDropped (s : State) : State :=
  if s.emu.state = .clearing then
    { s with emu := { s.emu with clearDue := some (s.now + tClear) } }
  else s

/-- An originator is told DROPPED for its frame (R62; R91, R136, R155, R183, R188). -/
def toldDropped (kind : FrameKind) (tag : Tag) (s : State) : State :=
  match tag with
  | .offer id =>
    if kind = .bid then s.updOffer id fun e => { e with bidFrame := .none } else s
  | .reply n => s.updMsg n (replyBecomes .failed)
  | .fareRecord n => fareLost n s
  | .ownAlarm => if kind = .alarmClear then clearDropped s else s
  | .relay origin serial => s.freeRelay ⟨origin, if kind = .alarm then .alarm else .clear, serial⟩
  | .beacon => s

/-! ## Admission (R45 to R48) -/

/-- A request is an own ALARM or ALARM_CLEAR (R46). -/
def isOwnAlarm (q : Request) : Bool := q.tag = .ownAlarm && (q.kind = .alarm || q.kind = .alarmClear)

/-- The worst class among the entries not in service (R48). -/
def worstClass (s : State) : Option Nat :=
  ((s.cau.queue.filter fun e => !s.isInService e).map (·.req.cls)).foldl
    (fun acc c => match acc with | none => some c | some d => some (max d c)) none

/-- The newest entry of a class not in service: the last of it in queue order (R48). -/
def newestOf (cls : Nat) (s : State) : Option QueueEntry :=
  findLast (fun e => e.req.cls = cls && !s.isInService e) s.cau.queue

/-- Put an entry behind every entry of its class or better (R44). -/
def insertEntry (e : QueueEntry) : List QueueEntry → List QueueEntry
  | [] => [e]
  | a :: l => if e.req.cls < a.req.cls then e :: a :: l else a :: insertEntry e l

/-- Take an entry out of the queue. -/
def dequeue (n : Nat) (s : State) : State :=
  { s with cau := { s.cau with queue := s.cau.queue.filter (·.number ≠ n) } }

/-- Admit a request as a new entry (R44). -/
def admitEntry (q : Request) (s : State) : State :=
  let e : QueueEntry :=
    { number := s.cau.nextEntry, req := q, enqueued := s.now, retries := 0, backoff := none, seq := none }
  { s with cau := { s.cau with queue := insertEntry e s.cau.queue, nextEntry := s.cau.nextEntry + 1 } }

/-- Find a place for a request (R45, R48). -/
def placeRequest (q : Request) (s : State) : State × Answer :=
  if s.cau.queue.length < queueCapacity then (admitEntry q s, .queued)
  else
    match worstClass s with
    | none => (s, .dropped)
    | some w =>
      if q.cls < w then
        match newestOf w s with
        | none => (s, .dropped)
        | some e => (admitEntry q (toldDropped e.req.kind e.req.tag (dequeue e.number s)), .queued)
      else (s, .dropped)

/-- The WITHDRAW test of R47: a waiting BID of the same offer. -/
def withdrawCancels (q : Request) (s : State) : Option QueueEntry :=
  if q.kind = .withdraw then
    s.cau.queue.find? fun e => e.req.tag = q.tag && e.req.kind = .bid && !s.isInService e
  else none

/-- The same-record test of R45. -/
def sameRecord (q : Request) (s : State) : Bool :=
  s.cau.queue.any fun e => e.req.tag = q.tag && e.req.kind = q.kind

/-- A request that passed the single-kind limits: the same-record test, the WITHDRAW test, a place. -/
def requestGeneral (q : Request) (s : State) : State × Answer :=
  if sameRecord q s then (s, .merged)
  else
    match withdrawCancels q s with
    | some b => (dequeue b.number s, .cancelled)
    | none => placeRequest q s

/-- Hold an own-alarm request; one held before is replaced and told DROPPED (R46). -/
def holdRequest (q : Request) (s : State) : State × Answer :=
  let s := match s.cau.held with
    | some old => toldDropped old.kind old.tag s
    | none => s
  ({ s with cau := { s.cau with held := some q } }, .held)

/-- Replace a waiting own alarm of the other kind in place (R46). -/
def replaceInPlace (old : QueueEntry) (q : Request) (s : State) : State × Answer :=
  let s := s.updEntry old.number fun e => { e with req := { e.req with kind := q.kind } }
  (toldDropped old.req.kind old.req.tag s, .queued)

/-- An own-alarm request (R46). -/
def requestOwnAlarm (q : Request) (s : State) : State × Answer :=
  match s.cau.queue.find? (fun e => isOwnAlarm e.req) with
  | none => requestGeneral q s
  | some e =>
    if s.isInService e then holdRequest q s
    else if e.req.kind = q.kind then (s, .merged)
    else replaceInPlace e q s

/-- A queue request (R45): the limits of R46 first. -/
def requestFrame (q : Request) (s : State) : State × Answer :=
  if q.kind = .beacon then
    if s.cau.queue.any (·.req.kind = .beacon) then (s, .merged) else requestGeneral q s
  else if q.kind = .fare then
    match s.cau.queue.find? (·.req.kind = .fare) with
    | some e => if e.req.tag = q.tag then (s, .merged) else (s, .dropped)
    | none => requestGeneral q s
  else if isOwnAlarm q then requestOwnAlarm q s
  else requestGeneral q s

/-- Ask the CAU to remove a frame (R49): a held own-alarm request is emptied, a waiting entry leaves
without an outcome, one in service is marked for deferred removal (R63). -/
def removeFrame (kind : FrameKind) (tag : Tag) (s : State) : State :=
  let s := match s.cau.held with
    | some q => if q.kind = kind && q.tag = tag then { s with cau := { s.cau with held := none } } else s
    | none => s
  match s.cau.queue.find? (fun e => e.req.kind = kind && e.req.tag = tag) with
  | none => s
  | some e =>
    match s.cau.inService with
    | some r =>
      if r.entry = e.number then { s with cau := { s.cau with inService := some { r with deferred := true } } }
      else dequeue e.number s
    | none => dequeue e.number s

/-- A class 1 contest frame: destination 0, no ack-request, tagged with the offer id (R104). -/
def contestFrame (kind : FrameKind) (id : OfferId) : Request :=
  { kind := kind, dest := 0, cls := 1, ackReq := false, hop := 0, tag := .offer id }

/-- Ask for a contest frame whose answer changes nothing at the OCU (R104). -/
def askContest (kind : FrameKind) (id : OfferId) (s : State) : State :=
  (requestFrame (contestFrame kind id) s).1

/-! ## Random generator and backoff -/

/-- One advance of the generator: bits 14 and 13 into bit 0 (R57). -/
def rngAdvance (g : BitVec 15) : BitVec 15 :=
  (g <<< 1) ||| (if g.getLsbD 14 != g.getLsbD 13 then 1#15 else 0#15)

/-- The seed (R57). -/
def rngSeed (fleet : Nat) (own : Station) : BitVec 15 :=
  let n := (fleet + 8 * own) % 32768
  BitVec.ofNat 15 (if n = 0 then 1 else n)

/-- The class base window in slots (R54). -/
def baseWindow : Nat → Nat
  | 0 => 4 | 1 => 8 | 2 => 16 | _ => 32

/-- The contention window (R54): doubled above 12 active neighbours and once per retry, at most 256. -/
def contentionWindow (cls retries active : Nat) : Nat :=
  min 256 (baseWindow cls * (if active > 12 then 2 else 1) * 2 ^ retries)

/-- The class gap in milliseconds (R53). -/
def classGap (cls : Nat) : Nat := (cls + 2) * tSlot

/-- Draw a backoff count for an entry that has none (R54). -/
def drawBackoff (s : State) (e : QueueEntry) : Nat :=
  s.cau.rng.toNat % contentionWindow e.req.cls e.retries s.activeNeighbours

/-! ## The beacon timer (R64, R65) -/

/-- The reload value plus jitter; the multiplier of PARK leaves the jitter alone. -/
def beaconReload (s : State) : Nat :=
  let t := s.stc.config.tBeacon
  (if s.stc.power = .park then 4 * t else t) + s.cau.rng.toNat % (t / 4 + 1)

/-- Reload the beacon timer. -/
def reloadBeacon (s : State) : State :=
  { s with cau := { s.cau with beaconCount := beaconReload s, beaconLoaded := true } }

/-- The beacon timer runs: loaded since the start, QUIET released, configuration valid (R65). -/
def beaconRuns (s : State) : Bool := s.running && s.cau.beaconLoaded && !s.lines.quiet && !s.stc.fault

/-- The request of the beacon timer (R64). -/
def beaconRequest : Request :=
  { kind := .beacon, dest := 0, cls := 4, ackReq := false, hop := 0, tag := .beacon }

/-! ## Settling the access procedure (R51, R52, R56, R59) -/

/-- The best unmasked entry: the first in queue order (R51, R52). -/
def bestEntry (s : State) : Option QueueEntry := s.cau.queue.find? (·.req.cls ≤ s.cau.mask)

/-- The access procedure enters DEFER for a candidate, and GAP at once while the channel is clear. -/
def deferFor (n : Nat) (s : State) : Access :=
  if s.channelBusy then { phase := .defer, candidate := some n, since := s.now }
  else { phase := .gap, candidate := some n, since := s.now }

/-- The access procedure after a change of queue, mask, inhibits or carrier: it takes up the best
unmasked entry (R52), goes on with its candidate, or turns from it (R51, R53, R56). An inhibit moves every
phase but IDLE to INHIBITED, which holds no candidate where no entry is unmasked (R59; log 33); IDLE without
an unmasked entry stays IDLE. -/
def settledAccess (s : State) : Access :=
  let a := s.cau.access
  if s.cau.inService.isSome then { phase := .idle, candidate := none, since := a.since }
  else
    match bestEntry s with
    | none =>
      if s.inhibited && a.phase ≠ .idle then { phase := .inhibited, candidate := none, since := a.since }
      else { phase := .idle, candidate := none, since := a.since }
    | some e =>
      if s.inhibited then { phase := .inhibited, candidate := some e.number, since := a.since }
      else
        match a.phase with
        | .idle | .inhibited | .defer => deferFor e.number s
        | .gap | .backoff =>
          if s.channelBusy then { phase := .defer, candidate := some e.number, since := s.now }
          else if a.candidate = some e.number then a
          else deferFor e.number s

/-- Settle the access procedure. -/
def settleAccess (s : State) : State := { s with cau := { s.cau with access := settledAccess s } }

/-- The eight states of section 3.4 as the spec lists them. -/
inductive AccessState where
  | idle | inhibited | defer | gap | backoff | keyup | sending | ackWait
deriving DecidableEq, Repr

/-- The state of the access procedure: the in-service record's phase, or the procedure's own. -/
def accessState (s : State) : AccessState :=
  match s.cau.inService with
  | some r => match r.phase with
    | .keyup => .keyup
    | .sending => .sending
    | .ackWait => .ackWait
  | none => match s.cau.access.phase with
    | .idle => .idle
    | .inhibited => .inhibited
    | .defer => .defer
    | .gap => .gap
    | .backoff => .backoff

end Sys2Proof.Machine
end

