-- ==== Sys2Proof/Machine/Display.lean ====
section
/-! DEFINITION. The display: text (R163), lines of the views (R162), status, pinned and legend rows
(R159, R160, R165), scroll pointers (R164), the layout (R158, R168), and `finish`, what follows every
command taken while the 4120 runs. -/

namespace Sys2Proof.Machine

open Sys2Proof

/-! ## Text -/

/-- The codes of a text of the manual. -/
def codes (t : String) : List Byte := t.toList.map fun c => BitVec.ofNat 8 c.toNat

/-- New line in message text (00, Characters). -/
def newLine : Byte := 0x0A#8

/-- A space. -/
def blank : Byte := 0x20#8

/-- `n` spaces. -/
def blanks (n : Nat) : List Byte := List.replicate n blank

/-- A code as a cell shows it: "?" outside 0x20 to 0x7E (R158). -/
def printable (b : Byte) : Byte := if 0x20#8 ≤ b ∧ b ≤ 0x7E#8 then b else 0x3F#8

/-- A row of 24 cells, cut or filled with spaces (R158). -/
def row (l : List Byte) : List Byte :=
  let cells := (l.take 24).map printable
  cells ++ blanks (24 - cells.length)

/-- An empty row. -/
def emptyRow : List Byte := blanks 24

/-- Decimal digits, with fuel. -/
def digitsFrom : Nat → Nat → List Byte → List Byte
  | 0, _, acc => acc
  | fuel + 1, n, acc =>
    let acc := byte (48 + n % 10) :: acc
    if n / 10 = 0 then acc else digitsFrom fuel (n / 10) acc

/-- A number in decimal digits; no number shown has more than 20. -/
def dec (n : Nat) : List Byte := digitsFrom 20 n []

/-- Two digits. -/
def dec2 (n : Nat) : List Byte := [byte (48 + n / 10 % 10), byte (48 + n % 10)]

/-- Cents in currency units with two decimals (R159). -/
def money (cents : Nat) : List Byte := dec (cents / 100) ++ codes "." ++ dec2 (cents % 100)

/-- Metres in kilometres with two decimals, rounded down (R162; log 16). -/
def km2 (metres : Nat) : List Byte := dec (metres / 1000) ++ codes "." ++ dec2 (metres % 1000 / 10)

/-- Grid steps in kilometres with one decimal, rounded down (R162, R151). -/
def km1 (steps : Nat) : List Byte := dec (steps / 100) ++ codes "." ++ dec (steps % 100 / 10)

/-- H:MM, with the seconds dropped (log 16). -/
def hoursMinutes (sec : Nat) : List Byte := dec (sec / 3600) ++ codes ":" ++ dec2 (sec / 60 % 60)

/-- H:MM:SS. -/
def hoursMinutesSeconds (sec : Nat) : List Byte := hoursMinutes sec ++ codes ":" ++ dec2 (sec % 60)

/-- HH:MM of a time of day. -/
def clockMinutes (t : Nat) : List Byte := dec2 (t / 3600) ++ codes ":" ++ dec2 (t / 60 % 60)

/-- Put cells at the right of a field. -/
def rightAligned (width : Nat) (l : List Byte) : List Byte := blanks (width - l.length) ++ l

/-- Put cells at the left of a field. -/
def leftAligned (width : Nat) (l : List Byte) : List Byte := l ++ blanks (width - l.length)

/-- Hard wrap (R163): `full` says that the 24th character has just ended a line. -/
def wrapFrom (full : Bool) (cur : List Byte) : List Byte → List (List Byte)
  | [] => if cur.isEmpty then [] else [cur]
  | c :: t =>
    if c = newLine then
      if full then wrapFrom false [] t else cur :: wrapFrom false [] t
    else if cur.length = 23 then (cur ++ [c]) :: wrapFrom true [] t
    else wrapFrom false (cur ++ [c]) t

/-- The lines of a text, the first 14 (R163). -/
def wrap (text : List Byte) : List (List Byte) := (wrapFrom false [] text).take 14

/-- The text of an entry: the segments' texts in order of index (R140). -/
def msgText (e : MsgEntry) : List Byte :=
  (List.range e.count).flatMap fun i =>
    match e.segments.find? (·.1 = i + 1) with
    | some g => g.2
    | none => []

/-- A text up to any new line (R160, R162). -/
def firstLine (l : List Byte) : List Byte := l.takeWhile (· ≠ newLine)

/-! ## The view shown (R161) -/

/-- The base view of a duty state. -/
def baseView : DutyState → Option View
  | .offShift => some .totals
  | .vacant | .onBreak => none
  | .pending => some .offer
  | .assigned => some .job
  | .hired | .paying => some .meter

/-- The view shown: the driver view when one is open, the base view otherwise; in PARK none (R168). -/
def viewShown (s : State) : Option View :=
  if s.stc.power = .park then none
  else
    match s.cns.view with
    | .list => some .list
    | .message => some .message
    | .menu => some .menu
    | .none => baseView s.dtc.duty

/-- The open entry (R148). -/
def State.openMsg (s : State) : Option MsgEntry := s.mst.openEntry.bind s.msg?

/-- A name of a message source: the station, or SYS (R162, R165). -/
def sourceText : MsgName → List Byte
  | .message source _ => dec source
  | .notice _ => codes "SYS"

/-- The distance line (R162). -/
def distanceLine (s : State) (pickup : Position) : List Byte :=
  match s.position with
  | some p => codes "DIST " ++ km1 (gridDistance p pickup)
  | none => codes "DIST ?"

/-- Segments of a hire. -/
def HireRecord.segments (h : HireRecord) : List Segment := h.closed ++ [h.current]

/-- Waiting seconds of a hire: the sum of At (R121). -/
def HireRecord.waiting (h : HireRecord) : Nat := (h.segments.map (·.at_)).sum

/-- The METER lines. -/
def meterLines (h : HireRecord) : List (List Byte) :=
  [ codes "TARIFF " ++ dec h.current.tariffId ++ codes " SEG " ++ dec h.segments.length,
    codes "DIST " ++ km2 h.totalMetres,
    codes "WAIT " ++ hoursMinutesSeconds h.waiting ] ++
  h.extras.map (fun x => codes "EXTRA " ++ dec x.id ++ codes " x " ++ dec x.count) ++
  match h.flags.cap, h.flags.implausible with
  | true, true => [codes "CAP IMPLAUSIBLE"]
  | true, false => [codes "CAP"]
  | false, true => [codes "IMPLAUSIBLE"]
  | false, false => []

/-- The OFFER lines of the WON entry. -/
def offerLines (s : State) : List (List Byte) :=
  match s.wonOffer? with
  | some e =>
    wrap e.text ++
    [ distanceLine s e.pickup,
      codes "ACCEPT IN " ++ dec (((acceptLeftMs s).getD 0 + 999) / 1000) ++ codes " S" ]
  | none => []

/-- The confirm word of a job (R12). -/
def confirmWord (j : JobRecord) : List Byte :=
  if j.confirmWait then codes "AWAITING"
  else match j.confirm with
    | .confirmed => codes "CONFIRMED"
    | .unconfirmed => codes "UNCONFIRMED"

/-- The JOB lines. -/
def jobLines (s : State) : List (List Byte) :=
  match s.dtc.job with
  | some j =>
    wrap j.text ++
    [ distanceLine s j.pickup, confirmWord j,
      codes "ACCEPTED " ++ (match j.acceptTime with
        | some t => clockMinutes t
        | none => codes "--:--") ]
  | none => []

/-- The TOTALS lines. -/
def totalsLines (t : ShiftTotals) : List (List Byte) :=
  [ codes "HIRES " ++ dec t.hires, codes "TAKEN " ++ money t.payableSum,
    codes "EXTRAS " ++ money t.extrasSum, codes "KM " ++ km2 t.totalMetres,
    codes "PAID KM " ++ km2 t.paidMetres, codes "WAIT " ++ hoursMinutes t.waiting ]

/-- The reply marker of column 2 (R162). -/
def replyMark (e : MsgEntry) : List Byte :=
  match e.reply with
  | some r =>
    match r.state with
    | .failed => codes "F"
    | .delivered => codes " "
    | .queued | .sent => if e.replyWanted then codes "R" else codes " "
  | none => if e.replyWanted then codes "R" else codes " "

/-- One LIST line (R162): an expired entry that is pinned shows its expired marker, as in R160. -/
def listLine (e : MsgEntry) : List Byte :=
  (if e.state = .unread then codes "U" else codes " ") ++
  (if e.expired then codes "x" else if e.pin then codes "*" else codes " ") ++
  replyMark e ++ codes " " ++ leftAligned 4 (sourceText e.name) ++ codes " " ++
  (firstLine (msgText e)).take 15

/-- The MENU lines. -/
def menuLines (phrases : List (List Byte)) : List (List Byte) :=
  (List.range 9).map fun i => dec (i + 1) ++ codes " " ++ (phrases.getD i []).take 22

/-- The lines of a view (R162). -/
def viewLines (s : State) : View → List (List Byte)
  | .meter => match s.fmr.hire with
    | some h => meterLines h
    | none => []
  | .offer => offerLines s
  | .job => jobLines s
  | .totals => totalsLines s.tlu.totals
  | .list => s.messageList.map listLine
  | .message => match s.openMsg with
    | some e => wrap (msgText e)
    | none => []
  | .menu => menuLines s.mst.phrases

/-! ## Rows -/

/-- The duty state word (R159). -/
def dutyWord : DutyState → List Byte
  | .offShift => codes "OFF SHIFT"
  | .vacant => codes "VACANT"
  | .pending => codes "PENDING"
  | .assigned => codes "ASSIGNED"
  | .hired => codes "HIRED"
  | .paying => codes "PAYING"
  | .onBreak => codes "BREAK"

/-- The value of columns 10 to 17 (R159). -/
def statusValue (s : State) : List Byte :=
  match s.dtc.duty, s.fmr.hire with
  | .hired, some h => money h.fare
  | .paying, some h => money (h.payable.getD 0)
  | _, _ =>
    match s.time with
    | some t => clockMinutes t ++ codes ":" ++ dec2 (t % 60)
    | none => codes "--:--:--"

/-- An indicator that shows a sign or a space. -/
def indicator (sign : String) (on : Bool) : List Byte := if on then codes sign else codes " "

/-- The status row (R159). -/
def statusRow (s : State) : List Byte :=
  row ((if s.stc.fault then leftAligned 18 (codes "CONFIG FAULT")
        else leftAligned 9 (dutyWord s.dtc.duty) ++ codes " " ++ rightAligned 8 (statusValue s)) ++
    codes " " ++ indicator "?" (!s.dtc.fixValid) ++ codes " " ++ indicator "Q" s.lines.quiet ++
    codes " " ++ indicator "T" s.tlu.pendingSet.isSome)

/-- One pinned row (R160). -/
def pinnedRow (e : MsgEntry) : List Byte :=
  row ((if e.expired then codes "x" else codes "*") ++ (firstLine (msgText e)).take 23)

/-- The pinned rows: the two youngest pinned entries. -/
def pinnedRows (s : State) : List (List Byte) := (s.pinned.take 2).map pinnedRow

/-- The rows of the scroll area: 6 − P (R158). -/
def scrollRows (s : State) : Nat := 6 - (s.pinned.take 2).length

/-- The legend of a view shown (R165). -/
def viewLegend (s : State) : Option View → List Byte
  | none => codes "READ:MSGS"
  | some .meter => if s.dtc.duty = .paying then codes "VACANT:END HIRE:RESUME" else codes "EXTRA TARIFF PAY"
  | some .offer => codes "ACCEPT  DECLINE"
  | some .job => codes "HIRE:START DECLINE"
  | some .totals => codes "SHIFT:START"
  | some .list =>
    if s.messageList.isEmpty then codes "NO MESSAGES"
    else dec s.messageList.length ++ codes " MSGS " ++
      dec (s.messageList.filter (·.state = .unread)).length ++ codes " NEW"
  | some .message =>
    match s.openMsg with
    | some e =>
      sourceText e.name ++
      (match e.name with
        | .message _ number => codes " #" ++ dec number.toNat
        | .notice _ => []) ++
      (if e.state = .unread then codes " UNREAD" else codes " READ") ++
      (if e.expired then codes " EXPIRED" else [])
    | none => []
  | some .menu => codes "1-9:SEND CLEAR:BACK"

/-- The legend row (R165): a pending prefix stands in place of the view's legend. -/
def legendRow (s : State) : List Byte :=
  match s.cns.keyPrefix with
  | some .extra => row (codes "EXTRA ?")
  | some .tariff => row (codes "TARIFF ?")
  | none => row (viewLegend s (viewShown s))

/-! ## Scroll pointers (R164) -/

def Pointers.get (p : Pointers) : View → Nat
  | .meter => p.meter | .offer => p.offer | .job => p.job | .totals => p.totals
  | .list => p.list | .message => p.message | .menu => p.menu

def Pointers.set (p : Pointers) (v : View) (n : Nat) : Pointers :=
  match v with
  | .meter => { p with meter := n }
  | .offer => { p with offer := n }
  | .job => { p with job := n }
  | .totals => { p with totals := n }
  | .list => { p with list := n }
  | .message => { p with message := n }
  | .menu => { p with menu := n }

/-- The limit of a view's pointer. -/
def pointerLimit (s : State) : View → Nat
  | .list => s.messageList.length - 1
  | v => (viewLines s v).length - scrollRows s

/-- The line of an entry in the message list. -/
def listLineOf (s : State) (n : Nat) : Option Nat := s.messageList.findIdx? (·.entry = n)

/-- The entry on a line of the message list. -/
def listEntryAt (s : State) (line : Nat) : Option Nat := (s.messageList[line]?).map (·.entry)

/-- The LIST view was entered from MESSAGE or MENU, or stays shown. -/
def listGoesOn : Option View → Bool
  | some .list | some .message | some .menu => true
  | some .meter | some .offer | some .job | some .totals | none => false

/-- The pointer of the view shown after a change. -/
def pointerNow (s : State) (v : View) : Nat :=
  match v with
  | .list =>
    if listGoesOn s.cns.shown then
      match s.cns.selection.bind (listLineOf s) with
      | some line => line
      | none => min s.cns.pointers.list (pointerLimit s .list)
    else 0
  | v => if s.cns.shown = some v then min (s.cns.pointers.get v) (pointerLimit s v) else 0

/-- The pointers follow the view shown; in LIST the selection is the entry at the pointer. -/
def followView (s : State) : State :=
  match viewShown s with
  | none => { s with cns := { s.cns with shown := none } }
  | some v =>
    let p := pointerNow s v
    { s with cns := { s.cns with
        pointers := s.cns.pointers.set v p
        shown := some v
        selection := if v = .list then listEntryAt s p else s.cns.selection } }

/-- Move the pointer of the view shown (R164). -/
def movePointer (f : Nat → Nat → Nat) (s : State) : State :=
  match viewShown s with
  | none => s
  | some v =>
    let p := f (pointerLimit s v) (s.cns.pointers.get v)
    { s with cns := { s.cns with
        pointers := s.cns.pointers.set v p
        selection := if v = .list then listEntryAt s p else s.cns.selection } }

/-! ## The layout (R158, R168) -/

/-- The scroll area. -/
def scrollArea (s : State) : List (List Byte) :=
  let rows := scrollRows s
  let lines := match viewShown s with
    | some v => (((viewLines s v).drop (s.cns.pointers.get v)).take rows).map row
    | none => []
  lines ++ List.replicate (rows - lines.length) emptyRow

/-- The display memory: in RUN its four areas; in PARK dark, or the status row while awake. -/
def displayNow (s : State) : List (List Byte) :=
  match s.stc.power with
  | .run => statusRow s :: pinnedRows s ++ scrollArea s ++ [legendRow s]
  | .park => if s.cns.wakeSince.isSome then statusRow s :: List.replicate 7 emptyRow else blankDisplay

/-- Lay out the display memory. -/
def layOut (s : State) : State := { s with cns := { s.cns with display := displayNow s } }

/-! ## What follows every command -/

/-- The park timer runs while its three conditions hold, and is cleared when one ceases (R199); in PARK it
stands stopped (log 41). -/
def followPark (s : State) : State :=
  if s.stc.power = .run && s.parkConditions then
    match s.stc.parkSince with
    | some _ => s
    | none => { s with stc := { s.stc with parkSince := some s.now } }
  else { s with stc := { s.stc with parkSince := none } }

/-- What follows the levels they read: the access procedure (R52, R56, R59), the park timer (R199), the
lamps (R172), the scroll pointers (R164) and the display (R158). -/
def finish (s : State) : State := layOut (followView (followLamps (followPark (settleAccess s))))

/-- A command that acts only while the 4120 runs (R194). -/
def whenRunning (f : State → State) (s : State) : State := if s.running then finish (f s) else s

end Sys2Proof.Machine
end

