-- ==== Sys2Proof/Machine/Messages.lean ====
section
/-! DEFINITION. The Message Store (chapter 8): segments, places, reading, expiry, notices, replies. -/

namespace Sys2Proof.Machine

open Sys2Proof

/-! ## Leaving the store (R156) -/

/-- An entry's reply waits or is on its way. -/
def MsgEntry.replyPending (e : MsgEntry) : Bool :=
  match e.reply with
  | some r => r.state = .queued || r.state = .sent
  | none => false

/-- Free the place of an entry; a view of it closes to LIST (R156, R161). -/
def freeMsg (n : Nat) (s : State) : State :=
  let s := { s with mst := { s.mst with entries := s.mst.entries.filter (·.entry ≠ n) } }
  if s.mst.openEntry = some n then
    { s with mst := { s.mst with openEntry := none }, cns := { s.cns with view := .list } }
  else s

/-- An entry leaves the store (R156): place, view, and a reply frame still to come. -/
def removeMsg (n : Nat) (s : State) : State :=
  match s.msg? n with
  | none => s
  | some e =>
    let s := freeMsg n s
    if e.replyPending then removeFrame .msg (.reply n) s else s

/-! ## Places (R147) -/

/-- The entry of a name: at most one (R141). -/
def State.msgNamed (s : State) (name : MsgName) : Option MsgEntry :=
  s.mst.entries.find? (·.name = name)

/-- The evictee of R147: the oldest READ entry without PIN, then the oldest expired entry. -/
def evictee (s : State) : Option MsgEntry :=
  match findLast (fun e => e.state = .read && !e.pin) s.mst.entries with
  | some e => some e
  | none => findLast (fun e => e.complete && e.expired) s.mst.entries

/-- The store has a place, free or by eviction. -/
def hasPlace (s : State) : Bool := s.mst.entries.length < storeCapacity || (evictee s).isSome

/-- Make room for one entry where `hasPlace` holds. -/
def takePlace (s : State) : State :=
  if s.mst.entries.length < storeCapacity then s
  else match evictee s with
    | some e => removeMsg e.entry s
    | none => s

/-- Put a new entry at the head of the list, under the next number. -/
def addMsg (e : MsgEntry) (s : State) : State :=
  { s with mst := { s.mst with
      entries := { e with entry := s.mst.nextMsg } :: s.mst.entries
      nextMsg := s.mst.nextMsg + 1 } }

/-! ## Segments (R142 to R145) -/

/-- Every index from 1 to the segment count is present (R144). -/
def MsgEntry.whole (e : MsgEntry) : Bool :=
  (List.range e.count).all fun i => e.segments.any (·.1 = i + 1)

/-- The entry an act completes (R144). -/
def MsgEntry.completed (e : MsgEntry) : MsgEntry :=
  { e with state := .unread, listAge := 0,
           validityLeft := if e.validityMinutes = 0 then none else some (e.validityMinutes * 60) }

/-- The test for completion (R144): the entry goes to the head of the list and the MESSAGE tone is
requested. -/
def completeIfWhole (n : Nat) (s : State) : State :=
  match s.msg? n with
  | none => s
  | some e =>
    if e.whole && e.state = .assembling then
      requestTone .message
        { s with mst := { s.mst with
            entries := e.completed :: s.mst.entries.filter (·.entry ≠ n) } }
    else s

/-- The entry made by a first segment (R143). -/
def firstSegment (source : Station) (direct : Bool) (p : MsgPayload) : MsgEntry :=
  { entry := 0, name := .message source p.number, kind := if direct then .direct else .broadcast,
    state := .assembling, pin := p.pin, replyWanted := p.replyWanted, count := p.count,
    segments := [(p.index, p.text)], assemblyAge := 0, listAge := 0, validityMinutes := p.validity,
    validityLeft := none, expired := false, reply := none }

/-- Create an entry from a segment, a place being free, and test for completion. -/
def createMsg (source : Station) (direct : Bool) (p : MsgPayload) (s : State) : State :=
  completeIfWhole s.mst.nextMsg (addMsg (firstSegment source direct p) s)

/-- Place a segment in an ASSEMBLING entry where it fits (R143). -/
def placeSegment (e : MsgEntry) (p : MsgPayload) (s : State) : State :=
  if p.count = e.count && !e.segments.any (·.1 = p.index) then
    completeIfWhole e.entry
      (s.updMsg e.entry fun x => { x with segments := x.segments ++ [(p.index, p.text)] })
  else s

/-- The MST's answer to the FRE's question for a DIRECT segment (R142). -/
def mstAnswer (source : Station) (p : MsgPayload) (s : State) : Bool :=
  (s.msgNamed (.message source p.number)).isSome || hasPlace s

/-- A delivered segment (R143, R145, R147). -/
def deliverMsg (source : Station) (direct : Bool) (p : MsgPayload) (s : State) : State :=
  match s.msgNamed (.message source p.number) with
  | none => if hasPlace s then createMsg source direct p (takePlace s) else s
  | some e =>
    if e.state = .assembling then placeSegment e p s
    else if e.listAge ≤ 600 then s
    else createMsg source direct p (removeMsg e.entry s)

/-- The ages of a 1 s tick (R140, R146, R150). -/
def MsgEntry.aged (e : MsgEntry) : MsgEntry :=
  match e.state with
  | .assembling => { e with assemblyAge := satAdd tAssemble e.assemblyAge 1 }
  | .unread | .read =>
    { e with listAge := satAdd 65535 e.listAge 1, validityLeft := e.validityLeft.map (· - 1) }

/-- The store at a 1 s tick. -/
def ageStore (s : State) : State :=
  { s with mst := { s.mst with entries := s.mst.entries.map MsgEntry.aged } }

/-! ## Reading and expiry (R148 to R150) -/

/-- An entry opens in the MESSAGE view (R148). -/
def openMsgEntry (n : Nat) (s : State) : State :=
  let s := s.updMsg n fun e => { e with state := if e.state = .unread then .read else e.state }
  { s with mst := { s.mst with openEntry := some n }, cns := { s.cns with view := .message } }

/-- No entry is open any more: an expired entry without PIN is then removed (R148, R150). -/
def closeMsg (s : State) : State :=
  match s.openMsg with
  | some e =>
    let s := { s with mst := { s.mst with openEntry := none } }
    if e.expired && !e.pin then removeMsg e.entry s else s
  | none => { s with mst := { s.mst with openEntry := none } }

/-- The driver view changes; MESSAGE and MENU end the open entry (R161). -/
def closeTo (v : DriverView) (s : State) : State :=
  let s := closeMsg s
  { s with cns := { s.cns with view := v } }

/-- CLEAR in the MESSAGE view clears the PIN of the open entry (R149). -/
def clearPin (s : State) : State :=
  match s.mst.openEntry with
  | some n => s.updMsg n fun e => { e with pin := false }
  | none => s

/-- An entry whose validity has run out (R150): removed, or held with its expired flag while it has PIN
or is the open entry. -/
def expireMsg (n : Nat) (s : State) : State :=
  match s.msg? n with
  | none => s
  | some e =>
    if e.pin || s.mst.openEntry = some n then
      s.updMsg n fun x => { x with expired := true, validityLeft := none }
    else removeMsg n s

/-! ## SYSTEM notices (R151, R152) -/

/-- A new notice entry. -/
def noticeEntry (key : NoticeKey) (pin : Bool) (text : List Byte) : MsgEntry :=
  { entry := 0, name := .notice key, kind := .system, state := .unread, pin := pin,
    replyWanted := false, count := 1, segments := [(1, text)], assemblyAge := 0, listAge := 0,
    validityMinutes := 0, validityLeft := none, expired := false, reply := none }

/-- The SYSTEM entry a notice replaces in a full store without an evictee (R151). -/
def replacedNotice (s : State) : Option MsgEntry :=
  match findLast (fun e => e.kind = .system && !e.pin) s.mst.entries with
  | some e => some e
  | none => findLast (fun e => e.kind = .system) s.mst.entries

/-- Raise a SYSTEM notice (R151). -/
def raiseNotice (key : NoticeKey) (pin : Bool) (text : List Byte) (s : State) : State :=
  match s.msgNamed (.notice key) with
  | some old => addMsg (noticeEntry key pin text) (removeMsg old.entry s)
  | none =>
    if hasPlace s then addMsg (noticeEntry key pin text) (takePlace s)
    else match replacedNotice s with
      | some old => addMsg (noticeEntry key pin text) (removeMsg old.entry s)
      | none => s

/-- JOB GONE with the offer's pickup text. -/
def noticeJobGone (pickupText : List Byte) : State → State :=
  raiseNotice .jobGone false (codes "JOB GONE" ++ newLine :: pickupText)

/-- LOG FULL (R16). -/
def noticeLogFull : State → State := raiseNotice .logFull false (codes "LOG FULL")

/-- TARIFF NEW with the new active version (R127). -/
def noticeTariffNew (version : Nat) : State → State :=
  raiseNotice .tariffNew false (codes "TARIFF NEW V" ++ dec version)

/-- ALARM NEAR with the origin and the grid distance, absent when either position is (R151); one space stands
between its items, and no unit (log 15). -/
def noticeAlarmNear (origin : Station) (distance : Option Nat) : State → State :=
  raiseNotice (.alarmNear origin) true
    (codes "ALARM NEAR " ++ dec origin ++ codes " " ++
      match distance with
      | some g => km1 g
      | none => codes "DIST ?")

/-- Remove the ALARM NEAR notice of an origin (R152). -/
def dropAlarmNotice (origin : Station) (s : State) : State :=
  match s.msgNamed (.notice (.alarmNear origin)) with
  | some e => removeMsg e.entry s
  | none => s

/-! ## Canned replies (R153 to R155) -/

/-- The open entry when REPLY may open the menu (R153). -/
def replyTarget (s : State) : Option MsgEntry :=
  if s.cns.view = .message then
    match s.openMsg with
    | some e => if e.kind = .direct && !e.replyPending then some e else none
    | none => none
  else none

/-- The source station of a received entry. -/
def MsgName.source : MsgName → Station
  | .message source _ => source
  | .notice _ => 0

/-- A class 2 reply frame (R154). -/
def replyRequest (e : MsgEntry) : Request :=
  { kind := .msg, dest := e.name.source, cls := 2, ackReq := true, hop := 0, tag := .reply e.entry }

/-- A reply is made (R154). -/
def makeReply (e : MsgEntry) (phrase : Nat) (s : State) : State :=
  let number := s.mst.replyCounter + 1
  let s := { s with mst := { s.mst with replyCounter := number } }
  let s := s.updMsg e.entry fun x =>
    { x with reply := some { phrase := phrase, number := number, state := .queued } }
  let (s, answer) := requestFrame (replyRequest e) s
  if answer = .dropped then s.updMsg e.entry (replyBecomes .failed) else s

/-- The phrase of a digit 1 to 9, when it has one of length 1 or more (R153). -/
def phraseOf (s : State) (d : Nat) : Option (List Byte) :=
  if 1 ≤ d ∧ d ≤ 9 then
    match s.mst.phrases.getD (d - 1) [] with
    | [] => none
    | c :: t => some (c :: t)
  else none

/-- The CAU's notice for a reply (R155). -/
def replyNotice (n : Nat) (r : ReplyState) (s : State) : State := s.updMsg n (replyBecomes r)

end Sys2Proof.Machine
end

