-- ==== Sys2Proof/Machine/Log.lean ====
section
/-! DEFINITION. The Tariff and Log Unit (chapter 7): tariff sets, staging, fare log, reports, shift
totals. -/

namespace Sys2Proof.Machine

open Sys2Proof

/-! ## Tariff sets (R127 to R130) -/

/-- A pending set becomes active, and TARIFF NEW is raised (R127). -/
def applyPendingSet (s : State) : State :=
  match s.tlu.pendingSet with
  | some p =>
    noticeTariffNew p.version { s with tlu := { s.tlu with active := some p, pendingSet := none } }
  | none => s

/-- A version is newer than the active set's and than the pending set's (R128, R129). -/
def newerVersion (v : Nat) (s : State) : Bool :=
  let above := fun (t : Option TariffSet) => match t with
    | some x => x.version < v
    | none => 0 < v
  above s.tlu.active && above s.tlu.pendingSet

/-- Staging started with a segment (R128). -/
def startStaging (p : TariffPayload) (now : Moment) : Staging :=
  { version := p.version, count := p.count, setCrc := p.setCrc, segments := [(p.index, p.bytes)],
    deadline := now + tTariffAsm }

/-- A segment placed, over its own part when present (R128). -/
def Staging.place (g : Staging) (p : TariffPayload) : Staging :=
  { g with segments := (g.segments.filter (·.1 ≠ p.index)) ++ [(p.index, p.bytes)] }

/-- The bytes of a segment. -/
def Staging.part (g : Staging) (index : Nat) : Option (List Byte) :=
  (g.segments.find? (·.1 = index)).map (·.2)

/-- Every index from 1 to the count is present (R128). -/
def Staging.isComplete (g : Staging) : Bool := (List.range g.count).all fun i => (g.part (i + 1)).isSome

/-- The staged bytes in order of index. -/
def Staging.bytes (g : Staging) : List Byte := (List.range g.count).flatMap fun i => (g.part (i + 1)).getD []

/-- The three checks of R129. -/
def Staging.checks (g : Staging) : Bool :=
  ((List.range (g.count - 1)).all fun i => ((g.part (i + 1)).getD []).length = 56) &&
    g.bytes.length = 92 && crc16 g.bytes = g.setCrc && setVersion g.bytes = g.version

/-- A complete buffer is checked and emptied; the set becomes pending or is discarded (R129). -/
def settleStaging (g : Staging) (s : State) : State :=
  if g.isComplete then
    let s := { s with tlu := { s.tlu with staging := none } }
    if g.checks && newerVersion g.version s then
      { s with tlu := { s.tlu with pendingSet := some (decodeSet g.bytes) } }
    else s
  else { s with tlu := { s.tlu with staging := some g } }

/-- A delivered TARIFF segment (R128). -/
def deliverTariff (p : TariffPayload) (s : State) : State :=
  if newerVersion p.version s then
    match s.tlu.staging with
    | none => settleStaging (startStaging p s.now) s
    | some g =>
      if g.version = p.version then
        if g.count = p.count ∧ g.setCrc = p.setCrc then settleStaging (g.place p) s else s
      else settleStaging (startStaging p s.now) s
  else s

/-! ## Fare log (R132 to R134) -/

/-- Unreported records: UNSENT or IN_FLIGHT (R132). -/
def unreported (s : State) : Nat := (s.tlu.log.filter (·.state ≠ .reported)).length

/-- The log can take a new hire (R134). -/
def takesHire (s : State) : Bool := unreported s < 63

/-- The log can take a SHIFT record (R134). -/
def takesShift (s : State) : Bool := unreported s < 64

/-- The request for the FARE of a record (R135). -/
def fareRequest (s : State) (record : Nat) : Request :=
  { kind := .fare, dest := s.stc.config.home, cls := 3, ackReq := true, hop := 0,
    tag := .fareRecord record }

/-- The oldest UNSENT record (R135). -/
def oldestUnsent (s : State) : Option LogRecord := s.tlu.log.find? (·.state = .unsent)

/-- The conditions of the report test (R135), the UNSENT record aside. -/
def mayReport (s : State) : Bool :=
  s.homeReachable && !s.tlu.log.any (·.state = .inFlight) && s.tlu.hold.isNone

/-- The report test (R135). -/
def reportTest (s : State) : State :=
  if mayReport s then
    match oldestUnsent s with
    | none => s
    | some r =>
      let (s, answer) := requestFrame (fareRequest s r.number) s
      if answer = .dropped then { s with tlu := { s.tlu with hold := some s.nbt.ticks } }
      else s.setReport r.number .inFlight
  else s

/-- The log with a place: the oldest REPORTED record leaves a full log (R133). -/
def roomInLog (l : List LogRecord) : List LogRecord :=
  if l.length < logCapacity then l else removeFirst (·.state = .reported) l

/-- Append a record, UNSENT, and take the report test (R133). The refusals of R134 keep a place free; in
a log without one (log 26) nothing is appended. -/
def appendRecord (body : LogBody) (s : State) : State :=
  let l := roomInLog s.tlu.log
  if l.length < logCapacity then
    reportTest { s with tlu := { s.tlu with
      log := l ++ [{ number := s.tlu.nextRecord, body := body, state := .unsent }]
      nextRecord := s.tlu.nextRecord + 1 } }
  else s

/-! ## Outcomes (R136) -/

/-- A record is IN_FLIGHT. -/
def recordInFlight (n : Nat) (s : State) : Bool :=
  s.tlu.log.any fun r => r.number = n && r.state = .inFlight

/-- DELIVERED: the record becomes REPORTED and the report test is taken (R136). -/
def fareDelivered (n : Nat) (s : State) : State :=
  if recordInFlight n s then reportTest (s.setReport n .reported) else s

/-- The heard-since question at a notice that home dispatch has been heard (R73, R136). -/
def homeHeard (s : State) : State :=
  match s.tlu.hold, s.neighbour s.stc.config.home with
  | some h, some e =>
    if h < e.lastHeard then reportTest { s with tlu := { s.tlu with hold := none } } else s
  | _, _ => s

/-! ## Shift totals (R137, R138) -/

/-- The limit of the sums. -/
def sumCap : Nat := 99999999

/-- The amount of an extra in a hire's table. -/
def HireRecord.amountOf (h : HireRecord) (id : Nat) : Nat :=
  match h.extrasTable[id - 1]? with
  | some x => x.amount
  | none => 0

/-- The extras of a hire at their full amounts. -/
def HireRecord.extrasSum (h : HireRecord) : Nat := (h.extras.map fun x => x.count * h.amountOf x.id).sum

/-- Paid metres: the sum of Ad (R106). -/
def HireRecord.paidMetres (h : HireRecord) : Nat := (h.segments.map (·.ad)).sum

/-- The totals increased by a hire (R137). -/
def ShiftTotals.withHire (t : ShiftTotals) (h : HireRecord) : ShiftTotals :=
  { hires := wrapInc 9999 t.hires
    payableSum := satAdd sumCap t.payableSum (h.payable.getD 0)
    extrasSum := satAdd sumCap t.extrasSum h.extrasSum
    totalMetres := satAdd sumCap t.totalMetres h.totalMetres
    paidMetres := satAdd sumCap t.paidMetres h.paidMetres
    waiting := satAdd sumCap t.waiting h.waiting }

/-- The HIRE record made from a hire handed over (R132, R133). -/
def hireReport (number : Nat) (h : HireRecord) : HireReport :=
  { hireNumber := number, startMinute := h.startTime.map (· / 60), endMinute := h.endTime.map (· / 60),
    flags := h.flags, offerId := h.offerId,
    segments := h.segments.map fun g => { tariffId := g.tariffId, nd := g.nd, nt := g.nt },
    extras := h.extras, totalMetres := h.totalMetres, paidMetres := h.paidMetres,
    waiting := h.waiting, fare := h.fare, payable := h.payable.getD 0 }

/-- A hire handed over: the totals first, then its HIRE record (R137, R133). -/
def logHire (h : HireRecord) (s : State) : State :=
  let s := { s with tlu := { s.tlu with totals := s.tlu.totals.withHire h } }
  appendRecord (.hire (hireReport s.tlu.totals.hires h)) s

/-- A shift begins (R2, R137). -/
def beginShift (s : State) : State :=
  { s with tlu := { s.tlu with totals := ShiftTotals.zero, implausible := 0, shiftStart := s.minute } }

/-- The SHIFT record (R138). -/
def shiftReport (s : State) : ShiftReport :=
  { startMinute := s.tlu.shiftStart, endMinute := s.minute, totals := s.tlu.totals,
    counters := s.fre.counters, implausible := s.tlu.implausible }

/-- A shift ends: its record is made, the channel counters are zeroed, the record is appended (R138,
R41). -/
def logShift (s : State) : State :=
  let body := LogBody.shift (shiftReport s)
  appendRecord body { s with fre := { s.fre with counters := Counters.reset } }

/-- A clamped interval (R111, R137). -/
def countImplausible (s : State) : State :=
  { s with tlu := { s.tlu with implausible := satAdd 255 s.tlu.implausible 1 } }

end Sys2Proof.Machine
end

