-- ==== Sys2Proof/Machine/Meter.lean ====
section
/-! DEFINITION. The Fare Meter (chapter 6). -/

namespace Sys2Proof.Machine

open Sys2Proof

/-! ## Steps and fare (R112 to R114, R116) -/

/-- One metre charged to the distance counter (R113). -/
def addMetre (g : Segment) : Segment :=
  if g.distanceCounter ≤ 1 then
    { g with ad := g.ad + 1, nd := g.nd + 1, distanceCounter := g.rates.ud }
  else { g with ad := g.ad + 1, distanceCounter := g.distanceCounter - 1 }

/-- Metres charged one after the other. -/
def addMetres : Nat → Segment → Segment
  | 0, g => g
  | n + 1, g => addMetres n (addMetre g)

/-- One second charged to the time counter (R113). -/
def addSecond (g : Segment) : Segment :=
  if g.timeCounter ≤ 1 then { g with at_ := g.at_ + 1, nt := g.nt + 1, timeCounter := g.rates.ut }
  else { g with at_ := g.at_ + 1, timeCounter := g.timeCounter - 1 }

/-- The mode test (R112). -/
def timeMode (r : Rates) (m : Nat) : Bool := m * r.cd * r.ut < r.ct * r.ud

/-- The flag fall of a hire: its first segment's F (R106). -/
def HireRecord.flagFall (h : HireRecord) : Nat :=
  match h.closed with
  | g :: _ => g.rates.f
  | [] => h.current.rates.f

/-- The steps of a segment in cents. -/
def Segment.charge (g : Segment) : Nat := g.nd * g.rates.cd + g.nt * g.rates.ct

/-- The sum of R114, uncapped. -/
def HireRecord.fareSum (h : HireRecord) : Nat :=
  h.flagFall + (h.segments.map Segment.charge).sum + h.extrasSum

/-- The fare computed afresh (R114). -/
def HireRecord.withFare (h : HireRecord) : HireRecord :=
  { h with fare := min fareCap h.fareSum,
           flags := { h.flags with cap := h.flags.cap || fareCap < h.fareSum } }

/-- The payable amount (R116). -/
def payableOf (r fare : Nat) : Nat :=
  let p := (2 * fare + r) / (2 * r) * r
  if fareCap < p then fareCap / r * r else p

/-- The interval's metres, clamped (R111). -/
def HireRecord.metres (h : HireRecord) : Nat := min h.intervalMetres h.mmax

/-- The interval is clamped (R111). -/
def HireRecord.clamped (h : HireRecord) : Bool := h.mmax < h.intervalMetres

/-- The metres added to total metres (R112). -/
def HireRecord.metresAdded (h : HireRecord) : Nat := min h.metres (distanceCap - h.totalMetres)

/-- The current segment after an interval: `second` is clear for the partial interval (R112, R115). -/
def chargeSegment (second : Bool) (h : HireRecord) : Segment :=
  if timeMode h.current.rates h.metres then
    if second && h.waiting < waitingCap then addSecond h.current else h.current
  else addMetres h.metresAdded h.current

/-- An interval charged (R111 to R114). -/
def HireRecord.charged (second : Bool) (h : HireRecord) : HireRecord :=
  { h with
    intervalMetres := 0
    totalMetres := h.totalMetres + h.metresAdded
    current := chargeSegment second h
    flags := { h.flags with implausible := h.flags.implausible || h.clamped } }.withFare

/-- Close the interval in progress, telling the TLU of a clamp. -/
def closeInterval (second : Bool) (s : State) : State :=
  match s.fmr.hire with
  | some h =>
    let s := if h.clamped then countImplausible s else s
    { s with fmr := { s.fmr with hire := some (h.charged second) } }
  | none => s

/-! ## Opening (R107, R108) -/

/-- The band with the latest start minute; of equal ones the later in the table. -/
def latestBand (l : List Band) : Option Band :=
  l.foldl (fun acc b => match acc with
    | none => some b
    | some a => if a.startMinute ≤ b.startMinute then some b else some a) none

/-- The band in force at a minute (R108). -/
def bandAt (bands : List Band) (minute : Nat) : Option Band :=
  let used := bands.filter (·.tariffId ≠ 0)
  match latestBand (used.filter (·.startMinute ≤ minute)) with
  | some b => some b
  | none => latestBand used

/-- The rates of an enabled tariff. -/
def TariffSet.enabledRates (t : TariffSet) (id : Nat) : Option Rates :=
  if 1 ≤ id ∧ id ≤ 4 then
    match t.tariffs[id - 1]? with
    | some x => if x.enabled then some x.rates else none
    | none => none
  else none

/-- The tariff of a new hire (R108). -/
def firstTariff (t : TariffSet) (minute : Option Nat) : Nat :=
  match minute.bind (bandAt t.bands) with
  | some b => if (t.enabledRates b.tariffId).isSome then b.tariffId else 1
  | none => 1

/-- Rates of 0, for a set that lacks tariff 1 (log 26). -/
def noRates : Rates := { f := 0, d0 := 0, ud := 0, cd := 0, t0 := 0, ut := 0, ct := 0 }

/-- A segment opened; the allowances belong to the first of a hire (R107, R119). -/
def openSegment (id : Nat) (r : Rates) (first : Bool) : Segment :=
  { tariffId := id, rates := r, ad := 0, at_ := 0, nd := 0, nt := 0,
    distanceCounter := if first then r.d0 + r.ud else r.ud,
    timeCounter := if first then r.t0 + r.ut else r.ut }

/-- The hire record at its opening (R107). -/
def openedHire (t : TariffSet) (id : Option OfferId) (s : State) : HireRecord :=
  let tariff := firstTariff t s.minute
  let rates := (t.enabledRates tariff).getD noRates
  { state := .opened, startTime := s.time, endTime := none, offerId := id, closed := [],
    current := openSegment tariff rates true, extras := [], extrasTable := t.extras,
    pulsesPerKm := s.stc.config.pulsesPerKm, mmax := s.stc.config.mmax,
    rounding := s.stc.config.rounding, intervalMetres := 0, residue := 0, totalMetres := 0,
    flags := { cap := false, implausible := false, powerGap := false, conflict := false },
    fare := rates.f, payable := none }

/-- The FMR opens a hire record and starts its interval timer (R107; log 38). -/
def openHire (t : TariffSet) (id : Option OfferId) (s : State) : State :=
  let h := openedHire t id s
  { s with fmr := { hire := some h, intervalSince := some s.now, atInterval := some h } }

/-! ## Pulses, stop, resume, end -/

/-- A pulse in HIRED with a valid configuration (R109). -/
def countPulse (s : State) : State :=
  match s.fmr.hire with
  | some h =>
    if s.dtc.duty = .hired && !s.stc.fault then
      let units := h.residue + 1000
      { s with fmr := { s.fmr with hire := some { h with
          residue := units % h.pulsesPerKm
          intervalMetres := h.intervalMetres + units / h.pulsesPerKm } } }
    else s
  | none => s

/-- PAY stops the meter (R115, R116, R123). -/
def stopMeter (s : State) : State :=
  let s := if s.stc.fault then s else closeInterval false s
  { s with fmr := { s.fmr with
      hire := s.fmr.hire.map fun h => { h with intervalMetres := 0, payable := some (payableOf h.rounding h.fare) }
      intervalSince := none } }

/-- HIRE in PAYING resumes the hire (R117, R123; log 38). -/
def resumeMeter (s : State) : State :=
  let hire := s.fmr.hire.map fun h => { h with intervalMetres := 0, payable := none }
  { s with fmr :=
    { hire := hire, intervalSince := if s.stc.fault then none else some s.now, atInterval := hire } }

/-- The hire record marked ENDED (R118). -/
def HireRecord.ended (h : HireRecord) (conflict : Bool) (time : Option Nat) : HireRecord :=
  { h with state := .ended, endTime := time, flags := { h.flags with conflict := conflict } }

/-- The FMR hands the ended hire to the TLU and holds none (R118). -/
def endHire (conflict : Bool) (s : State) : State :=
  match s.fmr.hire with
  | some h => logHire (h.ended conflict s.time) { s with fmr := Fmr.reset }
  | none => s

/-! ## Digits (R119, R120) -/

/-- The hire with a new segment (R119). -/
def HireRecord.withTariff (h : HireRecord) (id : Nat) (r : Rates) : HireRecord :=
  { h with closed := h.closed ++ [h.current], current := openSegment id r false }

/-- A digit after TARIFF: none where it is refused (R119). -/
def tariffDigit (d : Nat) (s : State) : Option State :=
  match s.fmr.hire, s.tlu.active.bind (·.enabledRates d) with
  | some h, some r =>
    if s.dtc.duty = .hired && !s.stc.fault && h.current.tariffId ≠ d && h.segments.length < segmentCapacity then
      some { s with fmr := { s.fmr with hire := some (h.withTariff d r) } }
    else none
  | _, _ => none

/-- An extra's count. -/
def HireRecord.countOf (h : HireRecord) (id : Nat) : Nat :=
  match h.extras.find? (·.id = id) with
  | some x => x.count
  | none => 0

/-- The extras list with one more of an extra (R120). -/
def HireRecord.moreExtra (h : HireRecord) (id : Nat) : List ExtraUse :=
  if h.extras.any (·.id = id) then
    updateWhere (·.id = id) (fun x => { x with count := x.count + 1 }) h.extras
  else h.extras ++ [{ id := id, count := 1 }]

/-- The hire with one more of an extra, its fare and, in PAYING, its payable amount (R120). -/
def HireRecord.withExtra (h : HireRecord) (id : Nat) : HireRecord :=
  let h := { h with extras := h.moreExtra id }.withFare
  { h with payable := h.payable.map fun _ => payableOf h.rounding h.fare }

/-- The extra may be taken once more (R120). -/
def HireRecord.extraLeft (h : HireRecord) (id : Nat) : Bool :=
  match h.extrasTable[id - 1]? with
  | some x => 1 ≤ id && id ≤ 4 && x.amount ≠ 0 && h.countOf id < x.maxCount
  | none => false

/-- A digit after EXTRA: none where it is refused (R120). -/
def extraDigit (d : Nat) (s : State) : Option State :=
  match s.fmr.hire with
  | some h =>
    if (s.dtc.duty = .hired || s.dtc.duty = .paying) && !s.stc.fault && h.extraLeft d then
      some { s with fmr := { s.fmr with hire := some (h.withExtra d) } }
    else none
  | none => none

end Sys2Proof.Machine
end

