-- ==== Sys2Proof/Machine/Duty.lean ====
section
/-! DEFINITION. The duty transitions and what they tell the other blocks (R2 to R13), with the contests
abandoned on leaving VACANT (R102) and the entries freed with the job record (R104). -/

namespace Sys2Proof.Machine

open Sys2Proof

/-! ## Contests abandoned (R102) -/

/-- A contest is running. -/
def OfferState.running : OfferState → Bool
  | .waiting | .bid | .yielded => true
  | .passed | .late | .won | .taken | .lost | .declined | .closed => false

/-- An abandoned entry: PASSED, its deadline cleared; a queued BID is gone. -/
def OfferEntry.abandoned (e : OfferEntry) : OfferEntry :=
  { e with state := .passed, delayDeadline := none,
           bidFrame := if e.bidFrame = .inQueue then .none else e.bidFrame }

/-- The frame an abandoned entry asks of the CAU (R102). -/
def abandonFrame (e : OfferEntry) (s : State) : State :=
  match e.bidFrame with
  | .none => s
  | .inQueue => removeFrame .bid (.offer e.id) s
  | .sent => askContest .withdraw e.id s

/-- Abandon one entry where its contest runs. -/
def abandonOffer (e : OfferEntry) (s : State) : State :=
  if e.state.running then abandonFrame e (s.updOffer e.id OfferEntry.abandoned) else s

/-- The OCU abandons its running contests (R9, R102), in the order of their arrival (log 32). -/
def abandonContests (s : State) : State := s.ocu.offers.foldl (fun s e => abandonOffer e s) s

/-! ## Power (R199, R168) -/

/-- The move from PARK to RUN: the wake timer stops and the backlight takes its target (R168). -/
def toRun (s : State) : State :=
  match s.stc.power with
  | .run => s
  | .park => refreshTarget
      { s with stc := { s.stc with power := .run }, cns := { s.cns with wakeSince := none } }

/-! ## Transitions -/

/-- The duty state. -/
def setDuty (d : DutyState) (s : State) : State := { s with dtc := { s.dtc with duty := d } }

/-- Entry into VACANT (R8). -/
def enterVacant (s : State) : State :=
  let idle := s.dtc.duty = .offShift || s.dtc.duty = .onBreak
  let s := applyPendingSet { s with dtc := { s.dtc with duty := .vacant, vacantSeconds := 0 } }
  if idle then toRun s else s

/-- Entry into BREAK or OFF_SHIFT from VACANT (R9). -/
def enterIdleDuty (d : DutyState) (s : State) : State := applyPendingSet (abandonContests (setDuty d s))

/-- Entry into HIRED (R3): a transition out of VACANT abandons the contests (R9). -/
def enterHired (s : State) : State :=
  if s.dtc.duty = .vacant then abandonContests (setDuty .hired s) else setDuty .hired s

/-- Entry into PENDING (R6, R9, R161): other contests are abandoned, and any driver view closes. -/
def enterPending (s : State) : State := closeTo .none (abandonContests (setDuty .pending s))

/-- An event that ends PENDING (R7): it leaves another duty state unchanged. -/
def endPending (s : State) : State := if s.dtc.duty = .pending then enterVacant s else s

/-! ## The job record (R12, R13) -/

/-- Clear the job record; the OCU frees its TAKEN entry (R12, R104). -/
def clearJob (s : State) : State :=
  match s.dtc.job with
  | some j =>
    { s with dtc := { s.dtc with job := none },
             ocu := { s.ocu with offers := s.ocu.offers.filter fun e => !(e.id = j.id && e.state = .taken) } }
  | none => s

/-- The job record made from an entry (R12). -/
def jobOf (e : OfferEntry) (time : Option Nat) : JobRecord :=
  { id := e.id, pickup := e.pickup, text := e.text, confirm := .unconfirmed, confirmWait := true,
    conflict := false, acceptTime := time }

/-- Change the job record of an offer id; a request for another id is ignored (R13). -/
def updJob (id : OfferId) (f : JobRecord → JobRecord) (s : State) : State :=
  { s with dtc := { s.dtc with job := s.dtc.job.map fun j => if j.id = id then f j else j } }

/-- The job record's offer id. -/
def jobId (s : State) : Option OfferId := s.dtc.job.map (·.id)

/-- The confirm request (R13). -/
def confirmJob (id : OfferId) : State → State :=
  updJob id fun j => if j.conflict then j else { j with confirm := .confirmed, confirmWait := false }

/-- The tCONFIRM expiry request (R13). -/
def expireConfirm (id : OfferId) : State → State := updJob id fun j => { j with confirmWait := false }

/-- The conflict request (R13). -/
def conflictJob (id : OfferId) : State → State :=
  updJob id fun j => { j with conflict := true, confirmWait := false }

/-- The give-up request (R10, R13). -/
def giveUpJob (id : OfferId) (s : State) : State :=
  match s.dtc.job with
  | some j => if j.id = id then noticeJobGone j.text (enterVacant (clearJob s)) else s
  | none => s

/-! ## Keys of the duty state alone -/

/-- A new hire refused for want of room in the log (R3, R16). -/
def refuseLogFull (s : State) : State := noticeLogFull (refuse s)

/-- HIRE in VACANT or ASSIGNED (R3): the FAULT check, the log check, the opening. -/
def takeNewHire (s : State) : State :=
  if s.stc.fault then refuse s
  else if !takesHire s then refuseLogFull s
  else match s.tlu.active with
    | some t => enterHired (openHire t (if s.dtc.duty = .assigned then jobId s else none) s)
    | none => refuse s

/-- SHIFT in VACANT (R2). -/
def endShift (s : State) : State :=
  if takesShift s then enterIdleDuty .offShift (logShift s) else refuseLogFull s

/-- VACANT in PAYING (R4). -/
def endHireToVacant (s : State) : State :=
  let conflict := match s.dtc.job with
    | some j => j.conflict
    | none => false
  enterVacant (clearJob (endHire conflict s))

end Sys2Proof.Machine
end

