-- ==== Sys2Proof/Machine/Contest.lean ====
section
/-! DEFINITION. The Offer Contest Unit (chapter 5): rank, heard-bid lists, offers, window ends, the
winner, and CONFIRM. -/

namespace Sys2Proof.Machine

open Sys2Proof

/-! ## Rank and heard bids (R84, R85) -/

/-- A bid ranks better than another (R85). -/
def better (a b : BidRank) : Bool :=
  if a.score ≠ b.score then a.score < b.score
  else if a.vacant ≠ b.vacant then b.vacant < a.vacant
  else a.station < b.station

/-- Put a live bid at its place by rank, before every withdrawn bid. -/
def insertBid (b : HeardBid) : List HeardBid → List HeardBid
  | [] => [b]
  | a :: l => if a.withdrawn || better b.rank a.rank then b :: a :: l else a :: insertBid b l

/-- Make a place in a full list for a new bid, where there is one (R84). -/
def placeForBid (r : BidRank) (l : List HeardBid) : Option (List HeardBid) :=
  if l.length < heardCapacity then some l
  else if l.any (·.withdrawn) then some (removeFirst (·.withdrawn) l)
  else match l.getLast? with
    | some w => if better r w.rank then some l.dropLast else none
    | none => none

/-- A heard BID, or a TAKE when `take` is set, enters the list (R84). -/
def hearBid (take : Bool) (r : BidRank) (l : List HeardBid) : List HeardBid :=
  let b : HeardBid := { rank := r, withdrawn := false }
  match l.find? (·.rank.station = r.station) with
  | some old =>
    if old.withdrawn && !take then l else insertBid b (l.filter (·.rank.station ≠ r.station))
  | none =>
    match placeForBid r l with
    | some l => insertBid b l
    | none => l

/-- A station's bid is marked withdrawn and stands after every other (R84, R90). -/
def withdrawBid (station : Station) (l : List HeardBid) : List HeardBid :=
  match l.find? (fun b => b.rank.station = station && !b.withdrawn) with
  | some b => l.filter (·.rank.station ≠ station) ++ [{ b with withdrawn := true }]
  | none => l

/-- The own bid as it is compared (R85). -/
def OfferEntry.ownRank (own : Station) (e : OfferEntry) : Option BidRank :=
  match e.ownScore, e.ownVacant with
  | some score, some vacant => some { score := score, vacant := vacant, station := own }
  | _, _ => none

/-- A better bid is known for an entry (R85). -/
def betterKnown (own : Station) (e : OfferEntry) : Bool :=
  match e.ownRank own with
  | some r => e.heard.any fun b => !b.withdrawn && better b.rank r
  | none => false

/-- The window end has come: taken, or passed by the clock (R90). -/
def OfferEntry.ended (now : Moment) (e : OfferEntry) : Bool := e.windowTaken || e.windowEnd < now

/-! ## An OFFER (R86 to R89) -/

/-- The offer is eligible (R87). -/
def eligible (p : OfferPayload) (s : State) : Bool :=
  s.dtc.duty = .vacant && s.emergencyIdle && s.stc.power = .run && !s.lines.quiet && !s.stc.fault &&
    (p.radius = 0 ||
      match s.position with
      | some q => gridDistance q p.pickup ≤ p.radius
      | none => false)

/-- The score (R88). -/
def offerScore (pickup : Position) (s : State) : Nat :=
  let d := match s.position with
    | some q => min 4095 (gridDistance q pickup)
    | none => 4095
  min 32767 (8 * d - s.stc.config.wv * s.vacantMinutes)

/-- A delay for a score in a time left, in milliseconds (R89, R94). -/
def bidDelay (score left : Nat) : Nat := score * left / 32768

/-- The new entry of an OFFER (R86, R88, R89). -/
def newOffer (id : OfferId) (p : OfferPayload) (s : State) : OfferEntry :=
  let passed : OfferEntry :=
    { id := id, arrival := s.now, pickup := p.pickup, radius := p.radius, text := p.text,
      windowEnd := s.now + 100 * p.window, state := .passed, ownScore := none, ownVacant := none,
      delayDeadline := none, bidFrame := .none, jobTimer := none, heard := [], windowTaken := false }
  if eligible p s then
    let score := offerScore p.pickup s
    { passed with state := .waiting, ownScore := some score, ownVacant := some s.vacantMinutes,
                  delayDeadline := some (s.now + bidDelay score (100 * p.window)) }
  else passed

/-- An entry that may be freed early (R86). -/
def OfferState.spent : OfferState → Bool
  | .passed | .late | .lost | .declined | .closed => true
  | .waiting | .bid | .yielded | .won | .taken => false

/-- The table with a free entry: the earliest arrival of the spent ones leaves a full table (R86). -/
def roomForOffer (l : List OfferEntry) : List OfferEntry :=
  if l.length < offerCapacity then l else removeFirst (·.state.spent) l

/-- A delivered OFFER (R86). -/
def hearOffer (source : Station) (p : OfferPayload) (s : State) : State :=
  let id : OfferId := ⟨source, p.serial⟩
  if (s.offer? id).isSome then s
  else
    let l := roomForOffer s.ocu.offers
    if l.length < offerCapacity then { s with ocu := { s.ocu with offers := l ++ [newOffer id p s] } }
    else s

/-! ## What a change of the list brings (R93, R94) -/

/-- A better bid has become known (R93). -/
def yield (e : OfferEntry) (s : State) : State :=
  match e.state with
  | .waiting => s.updOffer e.id fun x => { x with state := .yielded, delayDeadline := none }
  | .bid =>
    match e.bidFrame with
    | .inQueue =>
      removeFrame .bid (.offer e.id)
        (s.updOffer e.id fun x => { x with state := .yielded, bidFrame := .none })
    | .none | .sent => s.updOffer e.id fun x => { x with state := .yielded }
  | .passed | .yielded | .late | .won | .taken | .lost | .declined | .closed => s

/-- The better bids have gone (R94). -/
def returnToContest (e : OfferEntry) (s : State) : State :=
  match e.bidFrame with
  | .sent => s.updOffer e.id fun x => { x with state := .bid }
  | .none | .inQueue => s.updOffer e.id fun x =>
      { x with state := .waiting,
               delayDeadline := some (s.now + bidDelay (x.ownScore.getD 0) (x.windowEnd - s.now)) }

/-- A better bid, as it is known now, moves an entry before its window end (R93, R99). -/
def yieldIfBetter (id : OfferId) (s : State) : State :=
  match s.offer? id with
  | some e => if !e.ended s.now && betterKnown s.own e then yield e s else s
  | none => s

/-- A YIELDED entry returns where a change of its list from `old` leaves no better bid before its window end
(R94). -/
def returnIfClear (old : List HeardBid) (id : OfferId) (s : State) : State :=
  match s.offer? id with
  | some e =>
    if e.heard ≠ old && e.state = .yielded && !e.ended s.now && !betterKnown s.own e then
      returnToContest e s
    else s
  | none => s

/-- Change the heard-bid list of an entry. -/
def updHeard (id : OfferId) (f : List HeardBid → List HeardBid) (s : State) : State :=
  s.updOffer id fun e => { e with heard := f e.heard }

/-- The rank a heard bid carries. -/
def BidPayload.rank (p : BidPayload) (source : Station) : BidRank :=
  { score := p.score, vacant := p.vacant, station := source }

/-- A heard BID (R90). -/
def hearBidFrame (source : Station) (p : BidPayload) (s : State) : State :=
  match s.offer? p.id with
  | some e =>
    if source = s.own || e.ended s.now then s
    else returnIfClear e.heard p.id (yieldIfBetter p.id (updHeard p.id (hearBid false (p.rank source)) s))
  | none => s

/-- A heard WITHDRAW (R90). -/
def hearWithdraw (source : Station) (id : OfferId) (s : State) : State :=
  match s.offer? id with
  | some e =>
    if source = s.own || e.ended s.now then s
    else returnIfClear e.heard id (updHeard id (withdrawBid source) s)
  | none => s

/-- A heard RELEASE (R90). -/
def hearRelease (source : Station) (id : OfferId) (s : State) : State :=
  match s.offer? id with
  | some e => if source = s.own then s else returnIfClear e.heard id (updHeard id (withdrawBid source) s)
  | none => s

/-! ## Moves of one entry -/

/-- The end of tOFFERHOLD (R104). -/
def OfferEntry.holdEnd (e : OfferEntry) : Moment := e.windowEnd + tOfferHold

/-- An entry becomes LOST or CLOSED with its timers stopped; past tOFFERHOLD it is freed at once
(R104). -/
def finishOffer (id : OfferId) (st : OfferState) (s : State) : State :=
  match s.offer? id with
  | some e =>
    if e.holdEnd ≤ s.now then s.freeOffer id
    else s.updOffer id fun x => { x with state := st, jobTimer := none, delayDeadline := none }
  | none => s

/-- The WON entry becomes DECLINED, and a RELEASE is asked for (R98). -/
def declineOffer (id : OfferId) (s : State) : State :=
  askContest .release id (s.updOffer id fun x => { x with state := .declined, jobTimer := none })

/-- A heard TAKE (R90, R99). -/
def hearTake (source : Station) (p : BidPayload) (s : State) : State :=
  match s.offer? p.id with
  | some e =>
    if source = s.own then s
    else
      let s := updHeard p.id (hearBid true (p.rank source)) s
      match e.state with
      | .waiting | .bid | .yielded => yieldIfBetter p.id s
      | .won =>
        match e.ownRank s.own with
        | some r =>
          if better (p.rank source) r then
            noticeJobGone e.text (endPending (finishOffer p.id .lost s))
          else s
        | none => s
      | .passed | .late | .taken | .lost | .declined | .closed => s
  | none => s

/-- A WAITING entry's delay has ended (R91). -/
def bidNow (id : OfferId) (s : State) : State :=
  let s := s.updOffer id fun x => { x with state := .bid, delayDeadline := none }
  let (s, answer) := requestFrame (contestFrame .bid id) s
  s.updOffer id fun x => { x with bidFrame := if answer = .queued || answer = .merged then .inQueue else .none }

/-- The CAU's in-service notice for a BID (R92). -/
def bidInService (id : OfferId) (s : State) : State :=
  match s.offer? id with
  | some e =>
    let s := s.updOffer id fun x => { x with bidFrame := .sent }
    if e.state = .passed then askContest .withdraw id s else s
  | none => s

/-- An entry becomes WON (R96). -/
def winOffer (id : OfferId) (s : State) : State :=
  let s := s.updOffer id fun x =>
    { x with state := .won, jobTimer := some (s.now + 1000 * s.stc.config.tAccept) }
  requestTone .offer (enterPending s)

/-- An entry whose window ends without a win (R95). -/
def settleUnwon (e : OfferEntry) (s : State) : State :=
  match e.state with
  | .bid =>
    match e.bidFrame with
    | .inQueue =>
      removeFrame .bid (.offer e.id) (s.updOffer e.id fun x => { x with state := .late, bidFrame := .none })
    | .none => s.updOffer e.id fun x => { x with state := .late }
    | .sent => s.updOffer e.id fun x => { x with state := .passed }
  | .waiting => s.updOffer e.id fun x => { x with state := .passed, delayDeadline := none }
  | .yielded => s.updOffer e.id fun x => { x with state := .passed }
  | .passed | .late | .won | .taken | .lost | .declined | .closed => s

/-- The window end is won: BID with the bid sent, no better bid known (R95), in VACANT (R6; log 26). -/
def winsWindow (e : OfferEntry) (s : State) : Bool :=
  e.state = .bid && e.bidFrame = .sent && !betterKnown s.own e && s.dtc.duty = .vacant

/-- The window of an entry ends (R95). -/
def endWindow (id : OfferId) (s : State) : State :=
  match s.offer? id with
  | some e =>
    let s := s.updOffer id fun x => { x with windowTaken := true }
    if winsWindow e s then winOffer id s else settleUnwon e s
  | none => s

/-- ACCEPT taken in PENDING (R6, R97). -/
def acceptOffer (s : State) : State :=
  match s.wonOffer? with
  | some e =>
    let s := s.updOffer e.id fun x =>
      { x with state := .taken, jobTimer := some (s.now + 1000 * s.stc.config.tConfirm) }
    let s := askContest .take e.id s
    { s with dtc := { s.dtc with duty := .assigned, job := some (jobOf e s.time) } }
  | none => s

/-- DECLINE taken in PENDING, or tACCEPT run out (R6, R98). -/
def declineWon (s : State) : State :=
  match s.wonOffer? with
  | some e => endPending (declineOffer e.id s)
  | none => s

/-- DECLINE taken in ASSIGNED (R10, R101). -/
def declineJob (s : State) : State :=
  match s.dtc.job with
  | some j => enterVacant (clearJob (askContest .release j.id s))
  | none => s

/-- tCONFIRM has run out (R97, R13). -/
def endConfirmWait (id : OfferId) (s : State) : State :=
  expireConfirm id (s.updOffer id fun x => { x with jobTimer := none })

/-- At the arming: contests abandoned, a WON entry DECLINED (R103). -/
def armContests (s : State) : State := declineWon (abandonContests s)

/-! ## CONFIRM (R100, R101) -/

/-- A CONFIRM naming another station, with a job record on that offer: give up or conflict (R13). -/
def jobGoesElsewhere (id : OfferId) (s : State) : State :=
  match s.dtc.duty with
  | .assigned => giveUpJob id s
  | .hired | .paying => conflictJob id s
  | .offShift | .vacant | .pending | .onBreak => s

/-- A CONFIRM for a TAKEN entry (R100). -/
def confirmTaken (id : OfferId) (mine : Bool) (s : State) : State :=
  if mine then confirmJob id (s.updOffer id fun x => { x with jobTimer := none })
  else jobGoesElsewhere id (finishOffer id .lost s)

/-- A CONFIRM naming another station for an entry not TAKEN (R100). -/
def closeOffer (e : OfferEntry) (s : State) : State :=
  match e.state with
  | .won => noticeJobGone e.text (endPending (finishOffer e.id .closed s))
  | .waiting | .bid | .yielded =>
    let s := if e.bidFrame = .inQueue then
        removeFrame .bid (.offer e.id) (s.updOffer e.id fun x => { x with bidFrame := .none })
      else s
    finishOffer e.id .closed s
  | .passed | .late | .declined => finishOffer e.id .closed s
  | .taken | .lost | .closed => s

/-- A delivered CONFIRM (R100, R101). -/
def hearConfirm (source : Station) (p : ConfirmPayload) (s : State) : State :=
  let id : OfferId := ⟨source, p.serial⟩
  let mine : Bool := p.winner = s.own
  match s.offer? id with
  | some e =>
    if e.state = .taken then confirmTaken id mine s
    else if mine then s
    else closeOffer e s
  | none =>
    if jobId s = some id then
      if mine then confirmJob id s else jobGoesElsewhere id s
    else s

end Sys2Proof.Machine
end

