-- ==== Sys2Proof/Machine/Emergency.lean ====
section
/-! DEFINITION. The Emergency Unit (chapter 10): arming, alarm schedule, codes, clearing, alarm list. -/

namespace Sys2Proof.Machine

open Sys2Proof

/-- Change the emergency record. -/
def updEmu (f : Emu → Emu) (s : State) : State := { s with emu := f s.emu }

/-- Set the class mask (R51). -/
def setMask (mask : Nat) (s : State) : State := { s with cau := { s.cau with mask := mask } }

/-! ## Own frames (R181, R188) -/

/-- The request for an own ALARM or ALARM_CLEAR. -/
def ownAlarmRequest (kind : FrameKind) : Request :=
  { kind := kind, dest := 0, cls := 0, ackReq := false, hop := 0, tag := .ownAlarm }

/-- Ask for an own ALARM; whatever becomes of the request, the schedule counts it (R181). -/
def askAlarm (s : State) : State := (requestFrame (ownAlarmRequest .alarm) s).1

/-- Ask for an ALARM_CLEAR; told DROPPED, the EMU asks again tCLEAR later (R188). -/
def askClear (s : State) : State :=
  let (s, answer) := requestFrame (ownAlarmRequest .alarmClear) s
  if answer = .dropped then clearDropped s else s

/-- The schedule after a due time (R181). -/
def Schedule.next (now : Moment) (c : Schedule) : Schedule :=
  match c.phase with
  | .fast left =>
    if left ≤ 1 then { c with phase := .slow, due := now + c.period }
    else { c with phase := .fast (left - 1), due := now + tAlm1 }
  | .slow => { c with due := now + c.period }

/-- A due time: the schedule moves on and a frame is asked for (R181). -/
def takeDue (c : Schedule) (s : State) : State :=
  askAlarm (updEmu (fun e => { e with schedule := some (c.next s.now) }) s)

/-- The fast phase starts: count 6, the first due time at once (R181). -/
def startFast (period : Nat) (s : State) : State :=
  takeDue { phase := .fast 6, period := period, due := s.now } s

/-- The slow phase starts with a period, its next due time one period ahead (R184, R187, R193). -/
def startSlow (period : Nat) (s : State) : State :=
  updEmu (fun e => { e with schedule := some { phase := .slow, period := period, due := s.now + period } }) s

/-! ## Arming and return (R179, R180, R188) -/

/-- Leaving IDLE: ARMING, the hold timer from 0, the class mask 1, the buzzer silent (R179). -/
def startArming (s : State) : State :=
  silence (setMask 1
    (updEmu (fun e => { e with state := .arming, holdTimer := some { since := s.now, acted := false } }) s))

/-- The record of the EMU back in IDLE (R188). -/
def Emu.idled (e : Emu) : Emu :=
  { e with state := .idle, holdTimer := none, seen := false, duress := false, schedule := none,
           clearDue := none, code := [], attempts := 0, lockout := none }

/-- The return to IDLE; a button still pressed starts ARMING at that moment (R188, R183, R179). -/
def returnToIdle (s : State) : State :=
  let s := setMask 4 (updEmu Emu.idled s)
  let s := removeFrame .alarmClear .ownAlarm (removeFrame .alarm .ownAlarm s)
  if s.lines.alarmPressed then startArming s else s

/-- The arming (R180): the OCU and the STC are told, and the fast phase begins. -/
def arm (s : State) : State :=
  let s := updEmu (fun e =>
    { e with state := .active, elapsed := 0, seen := false, duress := false, firstSerial := none,
             code := [] }) s
  startFast tAlm2 (toRun (armContests s))

/-- The slow period of the running schedule (R181). -/
def slowPeriod (s : State) : Nat :=
  match s.emu.schedule with
  | some c => c.period
  | none => tAlm2

/-- A hold of tHOLD in CLEARING: ACTIVE again, with the slow period of before (R185, R181). -/
def reactivate (s : State) : State :=
  startFast s.emu.keptPeriod (updEmu (fun e =>
    { e with state := .active, clearsSent := 0, clearDue := none, seen := false, duress := false }) s)

/-- The button has been held for tHOLD (R179, R185). -/
def holdReached (s : State) : State :=
  match s.emu.state with
  | .idle => s
  | .arming => arm s
  | .active | .acknowledged | .covert => startFast (slowPeriod s) s
  | .clearing => reactivate s

/-- ALARM pressed (R179, R185). -/
def alarmDown (s : State) : State :=
  match s.emu.state with
  | .idle => startArming s
  | .arming | .active | .acknowledged | .covert | .clearing =>
    updEmu (fun e => { e with holdTimer := some { since := s.now, acted := false } }) s

/-- ALARM released (R179, R185). -/
def alarmUp (s : State) : State :=
  match s.emu.state with
  | .arming => returnToIdle s
  | .idle | .active | .acknowledged | .covert | .clearing =>
    updEmu (fun e => { e with holdTimer := none }) s

/-! ## Codes (R186, R187) -/

/-- The state takes digits into the code buffer (R186). -/
def EmuState.takesCode : EmuState → Bool
  | .active | .acknowledged | .covert | .clearing => true
  | .idle | .arming => false

/-- The EMU takes keys: outside FAULT, in a state that takes codes (R179, R186, R192). -/
def emuTakesKeys (s : State) : Bool := !s.stc.fault && s.emu.state.takesCode

/-- A digit joins the buffer, which keeps the last four (R186). -/
def pushDigit (d : Fin 10) (code : List (Fin 10)) : List (Fin 10) :=
  (code ++ [d]).drop (code.length + 1 - 4)

/-- A digit that reaches the EMU. -/
def emuDigit (d : Fin 10) (s : State) : State :=
  if emuTakesKeys s then updEmu (fun e => { e with code := pushDigit d e.code }) s else s

/-- CLEAR that reaches the EMU. -/
def emuClear (s : State) : State :=
  if emuTakesKeys s then updEmu (fun e => { e with code := [] }) s else s

/-- The four digits of a code. -/
def codeDigits (c : Nat) : List (Fin 10) :=
  [ Fin.ofNat 10 (c / 1000), Fin.ofNat 10 (c / 100), Fin.ofNat 10 (c / 10), Fin.ofNat 10 c ]

/-- The entry into CLEARING (R188). -/
def enterClearing (s : State) : State :=
  askClear (updEmu (fun e =>
    { e with state := .clearing, attempts := 0, schedule := none, keptPeriod := slowPeriod s, clearsSent := 0,
             clearDue := none }) s)

/-- The entry into COVERT (R187). -/
def enterCovert (s : State) : State :=
  askAlarm (startSlow tAlm2 (updEmu (fun e => { e with state := .covert, attempts := 0, duress := true }) s))

/-- A wrong attempt (R187). -/
def wrongAttempt (s : State) : State :=
  updEmu (fun e =>
    let n := satAdd 3 e.attempts 1
    { e with attempts := n, lockout := if n = 3 then some (.running (s.now + tLock)) else e.lockout }) s

/-- What a submission holds. -/
inductive CodeHeld where
  | cancel | duress | other
deriving DecidableEq, Repr

/-- The code in the buffer (R187); a duress code equal to the cancel code counts as absent. -/
def codeHeld (s : State) : CodeHeld :=
  if s.emu.code = codeDigits s.stc.config.cancelCode then .cancel
  else match s.stc.config.duressCode with
    | some d => if s.emu.code = codeDigits d then .duress else .other
    | none => .other

/-- A submission in ACTIVE, ACKNOWLEDGED or COVERT without a lockout (R187). -/
def decideCode (s : State) : State :=
  match codeHeld s with
  | .cancel => enterClearing s
  | .duress =>
    if s.emu.state = .covert then updEmu (fun e => { e with attempts := 0 }) s else enterCovert s
  | .other => wrongAttempt s

/-- ACCEPT that reaches the EMU (R186, R187). -/
def emuSubmit (s : State) : State :=
  if emuTakesKeys s then
    let s' :=
      if s.emu.lockout.isSome then s
      else match s.emu.state with
        | .active | .acknowledged | .covert => decideCode s
        | .idle | .arming | .clearing => s
    updEmu (fun e => { e with code := [] }) s'
  else s

/-! ## Outcomes of an ALARM_CLEAR (R188) -/

/-- SENT of an ALARM_CLEAR in CLEARING. A tCLEAR wait of an earlier outcome is replaced (log 42). -/
def clearSent (s : State) : State :=
  if s.emu.state = .clearing then
    let n := s.emu.clearsSent + 1
    if n < 3 then
      updEmu (fun e => { e with clearsSent := n, clearDue := some (s.now + tClear) }) s
    else returnToIdle (updEmu (fun e => { e with clearsSent := n }) s)
  else s

/-! ## Acknowledgement (R184) -/

/-- A serial lies in those sent since the arming. -/
def seenMatches (serial : Serial) (s : State) : Bool :=
  match s.emu.firstSerial with
  | some first => (serial - first).toNat ≤ (s.emu.ownSerial - first).toNat
  | none => false

/-- An ALARM_SEEN addressed to this station. -/
def ownSeen (serial : Serial) (s : State) : State :=
  if seenMatches serial s then
    match s.emu.state with
    | .active => startSlow tAlm3 (updEmu (fun e => { e with state := .acknowledged, seen := true }) s)
    | .covert => startSlow tAlm3 (updEmu (fun e => { e with seen := true }) s)
    | .idle | .arming | .acknowledged | .clearing => s
  else s

/-! ## The alarm list (R190, R191) -/

/-- The entry of an origin. -/
def State.alarmEntry (s : State) (origin : Station) : Option AlarmEntry :=
  s.emu.alarms.find? (·.origin = origin)

/-- An entry leaves the list, and its notice the store (R191). -/
def dropAlarm (origin : Station) (s : State) : State :=
  dropAlarmNotice origin (updEmu (fun e => { e with alarms := e.alarms.filter (·.origin ≠ origin) }) s)

/-- A copy of an origin in the list (R190): its entry goes to the end, as the last heard. -/
def refreshAlarm (a : AlarmEntry) (p : AlarmPayload) (s : State) : State :=
  let newer := newerSerial p.serial a.lastSerial
  let a := { a with lastHeard := s.now, lastSerial := if newer then p.serial else a.lastSerial,
                    seen := a.seen || (newer && p.seen) }
  updEmu (fun e => { e with alarms := e.alarms.filter (·.origin ≠ a.origin) ++ [a] }) s

/-- Room in a full list: the earliest last heard leaves (R190). -/
def roomForAlarm (s : State) : State :=
  if s.emu.alarms.length < alarmCapacity then s
  else match s.emu.alarms with
    | a :: _ => dropAlarm a.origin s
    | [] => s

/-- The distance to an alarm's origin (R190). -/
def alarmDistance (p : AlarmPayload) (s : State) : Option Nat :=
  match s.position, p.originPosition with
  | some a, some b => some (gridDistance a b)
  | _, _ => none

/-- A new origin (R190). -/
def newAlarm (p : AlarmPayload) (s : State) : State :=
  let s := roomForAlarm s
  let a : AlarmEntry :=
    { origin := p.origin, lastSerial := p.serial, lastRelayed := none, seen := p.seen, lastHeard := s.now }
  let s := updEmu (fun e => { e with alarms := e.alarms ++ [a] }) s
  requestTone .alarmNear (noticeAlarmNear p.origin (alarmDistance p s) s)

/-- The list takes copies of other cabs' calls (R190). -/
def listedOrigin (origin : Station) (s : State) : Bool := isCab origin && origin ≠ s.own

/-- An ALARM copy at the EMU (R190). -/
def emuAlarm (p : AlarmPayload) (s : State) : State :=
  if listedOrigin p.origin s then
    match s.alarmEntry p.origin with
    | some a => refreshAlarm a p s
    | none => newAlarm p s
  else s

/-- An ALARM_CLEAR copy at the EMU (R191). -/
def emuAlarmClear (p : AlarmPayload) (s : State) : State :=
  if listedOrigin p.origin s then
    match s.alarmEntry p.origin with
    | some a => if newerSerial p.serial a.lastSerial then dropAlarm p.origin s else s
    | none => s
  else s

/-- An ALARM_SEEN at the EMU (R184, R190). -/
def emuAlarmSeen (dest : Station) (serial : Serial) (s : State) : State :=
  if dest = s.own then ownSeen serial s
  else updEmu (fun e =>
    { e with alarms := updateWhere (·.origin = dest) (fun a => { a with seen := true }) e.alarms }) s

/-! ## The elapsed count -/

/-- The elapsed count runs (R178, R193). -/
def elapsedRuns (s : State) : Bool := s.running && !s.stc.fault && s.emu.state.takesCode

/-- The elapsed count at a 1 s tick. -/
def tickElapsed (s : State) : State :=
  if elapsedRuns s then updEmu (fun e => { e with elapsed := satAdd 65535 e.elapsed 1 }) s else s

end Sys2Proof.Machine
end

