-- ==== Sys2Proof/Machine/Neighbours.lean ====
section
/-! DEFINITION. The Neighbour Table (chapter 4): neighbours, reachability, duplicate keys, relays. -/

namespace Sys2Proof.Machine

open Sys2Proof

/-! ## The neighbour table (R67 to R69) -/

/-- The position a header gives. -/
def headerPosition (h : Header) : Option Position := if h.fixValid then some h.position else none

/-- An entry refreshed by a header (R68). -/
def Neighbour.refreshed (n : Neighbour) (h : Header) (ticks : Nat) : Neighbour :=
  { n with duty := h.duty, emergency := h.emergency, position := headerPosition h, lastHeard := ticks,
           framesHeard := if h.cause = 0 then satAdd 255 n.framesHeard 1 else 1 }

/-- A new entry (R68). -/
def newNeighbour (h : Header) (ticks : Nat) : Neighbour :=
  { station := h.source, duty := h.duty, emergency := h.emergency, position := headerPosition h,
    lastHeard := ticks, framesHeard := 1 }

/-- An entry is replaced before another (R69). -/
def replacedBefore (a b : Neighbour) : Bool :=
  if a.lastHeard ≠ b.lastHeard then a.lastHeard < b.lastHeard
  else if (a.duty = 0) ≠ (b.duty = 0) then a.duty = 0
  else if a.framesHeard ≠ b.framesHeard then a.framesHeard < b.framesHeard
  else b.station < a.station

/-- The entry replaced in a full table: an ordinary cab, or any entry when there is none (R69). -/
def replacedNeighbour (l : List Neighbour) : Option Neighbour :=
  match pick replacedBefore (l.filter fun n => !isDispatch n.station && !n.emergency) with
  | some n => some n
  | none => pick replacedBefore l

/-- Home dispatch is unreachable from now on (R72). -/
def loseHome (s : State) : State := { s with nbt := { s.nbt with homeLevel := false } }

/-- An entry leaves the table; home dispatch is then unreachable (R70, R69, R72). -/
def dropNeighbour (station : Station) (s : State) : State :=
  let s := { s with nbt := { s.nbt with neighbours := s.nbt.neighbours.filter (·.station ≠ station) } }
  if station = s.stc.config.home then loseHome s else s

/-- Room in a full table (R69). -/
def roomForNeighbour (s : State) : State :=
  if s.nbt.neighbours.length < neighbourCapacity then s
  else match replacedNeighbour s.nbt.neighbours with
    | some n => dropNeighbour n.station s
    | none => s

/-- The table after a header (R68). -/
def refreshNeighbour (h : Header) (s : State) : State :=
  match s.neighbour h.source with
  | some _ =>
    let l := updateWhere (·.station = h.source) (fun n => n.refreshed h s.nbt.ticks) s.nbt.neighbours
    { s with nbt := { s.nbt with neighbours := l } }
  | none =>
    let s := roomForNeighbour s
    { s with nbt := { s.nbt with neighbours := s.nbt.neighbours ++ [newNeighbour h s.nbt.ticks] } }

/-- A header of home dispatch (R72, R73): it becomes reachable where the level stood unreachable before the
header, and the TLU is told that it was heard. -/
def hearHome (reachableBefore : Bool) (s : State) : State :=
  let s := { s with nbt := { s.nbt with homeLevel := true } }
  homeHeard (if reachableBefore then s else reportTest s)

/-- A status header at the NBT (R68, R72, R73). -/
def hearHeader (h : Header) (s : State) : State :=
  let u := refreshNeighbour h s
  if h.source = s.stc.config.home then hearHome s.homeReachable u else u

/-! ## The duplicate table (R74) -/

/-- A key is present. -/
def hasKey (k : DupName) (s : State) : Bool := s.nbt.dups.any (·.name = k)

/-- Enter a key unless it is present; the oldest leaves a full table. -/
def enterKey (k : DupName) (s : State) : State :=
  if hasKey k s then s
  else
    let l := if s.nbt.dups.length < dupCapacity then s.nbt.dups else s.nbt.dups.drop 1
    { s with nbt := { s.nbt with dups := l ++ [{ name := k, entered := s.nbt.ticks }] } }

/-! ## The relay schedule (R75 to R81) -/

/-- A relay record. -/
def State.relay? (s : State) (k : RelayKey) : Option Relay := s.nbt.relays.find? (·.key = k)

/-- The serial of a copy is newer than the last relayed of its origin (R77). -/
def serialNewer (k : RelayKey) (s : State) : Bool :=
  match s.alarmEntry k.origin with
  | some a =>
    match a.lastRelayed with
    | some l => newerSerial k.serial l
    | none => true
  | none => true

/-- The delay of a new record in slots (R78). -/
def relayDelay (source : Station) (s : State) : Nat :=
  let d := match s.position, (s.neighbour source).bind (·.position) with
    | some a, some b => gridDistance a b
    | _, _ => 0
  8 - min 7 (d / 50)

/-- Ask the CAU to remove a queued relay (R80). -/
def relayFrame (k : RelayKey) : State → State :=
  removeFrame (alarmFrameKind k.kind) (.relay k.origin k.serial)

/-- Cancel a record in DELAY or QUEUED (R80). -/
def cancelRelay (k : RelayKey) (s : State) : State :=
  match s.relay? k with
  | some r =>
    match r.state with
    | .delay => s.freeRelay k
    | .queued => (relayFrame k s).freeRelay k
    | .onAir => s
  | none => s

/-- A first copy may be scheduled (R77, test 4). -/
def mayRelay (k : RelayKey) (hop : Nat) (s : State) : Bool :=
  hop < 3 && s.stc.config.relayEnable && !s.lines.quiet && serialNewer k s &&
    s.nbt.relays.length < relayCapacity

/-- Schedule a first copy (R77, R78). -/
def scheduleRelay (k : RelayKey) (h : Header) (payload : List Byte) (s : State) : State :=
  let r : Relay := { key := k, heardHop := h.hop, payload := payload,
                     slotsLeft := relayDelay h.source s, state := .delay }
  { s with nbt := { s.nbt with relays := s.nbt.relays ++ [r] } }

/-- The duplicate key of an alarm copy (R74). -/
def relayDupName (k : RelayKey) : DupName := ⟨k.origin, alarmFrameKind k.kind, k.serial⟩

/-- A copy at the relay scheduler (R77). -/
def relayCopy (kind : AlarmKind) (p : AlarmPayload) (f : AirFrame) (s : State) : State :=
  let k : RelayKey := ⟨p.origin, kind, p.serial⟩
  if p.origin = s.own then s
  else match s.relay? k with
    | some r => if r.heardHop < f.header.hop then cancelRelay k s else s
    | none =>
      if hasKey (relayDupName k) s then s
      else
        let s := enterKey (relayDupName k) s
        if mayRelay k f.header.hop s then scheduleRelay k f.header f.payload s else s

/-- An ALARM_SEEN at the relay scheduler (R80). -/
def relaySeen (dest : Station) (serial : Serial) (s : State) : State :=
  if dest = s.own then s
  else enterKey ⟨dest, .alarmSeen, serial⟩
    (cancelRelay ⟨dest, .clear, serial⟩ (cancelRelay ⟨dest, .alarm, serial⟩ s))

/-- The request for a relay (R79). -/
def relayRequest (r : Relay) : Request :=
  { kind := alarmFrameKind r.key.kind, dest := 0, cls := 0, ackReq := false, hop := r.heardHop + 1,
    tag := .relay r.key.origin r.key.serial }

/-- The delay of a record has ended (R79). -/
def endRelayDelay (r : Relay) (s : State) : State :=
  if s.lines.quiet || !serialNewer r.key s then s.freeRelay r.key
  else
    let (s, answer) := requestFrame (relayRequest r) s
    if answer = .dropped then s.freeRelay r.key
    else s.updRelay r.key fun x => { x with state := .queued }

/-- The last relayed serial of an origin (R81). -/
def markRelayed (k : RelayKey) (s : State) : State :=
  if serialNewer k s then
    let mark := fun (a : AlarmEntry) => { a with lastRelayed := some k.serial }
    updEmu (fun e => { e with alarms := updateWhere (·.origin = k.origin) mark e.alarms }) s
  else s

/-- The in-service notice of a relay (R81). -/
def relayInService (k : RelayKey) (s : State) : State :=
  markRelayed k (s.updRelay k fun x => { x with state := .onAir })

/-- The payload of a relay at its first bit (R79). -/
def relayPayload (k : RelayKey) (s : State) : List Byte :=
  match s.relay? k with
  | some r =>
    let seen := hasKey ⟨k.origin, .alarmSeen, k.serial⟩ s ||
      (match s.alarmEntry k.origin with
        | some a => a.seen
        | none => false)
    markSeen seen r.payload
  | none => []

/-- Relay delays at a tick of the slot clock (R76). -/
def tickRelays (s : State) : State :=
  let tick := fun (r : Relay) => { r with slotsLeft := r.slotsLeft - 1 }
  { s with nbt := { s.nbt with relays := updateWhere (·.state = .delay) tick s.nbt.relays } }

end Sys2Proof.Machine
end

