-- ==== Sys2Proof/Machine/Access.lean ====
section
/-! DEFINITION. Keying, building and ending transmissions: entry into service (R50, R58), the frame
built at its first bit (R22, R27, R28), outcomes (R60 to R63), and the FRE's own ACK (R38). -/

namespace Sys2Proof.Machine

open Sys2Proof

/-! ## Outcomes (R62) -/

/-- The outcomes of an entry in service; DROPPED is `toldDropped`. -/
inductive Outcome where
  | sent | delivered | failed
deriving DecidableEq, Repr

/-- An originator is told SENT (R62; R81, R188). -/
def toldSent (q : Request) (s : State) : State :=
  match q.tag with
  | .ownAlarm => if q.kind = .alarmClear then clearSent s else s
  | .relay origin serial => s.freeRelay ⟨origin, if q.kind = .alarm then .alarm else .clear, serial⟩
  | .offer _ | .reply _ | .fareRecord _ | .beacon => s

/-- An originator is told DELIVERED (R62; R136, R155). -/
def toldDelivered (q : Request) (s : State) : State :=
  match q.tag with
  | .reply n => replyNotice n .delivered s
  | .fareRecord n => fareDelivered n s
  | .offer _ | .ownAlarm | .relay _ _ | .beacon => s

/-- An originator is told FAILED (R62; R136, R155). -/
def toldFailed (q : Request) (s : State) : State :=
  match q.tag with
  | .reply n => replyNotice n .failed s
  | .fareRecord n => fareLost n s
  | .offer _ | .ownAlarm | .relay _ _ | .beacon => s

/-- An originator is told its outcome. -/
def told (o : Outcome) (q : Request) : State → State :=
  match o with
  | .sent => toldSent q
  | .delivered => toldDelivered q
  | .failed => toldFailed q

/-- A held own-alarm request is taken as a new request (R46). -/
def admitHeld (s : State) : State :=
  match s.cau.held with
  | some q =>
    let (s, answer) := requestFrame q { s with cau := { s.cau with held := none } }
    if answer = .dropped then toldDropped q.kind q.tag s else s
  | none => s

/-- The in-service record becomes empty and the procedure returns to DEFER (R52, R60 to R62). Settling
(`settledAccess`) takes it from there at once: to GAP, to IDLE, or to INHIBITED under an inhibit (R59). -/
def endService (s : State) : State :=
  { s with cau := { s.cau with
    inService := none, access := { s.cau.access with phase := .defer, candidate := none } } }

/-- The entry in service leaves the queue with an outcome (R62, R46). -/
def leaveService (o : Outcome) (e : QueueEntry) (s : State) : State :=
  let s := dequeue e.number (endService s)
  let s := told o e.req s
  if isOwnAlarm e.req then admitHeld s else s

/-- The queue entry in service. -/
def State.serviceEntry (s : State) : Option QueueEntry := s.cau.inService.bind fun r => s.entry? r.entry

/-! ## Payloads built at the first bit (R28) -/

/-- The next free score (log 11). -/
def freeScoreOf (s : State) : Nat × State := ((Config.freeScore s.free).toNat, s.nextFree)

/-- The payload of a BID or TAKE (R91, R97). A BID records the vacant minutes it carries; without an
entry the score is free (log 11). -/
def bidPayload (kind : FrameKind) (id : OfferId) (s : State) : List Byte × State :=
  let v := s.vacantMinutes
  match (s.offer? id).bind (·.ownScore) with
  | some score =>
    ( encodeBid { id := id, score := score, vacant := v },
      if kind = .bid then s.updOffer id fun e => { e with ownVacant := some v } else s )
  | none =>
    let (score, s) := freeScoreOf s
    (encodeBid { id := id, score := score, vacant := v }, s)

/-- The payload of a reply (R154). -/
def replyPayload (number replyTo : Serial) (phrase : Nat) (text : List Byte) : List Byte :=
  encodeMsg { number := number, index := 1, count := 1, pin := false, replyWanted := false,
              isReply := true, validity := 0, replyTo := replyTo, phrase := phrase, text := text }

/-- The text of a phrase number 1 to 9. -/
def phraseText (s : State) (n : Nat) : List Byte :=
  match n with
  | 0 => []
  | n + 1 => s.mst.phrases.getD n []

/-- The number a message was given; a notice has none. -/
def MsgName.number : MsgName → Serial
  | .message _ number => number
  | .notice _ => 0

/-- The payload of the reply of an entry; of an entry that is gone its fields are free (log 12). -/
def replyBytes (n : Nat) (s : State) : List Byte × State :=
  match s.msg? n with
  | some e =>
    match e.reply with
    | some r => (replyPayload r.number e.name.number r.phrase (phraseText s r.phrase), s)
    | none => ([], s)
  | none =>
    let k := s.free
    let phrase := (Config.freeReplyPhrase k).val
    ( replyPayload (Config.freeReplyNumber k) (Config.freeReplyTo k) phrase (phraseText s phrase),
      s.nextFree )

/-- The payload of a FARE (R135). -/
def fareBytes (n : Nat) (s : State) : List Byte :=
  match s.tlu.log.find? (·.number = n) with
  | some r => encodeFare r
  | none => []

/-- The fields of an own ALARM or ALARM_CLEAR with a serial (R182). -/
def ownAlarmFields (serial : Serial) (s : State) : AlarmPayload :=
  { origin := s.own, serial := serial, duress := s.emu.duress, seen := s.emu.seen,
    fixValid := s.dtc.fixValid, duty := dutyCode s.dtc.duty, elapsed := s.emu.elapsed,
    position := s.position.getD ⟨0, 0⟩, job := jobId s }

/-- The payload of an own ALARM or ALARM_CLEAR: the own serial advances (R182). -/
def ownAlarmBytes (kind : FrameKind) (s : State) : List Byte × State :=
  let serial := s.emu.ownSerial + 1
  let first := if kind = .alarm && s.emu.firstSerial.isNone then some serial else s.emu.firstSerial
  (encodeAlarm (ownAlarmFields serial s), updEmu (fun e => { e with ownSerial := serial, firstSerial := first }) s)

/-- The payload that the originator of a frame builds (R28). -/
def payloadOf (q : Request) (s : State) : List Byte × State :=
  match q.tag with
  | .offer id =>
    if q.kind = .bid || q.kind = .take then bidPayload q.kind id s else (encodeOfferId id, s)
  | .reply n => replyBytes n s
  | .fareRecord n => (fareBytes n s, s)
  | .ownAlarm => ownAlarmBytes q.kind s
  | .relay origin serial =>
    (relayPayload ⟨origin, if q.kind = .alarm then .alarm else .clear, serial⟩ s, s)
  | .beacon => ([], s)

/-! ## The frame (R22, R27, R28) -/

/-- The header of a frame whose transmission begins (R22, R28). -/
def headerOf (q : Request) (seq : Serial) (s : State) : Header :=
  { fleet := s.stc.config.fleet, hop := q.hop, ackReq := q.ackReq, source := s.own, dest := q.dest,
    seq := seq, duty := dutyCode s.dtc.duty, emergency := s.emergencyFlag, fixValid := s.dtc.fixValid,
    cause := causeCode s.stc.pendingCause, position := s.position.getD ⟨0, 0⟩ }

/-- A frame as it goes out now: in loopback TXD is not driven (R25, R42). -/
def txFrame (kind : FrameKind) (f : AirFrame) (s : State) : TxFrame :=
  { kind := kind, frame := f, txd := if s.stc.loopback then [] else airBits (kindCode kind) f }

/-- A transmission begins (R28, R40, R22, R173): the frame is on the air, counted, the start cause
handed over, activity signalled. -/
def beginTransmission (t : TxFrame) (s : State) : State :=
  signalActivity { s with
    stc := { s.stc with pendingCause := none },
    fre := { s.fre with onAir := some t,
                        counters := { s.fre.counters with
                          transmissions := wrapInc 9999 s.fre.counters.transmissions } } }

/-- The sequence number of a frame: a retry keeps its own (R27). -/
def takeSeq (old : Option Serial) (s : State) : Serial × State :=
  match old with
  | some n => (n, s)
  | none => (s.fre.seq + 1, { s with fre := { s.fre with seq := s.fre.seq + 1 } })

/-- The first bit of the frame in service: phase SENDING, the frame built (R58). -/
def sendEntry (r : InService) (e : QueueEntry) (s : State) : State :=
  let (seq, s) := takeSeq e.seq s
  let header := headerOf e.req seq s
  let (payload, s) := payloadOf e.req s
  let s := s.updEntry e.number fun x => { x with seq := some seq }
  let s := { s with cau := { s.cau with inService := some { r with phase := .sending, since := s.now } } }
  beginTransmission (txFrame e.req.kind { header := header, payload := payload } s) s

/-! ## Entry into service (R50, R58) -/

/-- The in-service notice to the originator (R50; R81, R92, R155). -/
def inServiceNotice (q : Request) (s : State) : State :=
  match q.tag with
  | .offer id => if q.kind = .bid then bidInService id s else s
  | .reply n => replyNotice n .sent s
  | .relay origin serial => relayInService ⟨origin, if q.kind = .alarm then .alarm else .clear, serial⟩ s
  | .fareRecord _ | .ownAlarm | .beacon => s

/-- TXKEY is asserted: the receive engine is suspended (R29). -/
def suspendReceive (s : State) : State :=
  { s with fre := { s.fre with rx := .suspended, window := 0, gathering := none } }

/-- TXKEY is released: the receive engine hunts with an empty window (R29). -/
def resumeReceive (s : State) : State :=
  { s with fre := { s.fre with rx := .hunt, window := 0, gathering := none } }

/-- The candidate enters service (R50, R58): keyed, or in loopback sent at once. -/
def enterService (e : QueueEntry) (s : State) : State :=
  let r : InService :=
    { entry := e.number, phase := .keyup, since := s.now, endTime := none, deferred := false }
  let s := { s with cau := { s.cau with inService := some r, access := { s.cau.access with phase := .idle, candidate := none } } }
  let s := if s.stc.loopback then s else suspendReceive s
  let s := if e.seq.isNone then inServiceNotice e.req s else s
  if s.stc.loopback then sendEntry r e s else s

/-- With CD clear and no inhibit, a candidate whose backoff stands at 0 is keyed (R55, R58). -/
def keyIfZero (n : Nat) (s : State) : State :=
  match s.entry? n with
  | some e => if e.backoff = some 0 then enterService e s else s
  | none => s

/-- The class gap has passed (R53, R54): BACKOFF, with a count drawn where there is none. -/
def countGap (e : QueueEntry) (s : State) : State :=
  let count := e.backoff.getD (drawBackoff s e)
  let s := s.updEntry e.number fun x => { x with backoff := some count }
  { s with cau := { s.cau with
    access := { phase := .backoff, candidate := some e.number, since := s.now } } }

/-- A clear backoff slot has ended: the count falls by 1 (R55). -/
def countSlot (e : QueueEntry) (s : State) : State :=
  let s := s.updEntry e.number fun x => { x with backoff := x.backoff.map (· - 1) }
  { s with cau := { s.cau with access := { s.cau.access with since := s.now } } }

/-- The gap ends with CD clear (R53, R58). -/
def endGap (e : QueueEntry) (s : State) : State := keyIfZero e.number (countGap e s)

/-- The slot ends with CD clear (R55, R58). -/
def endSlot (e : QueueEntry) (s : State) : State := keyIfZero e.number (countSlot e s)

/-- The candidate that a gap or slot can end for: no carrier and no inhibit (R53, R55, R59). CD asserted at the
very end has been taken with its own row (`countAtCarrier`). -/
def timedCandidate (phase : AccessPhase) (s : State) : Option QueueEntry :=
  if s.cau.access.phase = phase && s.cau.inService.isNone && !s.channelBusy && !s.inhibited then
    s.cau.access.candidate.bind s.entry?
  else none

/-- What CD, asserted now, finds (R58; log 39): a gap or slot whose end has come is counted, and the frame is
not keyed, with a count of 0 too. -/
def countAtCarrier (s : State) : State :=
  match timedCandidate .gap s, timedCandidate .backoff s with
  | some e, _ => if s.cau.access.since + classGap e.req.cls ≤ s.now then countGap e s else s
  | none, some e => if s.cau.access.since + tSlot ≤ s.now then countSlot e s else s
  | none, none => s

/-! ## Ends of transmissions -/

/-- The last bit of the frame in service (R58, R60). The beacon timer reloads here under QUIET too (R64;
log 34). -/
def endSending (r : InService) (e : QueueEntry) (s : State) : State :=
  let s := resumeReceive { s with fre := { s.fre with onAir := none } }
  let s := reloadBeacon s
  if e.req.ackReq then
    { s with cau := { s.cau with
      inService := some { r with phase := .ackWait, since := s.now, endTime := some s.now } } }
  else leaveService .sent e s

/-- tACKWAIT has run out (R61, R63). -/
def endAckWait (r : InService) (e : QueueEntry) (s : State) : State :=
  if e.retries < 4 && !r.deferred then
    endService (s.updEntry e.number fun x => { x with retries := x.retries + 1, backoff := none })
  else
    let n := if e.retries < 4 then 0 else 1
    leaveService .failed e { s with fre := { s.fre with
      counters := { s.fre.counters with txFailures := satAdd 255 s.fre.counters.txFailures n } } }

/-- An ACK matches the frame in ACK_WAIT (R60). -/
def ackMatches (source : Station) (p : AckPayload) (r : InService) (e : QueueEntry) : Bool :=
  r.phase = .ackWait && e.req.dest = source && kindCode e.req.kind = p.kind && e.seq = some p.seq

/-- An ACK delivered to the CAU (R60). -/
def hearAck (source : Station) (p : AckPayload) (s : State) : State :=
  match s.cau.inService, s.serviceEntry with
  | some r, some e => if ackMatches source p r e then leaveService .delivered e s else s
  | _, _ => s

/-! ## The FRE's own ACK (R38) -/

/-- The conditions of R38 for a pending ACK. -/
def mayAck (s : State) : Bool :=
  !s.channelBusy && !s.inhibited && !s.stc.loopback && s.fre.rx = .hunt

/-- tACKGAP has passed: the ACK is keyed or given up (R38). -/
def endAckGap (record : PendingAck) (s : State) : State :=
  let sends := mayAck s
  let s := { s with fre := { s.fre with pendingAck := none } }
  if sends then
    suspendReceive { s with fre := { s.fre with
      ackTx := some { record := record, sent := false, since := s.now } } }
  else s

/-- An ACK asks for nothing of the queue; its header is that of R38. -/
def ackRequest (record : PendingAck) : Request :=
  { kind := .ack, dest := record.dest, cls := 0, ackReq := false, hop := 0, tag := .beacon }

/-- The first bit of an ACK (R38, R27). -/
def sendAck (t : AckTx) (s : State) : State :=
  let (seq, s) := takeSeq none s
  let header := headerOf (ackRequest t.record) seq s
  let payload := encodeAck { kind := kindCode t.record.kind, seq := t.record.seq }
  let s := { s with fre := { s.fre with ackTx := some { t with sent := true, since := s.now } } }
  beginTransmission (txFrame .ack { header := header, payload := payload } s) s

/-- The last bit of an ACK (R38, R64; log 34). -/
def endAck (s : State) : State :=
  reloadBeacon (resumeReceive { s with fre := { s.fre with ackTx := none, onAir := none } })

/-- The airtime of the frame on the air in milliseconds. -/
def airtimeNow (s : State) : Nat :=
  match s.fre.onAir with
  | some t => airtimeMs t.frame.payload.length
  | none => 0

end Sys2Proof.Machine
end

