-- ==== Sys2Proof/Machine/Receive.lean ====
section
/-! DEFINITION. The receive path (R29 to R39) and the frame rows; the looped frame (R42). -/

namespace Sys2Proof.Machine

open Sys2Proof

/-! ## Counters (R40) -/

/-- Change the channel counters. -/
def updCounters (f : Counters → Counters) (s : State) : State :=
  { s with fre := { s.fre with counters := f s.fre.counters } }

/-- A bad length or a CRC mismatch. -/
def countBad : State → State := updCounters fun c => { c with badCrc := satAdd 255 c.badCrc 1 }

/-- A foreign frame (R32). -/
def countForeign : State → State := updCounters fun c => { c with foreign := satAdd 255 c.foreign 1 }

/-- A valid frame (R32): counted, and activity signalled. -/
def countGood (s : State) : State :=
  signalActivity (updCounters (fun c => { c with good := wrapInc 9999 c.good }) s)

/-! ## Delivery (R35 to R38) -/

/-- An ACK is prepared: the pending record is filled (R38). -/
def prepareAck (kind : FrameKind) (h : Header) (s : State) : State :=
  { s with fre := { s.fre with
      pendingAck := some { dest := h.source, kind := kind, seq := h.seq, due := s.now + tAckGap } } }

/-- The payload at the owner of its kind (R35); the alarm family goes to its two owners (R36), of which the
relay scheduler takes the copy first (log 35). -/
def deliver (kind : FrameKind) (f : AirFrame) (s : State) : State :=
  let source := f.header.source
  let p := f.payload
  match kind with
  | .beacon | .fare => s
  | .offer => match parseOffer p with
    | some x => hearOffer source x s
    | none => s
  | .bid => match parseBid p with
    | some x => hearBidFrame source x s
    | none => s
  | .withdraw => match parseOfferId p with
    | some x => hearWithdraw source x s
    | none => s
  | .take => match parseBid p with
    | some x => hearTake source x s
    | none => s
  | .release => match parseOfferId p with
    | some x => hearRelease source x s
    | none => s
  | .confirm => match parseConfirm p with
    | some x => hearConfirm source x s
    | none => s
  | .msg => match parseMsg p with
    | some x => deliverMsg source (f.header.dest = s.own) x s
    | none => s
  | .ack => match parseAck p with
    | some x => if f.header.dest = s.own then hearAck source x s else s
    | none => s
  | .tariff => match parseTariff p with
    | some x => deliverTariff x s
    | none => s
  | .alarm => match parseAlarm p with
    | some x => emuAlarm x (relayCopy .alarm x f s)
    | none => s
  | .alarmClear => match parseAlarm p with
    | some x => emuAlarmClear x (relayCopy .clear x f s)
    | none => s
  | .alarmSeen => match parseAlarmSeen p with
    | some x => emuAlarmSeen f.header.dest x (relaySeen f.header.dest x s)
    | none => s

/-- The duplicate key of a frame (R36). -/
def frameKey (kind : FrameKind) (h : Header) : DupName := ⟨h.source, kind, h.seq⟩

/-- A frame that asks for an acknowledgement (R36). -/
def asksAck (kind : FrameKind) (h : Header) (s : State) : Bool :=
  h.dest = s.own && h.ackReq && kindHasOwner kind && !isAlarmFamily kind

/-- The owner takes the frame: only the MST is asked (R37). -/
def ownerTakes (kind : FrameKind) (f : AirFrame) (s : State) : Bool :=
  match kind, parseMsg f.payload with
  | .msg, some p => mstAnswer f.header.source p s
  | _, _ => true

/-- A frame that asks for an acknowledgement (R36, R37). -/
def acknowledge (kind : FrameKind) (f : AirFrame) (s : State) : State :=
  let key := frameKey kind f.header
  if hasKey key s then prepareAck kind f.header s
  else if ownerTakes kind f s then
    prepareAck kind f.header (enterKey key (deliver kind f s))
  else s

/-- A well-formed payload from an accepted source, by its destination (R35, R36). -/
def route (kind : FrameKind) (f : AirFrame) (s : State) : State :=
  if isAlarmFamily kind then deliver kind f s
  else if asksAck kind f.header s then acknowledge kind f s
  else if f.header.dest = 0 || f.header.dest = s.own then deliver kind f s
  else s

/-- The payload of a valid frame of another station (R33 to R37). -/
def routeKind (kind : Option FrameKind) (f : AirFrame) (s : State) : State :=
  match kind with
  | some k => if payloadWellFormed k f.payload && sourceAccepted k f.header.source then route k f s else s
  | none => s

/-! ## A frame gathered whole with its CRC good (R29, R32) -/

/-- The frame is the one in BODY (R29): its kind, header and payload length are those gathered. A frame ends
from BODY alone, so one abandoned, or never found by its sync word, is not taken (log 8). -/
def gathers (kind : Nat) (f : AirFrame) (s : State) : Bool :=
  s.running && s.fre.rx = .body && s.fre.gathering = some (⟨kind, f.header⟩, f.payload.length)

/-- A valid frame of another station, or of this one or source 0 (R32). -/
def validFrame (kind : Option FrameKind) (f : AirFrame) (s : State) : State :=
  let s := countGood s
  if f.header.source = 0 || f.header.source = s.own || s.stc.fault then s
  else routeKind kind f (hearHeader f.header s)

/-- The fleet test (R32); with a configured code of 0 every frame is foreign. -/
def foreignFrame (f : AirFrame) (s : State) : Bool :=
  s.stc.config.fleet = 0 || f.header.fleet ≠ s.stc.config.fleet

/-- The frame at the end of its last CRC byte. -/
def takeFrame (kind : Option FrameKind) (f : AirFrame) (s : State) : State :=
  let s := resumeReceive s
  if foreignFrame f s then countForeign s else validFrame kind f s

/-- A frame row of a kind's code, 0 to 15 (section 2.7.2); 14 and 15 have no owner (R33). -/
def receiveFrame (kind : Nat) (f : AirFrame) (s : State) : Host.Outcome State Fault Refusal :=
  .next (if gathers kind f s then finish (takeFrame (kindOfCode kind) f s) else s)

/-! ## The looped frame (R42) -/

/-- The payload of a looped frame: an alarm goes to the EMU and not to the relay scheduler. -/
def deliverLooped (kind : FrameKind) (f : AirFrame) (s : State) : State :=
  match kind, parseAlarm f.payload with
  | .alarm, some x => emuAlarm x s
  | .alarmClear, some x => emuAlarmClear x s
  | .alarm, none | .alarmClear, none => s
  | k, _ => if f.header.dest = 0 || f.header.dest = s.own then deliver k f s else s

/-- A looped frame at the receive tests. -/
def takeLooped (t : TxFrame) (s : State) : State :=
  let s := countGood s
  if payloadWellFormed t.kind t.frame.payload && sourceAccepted t.kind t.frame.header.source then
    deliverLooped t.kind t.frame s
  else s

/-- A looped frame ends: the receive tests, then its outcome (R42, R58). -/
def endLooped (e : QueueEntry) (t : TxFrame) (s : State) : State :=
  let s := reloadBeacon (takeLooped t { s with fre := { s.fre with onAir := none } })
  leaveService (if e.req.ackReq then .delivered else .sent) e s

/-! ## The rows -/

/-- BEACON: header only (R35). -/
def execBeacon (f : AirFrame) (s : State) : Host.Outcome State Fault Refusal := receiveFrame (kindCode .beacon) f s

/-- OFFER (R86 to R89). -/
def execOffer (f : AirFrame) (s : State) : Host.Outcome State Fault Refusal := receiveFrame (kindCode .offer) f s

/-- BID (R90, R93, R94). -/
def execBid (f : AirFrame) (s : State) : Host.Outcome State Fault Refusal := receiveFrame (kindCode .bid) f s

/-- WITHDRAW (R90, R94). -/
def execWithdraw (f : AirFrame) (s : State) : Host.Outcome State Fault Refusal := receiveFrame (kindCode .withdraw) f s

/-- TAKE (R90, R99). -/
def execTake (f : AirFrame) (s : State) : Host.Outcome State Fault Refusal := receiveFrame (kindCode .take) f s

/-- RELEASE (R90, R94). -/
def execRelease (f : AirFrame) (s : State) : Host.Outcome State Fault Refusal := receiveFrame (kindCode .release) f s

/-- CONFIRM (R100, R101). -/
def execConfirm (f : AirFrame) (s : State) : Host.Outcome State Fault Refusal := receiveFrame (kindCode .confirm) f s

/-- MSG (R142 to R145). -/
def execMsg (f : AirFrame) (s : State) : Host.Outcome State Fault Refusal := receiveFrame (kindCode .msg) f s

/-- ACK (R39, R60). -/
def execAck (f : AirFrame) (s : State) : Host.Outcome State Fault Refusal := receiveFrame (kindCode .ack) f s

/-- FARE: delivered to no owner (R35). -/
def execFare (f : AirFrame) (s : State) : Host.Outcome State Fault Refusal := receiveFrame (kindCode .fare) f s

/-- TARIFF (R128, R129). -/
def execTariff (f : AirFrame) (s : State) : Host.Outcome State Fault Refusal := receiveFrame (kindCode .tariff) f s

/-- ALARM (R77, R190). -/
def execAlarm (f : AirFrame) (s : State) : Host.Outcome State Fault Refusal := receiveFrame (kindCode .alarm) f s

/-- ALARM_CLEAR (R77, R191). -/
def execAlarmClear (f : AirFrame) (s : State) : Host.Outcome State Fault Refusal :=
  receiveFrame (kindCode .alarmClear) f s

/-- ALARM_SEEN (R80, R184, R190). -/
def execAlarmSeen (f : AirFrame) (s : State) : Host.Outcome State Fault Refusal :=
  receiveFrame (kindCode .alarmSeen) f s

/-- UNASSIGNED_KIND: header only (R33). Of an assigned kind the row says nothing. -/
def execUnassignedKind (kind : Nat) (f : AirFrame) (s : State) : Host.Outcome State Fault Refusal :=
  if (kindOfCode kind).isNone then receiveFrame kind f s else .next s

/-- A frame ends uncounted as good: bad CRC, and back to HUNT (R30, R31). -/
def endBad (s : State) : State := countBad (resumeReceive s)

/-- BAD_LENGTH (R30): the 13th header byte tells it. -/
def execBadLength (length : Nat) (s : State) : Host.Outcome State Fault Refusal :=
  .next (whenRunning (fun s => if s.fre.rx = .header && 64 < length then endBad s else s) s)

/-- CRC_MISMATCH (R31): the last CRC byte tells it. -/
def execCrcMismatch (s : State) : Host.Outcome State Fault Refusal :=
  .next (whenRunning (fun s => if s.fre.rx = .body then endBad s else s) s)

/-- The sync word (R25). -/
def syncWord : BitVec 16 := 0xB34E

/-- SYNC_WORD_MATCHED: the window, and HEADER where it equals the sync word (R29). -/
def execSyncWordMatched (window : BitVec 16) (s : State) : Host.Outcome State Fault Refusal :=
  .next (whenRunning (fun s =>
    if s.fre.rx = .hunt then
      if window = syncWord then { s with fre := { s.fre with rx := .header, window := 0 } }
      else { s with fre := { s.fre with window := window } }
    else s) s)

/-- HEADER_COMPLETE: a good length takes the engine to BODY (R29, R30). -/
def execHeaderComplete (h : FrameHead) (length : Nat) (s : State) : Host.Outcome State Fault Refusal :=
  .next (whenRunning (fun s =>
    if s.fre.rx = .header then
      if length ≤ 64 then
        { s with fre := { s.fre with rx := .body, window := 0, gathering := some (h, length) } }
      else endBad s
    else s) s)

end Sys2Proof.Machine
end

