-- ==== Sys2Proof/Machine/Keys.lean ====
section
/-! DEFINITION. The keypad (R169 to R171), the key rows (R14), and the display in PARK (R168). -/

namespace Sys2Proof.Machine

open Sys2Proof

/-! ## What a key event does before it is routed (R168, R171) -/

/-- The CLICK of a key event, where key click is enabled (R171). -/
def clickTone (s : State) : State := if s.consoleConfig.keyClick then requestTone .click s else s

/-- The prefix ends (R171). -/
def dropPrefix (s : State) : State := { s with cns := { s.cns with keyPrefix := none } }

/-- Set the pending prefix (R171). -/
def setPrefix (p : KeyPrefix) (s : State) : State := { s with cns := { s.cns with keyPrefix := some p } }

/-- The wake timer is set (R168). -/
def restartWake (s : State) : State := { s with cns := { s.cns with wakeSince := some s.now } }

/-- The display wakes in PARK (R168). -/
def wakeDisplay (s : State) : State := setLevel s.consoleConfig.nightLevel (restartWake s)

/-- The keys that have no other effect while the display is awake in PARK (R168). -/
def viewKey : Key → Bool
  | .read | .up | .down | .reply | .clear => true
  | .shift | .hire | .pay | .vacant | .onBreak | .accept | .decline | .extra | .tariff | .digit _ => false

/-- A key event at the CNS (R168, R171). -/
def keyEvent (k : Key) (act : State → State) (s : State) : State :=
  let s := clickTone s
  if s.stc.power = .park then
    if s.cns.wakeSince.isNone then wakeDisplay s
    else if viewKey k then restartWake s
    else act (restartWake s)
  else act s

/-! ## Acceptance (R169) -/

/-- The scanner can accept `k` now (R169; log 9): SETTLING, with `k` alone in contact. -/
def canAccept (k : Key) (s : State) : Bool :=
  s.cns.contacts = [k] &&
    match s.cns.scanner with
    | .settling k' _ => k' = k
    | .off | .free | .held _ _ _ | .locked => false

/-- The debounce of the key has passed. -/
def reachDebounce (s : State) : State :=
  match s.cns.scanner with
  | .settling _ since => s.reach (since + tDebounce)
  | .off | .free | .held _ _ _ | .locked => s

/-- The key is accepted: HELD (R169). -/
def holdKey (k : Key) (s : State) : State :=
  let s := reachDebounce s
  { s with cns := { s.cns with scanner := .held k true (s.now + tRepeatFirst), releaseSince := none } }

/-- A key row: acceptance, then the key event. -/
def acceptKey (k : Key) (act : State → State) (s : State) : Host.Outcome State Fault Refusal :=
  .next (if s.running && canAccept k s then finish (keyEvent k act (holdKey k s)) else s)

/-! ## Routes (R14, R171) -/

/-- SHIFT (R2). -/
def shiftKey (s : State) : State :=
  match s.dtc.duty with
  | .offShift => beginShift (enterVacant s)
  | .vacant => endShift s
  | .pending | .assigned | .hired | .paying | .onBreak => refuse s

/-- HIRE (R3). -/
def hireKey (s : State) : State :=
  match s.dtc.duty with
  | .vacant | .assigned => takeNewHire s
  | .paying => setDuty .hired (resumeMeter s)
  | .offShift | .pending | .hired | .onBreak => refuse s

/-- PAY (R4). -/
def payKey (s : State) : State :=
  match s.dtc.duty with
  | .hired => setDuty .paying (stopMeter s)
  | .offShift | .vacant | .pending | .assigned | .paying | .onBreak => refuse s

/-- VACANT (R4). -/
def vacantKey (s : State) : State :=
  match s.dtc.duty with
  | .paying => endHireToVacant s
  | .offShift | .vacant | .pending | .assigned | .hired | .onBreak => refuse s

/-- BREAK (R5). -/
def breakKey (s : State) : State :=
  match s.dtc.duty with
  | .vacant => enterIdleDuty .onBreak s
  | .onBreak => enterVacant s
  | .offShift | .pending | .assigned | .hired | .paying => refuse s

/-- ACCEPT: the DTC, or in an emergency the EMU (R6, R17). -/
def acceptRoute (s : State) : State :=
  if s.emergencyIdle then
    match s.dtc.duty with
    | .pending => acceptOffer s
    | .offShift | .vacant | .assigned | .hired | .paying | .onBreak => refuse s
  else emuSubmit s

/-- DECLINE (R6, R10). -/
def declineKey (s : State) : State :=
  match s.dtc.duty with
  | .pending => declineWon s
  | .assigned => declineJob s
  | .offShift | .vacant | .hired | .paying | .onBreak => refuse s

/-- EXTRA: a prefix in HIRED and PAYING (R171). -/
def extraKey (s : State) : State :=
  match s.dtc.duty with
  | .hired | .paying => setPrefix .extra s
  | .offShift | .vacant | .pending | .assigned | .onBreak => refuse s

/-- TARIFF: a prefix in HIRED (R171). -/
def tariffPrefixKey (s : State) : State :=
  match s.dtc.duty with
  | .hired => setPrefix .tariff s
  | .offShift | .vacant | .pending | .assigned | .paying | .onBreak => refuse s

/-- READ (R161). -/
def readRoute (s : State) : State :=
  match s.cns.view with
  | .none => { s with cns := { s.cns with view := .list } }
  | .list => match listEntryAt s s.cns.pointers.list with
    | some n => openMsgEntry n s
    | none => s
  | .message | .menu => closeTo .list s

/-- UP (R164). -/
def upRoute : State → State := movePointer fun _ p => p - 1

/-- DOWN (R164). -/
def downRoute : State → State := movePointer fun limit p => min limit (p + 1)

/-- REPLY (R153). -/
def replyRoute (s : State) : State :=
  match replyTarget s with
  | some _ => { s with cns := { s.cns with view := .menu } }
  | none => refuse s

/-- CLEAR at the console (R161, R149). -/
def clearView (s : State) : State :=
  match s.cns.view with
  | .none => s
  | .list => { s with cns := { s.cns with view := .none } }
  | .message => closeTo .list (clearPin s)
  | .menu => closeTo .list s

/-- CLEAR, also at the EMU in an emergency (R171, R186). -/
def clearRoute (s : State) : State :=
  let s := clearView s
  if s.emergencyIdle then s else emuClear s

/-- A digit after a prefix at the FMR (R119, R120). -/
def prefixDigit (p : KeyPrefix) (d : Fin 10) (s : State) : State :=
  let taken := match p with
    | .extra => extraDigit d.val s
    | .tariff => tariffDigit d.val s
  match taken with
  | some s => dropPrefix s
  | none => refuse s

/-- A digit in the phrase menu (R153). -/
def menuDigit (d : Fin 10) (s : State) : State :=
  match s.openMsg, phraseOf s d.val with
  | some e, some _ =>
    let s := makeReply e d.val s
    { s with cns := { s.cns with view := .message } }
  | _, _ => refuse s

/-- A digit's console use (R171): with a prefix, in the menu, or none. -/
def consoleDigit (d : Fin 10) (s : State) : State :=
  match s.cns.keyPrefix with
  | some p => prefixDigit p d s
  | none =>
    if viewShown s = some .menu then menuDigit d s
    else if s.emergencyIdle then refuse s
    else s

/-- A digit, also at the EMU in an emergency (R171, R186). -/
def digitRoute (d : Fin 10) (s : State) : State :=
  let s := consoleDigit d s
  if s.emergencyIdle then s else emuDigit d s

/-! ## The key rows -/

/-- SHIFT (R2). -/
def execShift (s : State) : Host.Outcome State Fault Refusal := acceptKey .shift (fun s => shiftKey (dropPrefix s)) s

/-- HIRE (R3). -/
def execHire (s : State) : Host.Outcome State Fault Refusal := acceptKey .hire (fun s => hireKey (dropPrefix s)) s

/-- PAY (R4). -/
def execPay (s : State) : Host.Outcome State Fault Refusal := acceptKey .pay (fun s => payKey (dropPrefix s)) s

/-- VACANT (R4). -/
def execVacant (s : State) : Host.Outcome State Fault Refusal :=
  acceptKey .vacant (fun s => vacantKey (dropPrefix s)) s

/-- BREAK (R5). -/
def execBreak (s : State) : Host.Outcome State Fault Refusal :=
  acceptKey .onBreak (fun s => breakKey (dropPrefix s)) s

/-- ACCEPT (R6, R187). -/
def execAccept (s : State) : Host.Outcome State Fault Refusal :=
  acceptKey .accept (fun s => acceptRoute (dropPrefix s)) s

/-- DECLINE (R6, R10). -/
def execDecline (s : State) : Host.Outcome State Fault Refusal :=
  acceptKey .decline (fun s => declineKey (dropPrefix s)) s

/-- EXTRA (R171). -/
def execExtra (s : State) : Host.Outcome State Fault Refusal :=
  acceptKey .extra (fun s => extraKey (dropPrefix s)) s

/-- TARIFF_KEY (R171). -/
def execTariffKey (s : State) : Host.Outcome State Fault Refusal :=
  acceptKey .tariff (fun s => tariffPrefixKey (dropPrefix s)) s

/-- DIGIT (R119, R120, R153, R186). -/
def execDigit (d : Fin 10) (s : State) : Host.Outcome State Fault Refusal :=
  acceptKey (.digit d) (digitRoute d) s

/-- READ (R161). -/
def execRead (s : State) : Host.Outcome State Fault Refusal := acceptKey .read (fun s => readRoute (dropPrefix s)) s

/-- UP (R164). -/
def execUp (s : State) : Host.Outcome State Fault Refusal := acceptKey .up (fun s => upRoute (dropPrefix s)) s

/-- DOWN (R164). -/
def execDown (s : State) : Host.Outcome State Fault Refusal := acceptKey .down (fun s => downRoute (dropPrefix s)) s

/-- REPLY (R153). -/
def execReply (s : State) : Host.Outcome State Fault Refusal :=
  acceptKey .reply (fun s => replyRoute (dropPrefix s)) s

/-- CLEAR (R161, R149, R186). -/
def execClear (s : State) : Host.Outcome State Fault Refusal :=
  acceptKey .clear (fun s => clearRoute (dropPrefix s)) s

/-! ## The scanner rows (R169, R170) -/

/-- Keep a key's contact. -/
def addContact (k : Key) (s : State) : State :=
  { s with cns := { s.cns with contacts := if s.cns.contacts.contains k then s.cns.contacts else s.cns.contacts ++ [k] } }

/-- The scanner meets a contact (R169). -/
def scanContact (k : Key) (s : State) : State :=
  match s.cns.scanner with
  | .free => { s with cns := { s.cns with scanner := .settling k s.now } }
  | .settling k' _ => if k' = k then s else { s with cns := { s.cns with scanner := .locked } }
  | .held _ _ _ | .locked => { s with cns := { s.cns with releaseSince := none } }
  | .off => s

/-- KEY_CONTACT (R169): contacts are kept before the end of the lamp test too. -/
def execKeyContact (k : Key) (s : State) : Host.Outcome State Fault Refusal :=
  .next (whenRunning (scanContact k) (addContact k s))

/-- Drop a key's contact. -/
def dropContact (k : Key) (s : State) : State :=
  { s with cns := { s.cns with contacts := s.cns.contacts.filter (· ≠ k) } }

/-- The release wait begins once no key makes contact (R169). -/
def startReleaseWait (s : State) : State :=
  if s.cns.contacts.isEmpty then { s with cns := { s.cns with releaseSince := some s.now } } else s

/-- The scanner meets a release (R169, R170). In HELD and LOCKED with no key in contact, the release of a key
that makes no contact starts the wait afresh (log 9). -/
def scanRelease (k : Key) (s : State) : State :=
  match s.cns.scanner with
  | .settling k' _ => if k' = k then { s with cns := { s.cns with scanner := .free } } else s
  | .held k' down due =>
    startReleaseWait { s with cns := { s.cns with scanner := .held k' (down && k' ≠ k) due } }
  | .locked => startReleaseWait s
  | .off | .free => s

/-- KEY_RELEASE (R169). -/
def execKeyRelease (k : Key) (s : State) : Host.Outcome State Fault Refusal :=
  .next (whenRunning (scanRelease k) (dropContact k s))

/-- The scanner is HELD or LOCKED. -/
def waitsForRelease (s : State) : Bool :=
  match s.cns.scanner with
  | .held _ _ _ | .locked => true
  | .off | .free | .settling _ _ => false

/-- KEY_RELEASE_WAIT_END (R169). -/
def execKeyReleaseWaitEnd (s : State) : Host.Outcome State Fault Refusal :=
  .next (whenRunning (fun s =>
    match s.cns.releaseSince with
    | some t =>
      if waitsForRelease s && s.cns.contacts.isEmpty then
        let s := s.reach (t + tDebounce)
        { s with cns := { s.cns with scanner := .free, releaseSince := none } }
      else s
    | none => s) s)

/-- The repeat of UP or DOWN (R170, R168): routed as the first event was; with the display dark in PARK
it has no effect (log 20). -/
def repeatEvent (k : Key) (act : State → State) (due : Moment) (s : State) : State :=
  let s := s.reach due
  let s := { s with cns := { s.cns with scanner := .held k true (due + tRepeat) } }
  if s.stc.power = .park && s.cns.wakeSince.isNone then s
  else keyEvent k (fun s => act (dropPrefix s)) s

/-- KEY_REPEAT (R170). -/
def execKeyRepeat (s : State) : Host.Outcome State Fault Refusal :=
  .next (whenRunning (fun s =>
    match s.cns.scanner with
    | .held .up true due => repeatEvent .up upRoute due s
    | .held .down true due => repeatEvent .down downRoute due s
    | _ => s) s)

/-- WAKE_TIMER_EXPIRY (R168). -/
def execWakeTimerExpiry (s : State) : Host.Outcome State Fault Refusal :=
  .next (whenRunning (fun s =>
    match s.cns.wakeSince with
    | some t =>
      if s.stc.power = .park then
        let s := s.reach (t + tWake)
        setLevel 0 { s with cns := { s.cns with wakeSince := none } }
      else s
    | none => s) s)

end Sys2Proof.Machine
end

