-- ==== Sys2Proof/Machine/Start.lean ====
section
/-! DEFINITION. Starts and stops (R194 to R196): the image, the choice of cold or warm, the start values
of every block, the end of the lamp test, loss of power and RESET. -/

namespace Sys2Proof.Machine

open Sys2Proof

/-! ## The configuration image (R195) -/

/-- The image passes its check (R195). -/
def imageAccepted (i : Image) : Bool :=
  i.crcMatches && crc16 i.setBytes = i.setCrc && i.setBytes.length = 92 && i.fleet.value ≠ 0 &&
    isCab i.ownStation.value &&
    !i.ownStation.absent && !i.fleet.absent && !i.home.absent && !i.pulsesPerKm.absent &&
    !i.rounding.absent && !i.cancelCode.absent

/-- An item with a default and limits. -/
def itemIn (lo hi default : Nat) (x : Item) : Nat := if x.absent then default else clamp lo hi x.value

/-- A switch, enabled when absent. -/
def itemOn (x : Item) : Bool := x.absent || x.value ≠ 0

/-- The rounding step nearest to a value: 1, 5 or 10 (R195). -/
def nearestRounding (r : Nat) : Nat := if r < 3 then 1 else if r < 8 then 5 else 10

/-- The duress code, absent when it equals the cancel code (R178). -/
def duressOf (cancel : Nat) (x : Item) : Option Nat :=
  if x.absent || clamp 0 9999 x.value = cancel then none else some (clamp 0 9999 x.value)

/-- The copy after a good check: defaults and clamps (R195). -/
def acceptedConfig (i : Image) : Config :=
  let cancel := clamp 0 9999 i.cancelCode.value
  { ownStation := i.ownStation.value, fleet := clamp 1 65535 i.fleet.value,
    home := clamp 3840 4095 i.home.value, pulsesPerKm := clamp 500 25000 i.pulsesPerKm.value,
    rounding := nearestRounding i.rounding.value, cancelCode := cancel,
    duressCode := duressOf cancel i.duressCode,
    tBeacon := itemIn 10 120 30 i.tBeacon, tNbAge := itemIn 30 300 90 i.tNbAge,
    tReach := itemIn 60 600 180 i.tReach, tAccept := itemIn 5 30 12 i.tAccept,
    tConfirm := itemIn 2 20 6 i.tConfirm, wv := itemIn 0 31 4 i.wv, mmax := itemIn 20 100 70 i.mmax,
    tHoldMs := itemIn 500 5000 2000 i.tHoldMs, relayEnable := itemOn i.relayEnable,
    senseLevel := itemIn 1 3 2 i.senseLevel,
    console :=
      { dayLevel := itemIn 0 15 15 i.dayLevel, nightLevel := itemIn 0 15 8 i.nightLevel,
        nightStart := itemIn 0 1439 0 i.nightStart, nightEnd := itemIn 0 1439 0 i.nightEnd,
        dimming := itemOn i.dimming, keyClick := itemOn i.keyClick, roofAlarm := itemOn i.roofAlarm } }

/-- The copy in FAULT: the values as read (R195). -/
def faultConfig (i : Image) : Config :=
  { ownStation := i.ownStation.value, fleet := i.fleet.value, home := i.home.value,
    pulsesPerKm := i.pulsesPerKm.value, rounding := i.rounding.value, cancelCode := i.cancelCode.value,
    duressCode := if i.duressCode.absent then none else some i.duressCode.value,
    tBeacon := i.tBeacon.value, tNbAge := i.tNbAge.value, tReach := i.tReach.value,
    tAccept := i.tAccept.value, tConfirm := i.tConfirm.value, wv := i.wv.value, mmax := i.mmax.value,
    tHoldMs := i.tHoldMs.value, relayEnable := i.relayEnable.value ≠ 0,
    senseLevel := i.senseLevel.value,
    console :=
      { dayLevel := i.dayLevel.value, nightLevel := i.nightLevel.value,
        nightStart := i.nightStart.value, nightEnd := i.nightEnd.value,
        dimming := i.dimming.value ≠ 0, keyClick := i.keyClick.value ≠ 0,
        roofAlarm := i.roofAlarm.value ≠ 0 } }

/-- The phrases of a start (R157): cut at 40, of length 0 when absent and in FAULT. -/
def startPhrases (fault : Bool) (i : Image) : List (List Byte) :=
  if fault then List.replicate 9 []
  else i.phrases.map fun p => match p with
    | some t => t.take 40
    | none => []

/-! ## Cold or warm (R194, R196) -/

/-- The start is cold (R196). -/
def coldStart (i : StartInput) (s : State) : Bool :=
  !i.retainedGood || s.stc.retStation ≠ i.image.ownStation.value || s.stc.retFleet ≠ i.image.fleet.value

/-- The start cause (R194). -/
def causeOf (cold : Bool) (i : StartInput) (s : State) : StartCause :=
  if cold then .cold
  else if s.stc.powerLost || i.event = .powerReturned then .warmPower
  else .warmReset

/-- The supply state of step 2: level 2's falling threshold (R200). -/
def startSupply (mv : Nat) : Supply := if mv < 1000 then .low else .normal

/-! ## Start values, block by block -/

/-- Chapter 11's table. -/
def startStc (cold : Bool) (i : StartInput) (s : State) : Stc :=
  let fault := !imageAccepted i.image
  { phase := .lampTest, phaseSince := s.now, startCause := causeOf cold i s,
    pendingCause := some (causeOf cold i s), loopback := i.strap,
    config := if fault then faultConfig i.image else acceptedConfig i.image, fault := fault,
    power := .run, parkSince := none, supply := startSupply i.senseMv,
    retStation := if cold then i.image.ownStation.value else s.stc.retStation,
    retFleet := if cold then i.image.fleet.value else s.stc.retFleet, powerLost := false,
    starts := s.stc.starts + 1 }

/-- R23; PENDING becomes VACANT after the TLU has chosen its sets. -/
def startDtc (cold : Bool) (d : Dtc) : Dtc :=
  if cold then Dtc.reset
  else { Dtc.reset with duty := d.duty, vacantSeconds := d.vacantSeconds,
                        job := d.job.map fun j => { j with confirmWait := false } }

/-- R43. -/
def startFre (cold : Bool) (f : Fre) : Fre := { Fre.reset with seq := if cold then 0 else f.seq }

/-- R193: ARMING becomes IDLE. -/
def startEmuState (cold : Bool) (e : EmuState) : EmuState :=
  if cold then .idle
  else match e with
    | .arming => .idle
    | .idle => .idle
    | .active => .active
    | .acknowledged => .acknowledged
    | .covert => .covert
    | .clearing => .clearing

/-- R193. -/
def startEmu (cold : Bool) (e : Emu) : Emu :=
  if cold then Emu.reset
  else
    let st := startEmuState cold e.state
    { Emu.reset with state := st, ownSerial := e.ownSerial, attempts := e.attempts, lockout := e.lockout,
                     seen := st = .acknowledged, duress := st = .covert }

/-- R66, with the mask of a resumed emergency (R193). -/
def startCau (e : EmuState) (config : Config) (c : Cau) : Cau :=
  { Cau.reset with mask := if e = .idle then 4 else 1, rng := rngSeed config.fleet config.ownStation,
                   nextEntry := c.nextEntry }

/-- A hire found HIRED (R124): the record as its last interval end left it, with POWER_GAP set. -/
def hireAtStart (f : Fmr) (h : HireRecord) : HireRecord :=
  let h := f.atInterval.getD h
  { h with intervalMetres := 0, flags := { h.flags with powerGap := true } }

/-- R125, R124. -/
def startFmr (cold : Bool) (duty : DutyState) (f : Fmr) : Fmr :=
  if cold then Fmr.reset
  else if duty = .hired then
    let hire := f.hire.map (hireAtStart f)
    { hire := hire, intervalSince := none, atInterval := hire }
  else { f with hire := f.hire.map fun h => { h with intervalMetres := 0 }, intervalSince := none }

/-- The active set of a warm start with a valid image (R131). Where the retained area holds none, the last
start having been a cold one into FAULT, it is the image's: the model's choice (log 44). -/
def startActive (image : TariffSet) (t : Option TariffSet) : TariffSet :=
  match t with
  | some a => if a.version < image.version then image else a
  | none => image

/-- The sets of a start (R131): active, pending. -/
def startSets (cold fault : Bool) (image : TariffSet) (t : Tlu) : Option TariffSet × Option TariffSet :=
  if cold then (if fault then none else some image, none)
  else if fault then (t.active, t.pendingSet)
  else
    let active := startActive image t.active
    (some active, t.pendingSet.filter fun p => active.version < p.version)

/-- R139, R131. -/
def startTlu (cold fault : Bool) (i : Image) (t : Tlu) : Tlu :=
  let sets := startSets cold fault (decodeImageSet i.setBytes) t
  if cold then { Tlu.reset with active := sets.1, pendingSet := sets.2, nextRecord := t.nextRecord }
  else
    { t with active := sets.1, pendingSet := sets.2, staging := none, hold := none,
             log := updateWhere (·.state = .inFlight) (fun r => { r with state := .unsent }) t.log }

/-- R157: an ASSEMBLING entry is removed, and one that was held only as the open entry (log 19). -/
def keptAtStart (openEntry : Option Nat) (e : MsgEntry) : Bool :=
  e.state ≠ .assembling && !(openEntry = some e.entry && e.expired && !e.pin)

/-- R157. -/
def startMst (cold fault : Bool) (i : Image) (m : Mst) : Mst :=
  { entries := if cold then [] else (m.entries.filter (keptAtStart m.openEntry)).map (replyBecomes .failed)
    openEntry := none
    replyCounter := if cold then 0 else m.replyCounter
    phrases := startPhrases fault i
    nextMsg := m.nextMsg }

/-- R177, R174: lamps lit, the backlight at the day level, the display blank. -/
def startCns (console : ConsoleConfig) (c : Cns) : Cns :=
  { Cns.reset with module := c.module, contacts := c.contacts, lamps := Lamps.all .lit,
                   level := console.dayLevel, target := console.dayLevel }

/-- Steps 1 to 4, and the lamp test begins (R194). The tick count restarts at 0 with the NBT's tables (log
36). -/
def startValues (i : StartInput) (s : State) : State :=
  let cold := coldStart i s
  let fault := !imageAccepted i.image
  let stc := startStc cold i s
  let emu := startEmu cold s.emu
  let s' : State := { s with
    lines := { s.lines with loopbackStrap := i.strap, senseMv := i.senseMv }
    stc := stc
    dtc := startDtc cold s.dtc
    fre := startFre cold s.fre
    cau := startCau emu.state stc.config s.cau
    nbt := Nbt.reset
    ocu := Ocu.reset
    fmr := startFmr cold s.dtc.duty s.fmr
    tlu := startTlu cold fault i.image s.tlu
    mst := startMst cold fault i.image s.mst
    emu := emu
    tickAt := s.now
    slotAt := s.now }
  { s' with cns := startCns s'.consoleConfig s.cns }

/-- The event of a start on its line. -/
def startLine (e : StartEvent) (s : State) : State :=
  match e with
  | .resetReleased => { s with lines := { s.lines with resetAsserted := false } }
  | .powerReturned => { s with lines := { s.lines with mainPower := true } }

/-- The event arises: RESET was held, or main power was lost. -/
def startArises (e : StartEvent) (s : State) : Bool :=
  match e with
  | .resetReleased => s.lines.resetAsserted
  | .powerReturned => !s.lines.mainPower

/-- Main power is present and RESET released. -/
def powered (s : State) : Bool := s.lines.mainPower && !s.lines.resetAsserted

/-- START (R194): after it, a retained PENDING becomes VACANT (R23). -/
def execStart (i : StartInput) (s : State) : Host.Outcome State Fault Refusal :=
  .next (
    if startArises i.event s then
      let s := startLine i.event s
      if powered s then endPending (startValues i s) else s
    else s)

/-! ## The end of the lamp test (R194, R174, R179, R193, R199) -/

/-- The keys that make contact are taken as new contacts (R169). -/
def scannerAtEnd (contacts : List Key) (now : Moment) : Scanner :=
  match contacts with
  | [] => .free
  | [k] => .settling k now
  | _ :: _ :: _ => .locked

/-- A standing lockout runs on (R193). -/
def runLockout (s : State) : State :=
  match s.emu.lockout with
  | some (.standing left) => updEmu (fun e => { e with lockout := some (.running (s.now + left)) }) s
  | some (.running _) | none => s

/-- The emergency at the end of the lamp test (R179, R193). The slow period that follows a resumed ACTIVE's
fast phase is tALM2 (log 37). -/
def resumeEmergency (s : State) : State :=
  match s.emu.state with
  | .idle => if s.lines.alarmPressed then startArming s else s
  | .arming => s
  | .active => startFast tAlm2 s
  | .acknowledged => askAlarm (startSlow tAlm3 s)
  | .covert => askAlarm (startSlow tAlm2 s)
  | .clearing => askClear s

/-- The power state at the end of the lamp test (R199), with the backlight it gives (R174, R168). -/
def enterPower (s : State) : State :=
  if s.parkConditions then setLevel 0 { s with stc := { s.stc with power := .park } }
  else
    let t := targetLevel s
    setLevel t { s with cns := { s.cns with target := t } }

/-- The beacon timer at the end of the lamp test (R65). -/
def startBeacon (s : State) : State := if s.lines.quiet || s.stc.fault then s else reloadBeacon s

/-- The interval timer of a hire found HIRED (R124). -/
def startInterval (s : State) : State :=
  if s.dtc.duty = .hired && s.fmr.hire.isSome && !s.stc.fault then
    { s with fmr := { s.fmr with intervalSince := some s.now } }
  else s

/-- The blocks begin (R194). -/
def beginRunning (s : State) : State :=
  let s := s.reach (s.stc.phaseSince + tLampTest)
  let s : State := { s with
    stc := { s.stc with phase := .running }
    fre := { s.fre with rx := .hunt }
    slotAt := s.now
    cns := { s.cns with scanner := scannerAtEnd s.cns.contacts s.now, lamps := Lamps.all .dark } }
  let s := startInterval s
  let s := if s.stc.fault then s else resumeEmergency (runLockout s)
  startBeacon (enterPower s)

/-- LAMP_TEST_END (R174, R194). -/
def execLampTestEnd (s : State) : Host.Outcome State Fault Refusal :=
  .next (if s.stc.phase = .lampTest then finish (beginRunning s) else s)

/-! ## RESET and loss of power (R194, R24) -/

/-- A running lockout stands (R193). -/
def standLockout (s : State) : State :=
  match s.emu.lockout with
  | some (.running deadline) =>
    updEmu (fun e => { e with lockout := some (.standing (deadline - s.now)) }) s
  | some (.standing _) | none => s

/-- The 4120 stops: nothing runs and no output is driven until the next start (log 27). -/
def halt (s : State) : State :=
  let s := standLockout s
  { s with
    stc := { s.stc with phase := .halted, parkSince := none }
    fre := { s.fre with rx := .off, window := 0, gathering := none, pendingAck := none, ackTx := none,
                        onAir := none }
    cau := { s.cau with inService := none, access := Access.reset }
    fmr := { s.fmr with intervalSince := none }
    cns := { s.cns with display := blankDisplay, shown := none, scanner := .off, releaseSince := none,
                        lamps := Lamps.all .dark, stretchSince := none, buzzer := none, level := 0,
                        dimSince := none, wakeSince := none } }

/-- MAIN_POWER_LOSS (R194). -/
def execMainPowerLoss (s : State) : Host.Outcome State Fault Refusal :=
  .next (halt { s with lines := { s.lines with mainPower := false }, stc := { s.stc with powerLost := true } })

/-- RESET_ASSERTED (R194). -/
def execResetAsserted (s : State) : Host.Outcome State Fault Refusal :=
  .next (halt { s with lines := { s.lines with resetAsserted := true } })

end Sys2Proof.Machine
end

