-- ==== Sys2Proof/Machine/Timers.lean ====
section
/-! DEFINITION. The rows of the clocks, timers and lines: ticks, NAV records, ODO, the access procedure,
QUIET, SENSE, IGN, the tables' ages, the contest's deadlines, the console's, and ALARM. -/

namespace Sys2Proof.Machine

open Sys2Proof

/-! ## Clocks (R19 to R21, R70, R146, R150, R178, R64, R166; R57, R76, R200) -/

/-- The cab record at a 1 s tick (R19, R20, R21). -/
def Dtc.ticked (d : Dtc) : Dtc :=
  { d with
    vacantSeconds := satAdd vacantCap d.vacantSeconds 1
    timeOfDay := if d.timeValid then wrapInc 86399 d.timeOfDay else d.timeOfDay
    posAge := if d.fixValid then satAdd tPosStale d.posAge 1 else d.posAge }

/-- The beacon count at a 1 s tick (R64). -/
def tickBeacon (s : State) : State :=
  if beaconRuns s then { s with cau := { s.cau with beaconCount := s.cau.beaconCount - 1 } } else s

/-- A 1 s tick: what counts from a start on (log 17). -/
def tickSecond (s : State) : State :=
  let s := s.reach (s.tickAt + tTick)
  ageStore { s with
    tickAt := s.tickAt + tTick
    dtc := s.dtc.ticked
    nbt := { s.nbt with ticks := s.nbt.ticks + 1 } }

/-- ONE_SECOND_TICK. -/
def execOneSecondTick (s : State) : Host.Outcome State Fault Refusal :=
  .next (match s.stc.phase with
    | .halted => s
    | .lampTest => tickSecond s
    | .running => finish (refreshTarget (tickBeacon (tickElapsed (tickSecond s)))))

/-- The SENSE level in force (R200). -/
def senseLevelNow (s : State) : Nat := if s.stc.fault then 2 else s.stc.config.senseLevel

/-- The falling threshold in millivolts (R200). -/
def fallingMv (level : Nat) : Nat := if level ≤ 1 then 950 else if level = 2 then 1000 else 1050

/-- The rising threshold in millivolts (R200). -/
def risingMv (level : Nat) : Nat := if level ≤ 1 then 1000 else if level = 2 then 1050 else 1100

/-- A sample of SENSE moves the supply state down (R200). -/
def sampleLow (mv : Nat) (s : State) : State :=
  if s.stc.supply = .normal && mv < fallingMv (senseLevelNow s) then
    { s with stc := { s.stc with supply := .low }, lines := { s.lines with senseMv := mv } }
  else s

/-- A sample of SENSE moves the supply state up (R200). -/
def sampleNormal (mv : Nat) (s : State) : State :=
  if s.stc.supply = .low && risingMv (senseLevelNow s) < mv then
    { s with stc := { s.stc with supply := .normal }, lines := { s.lines with senseMv := mv } }
  else s

/-- A sample of SENSE (R200): a state moved down is not moved up by the same sample. -/
def sampleSense (mv : Nat) (s : State) : State :=
  let s := { s with lines := { s.lines with senseMv := mv } }
  match s.stc.supply with
  | .normal => sampleLow mv s
  | .low => sampleNormal mv s

/-- A tick of the slot clock: the generator advances (R57), relay delays count (R76), SENSE is sampled
(R200). -/
def tickSlot (mv : Nat) (s : State) : State :=
  let s := s.reach (s.slotAt + tSlot)
  let s := { s with slotAt := s.slotAt + tSlot, cau := { s.cau with rng := rngAdvance s.cau.rng } }
  sampleSense mv (tickRelays s)

/-- SLOT_CLOCK_TICK. -/
def execSlotClockTick (mv : Nat) (s : State) : Host.Outcome State Fault Refusal :=
  .next (whenRunning (tickSlot mv) s)

/-- SUPPLY_LOW (R200). -/
def execSupplyLow (mv : Nat) (s : State) : Host.Outcome State Fault Refusal :=
  .next (whenRunning (sampleLow mv) s)

/-- SUPPLY_NORMAL (R200). -/
def execSupplyNormal (mv : Nat) (s : State) : Host.Outcome State Fault Refusal :=
  .next (whenRunning (sampleNormal mv) s)

/-! ## Position and time (R18, R20) -/

/-- POSITION_STALE (R20). -/
def execPositionStale (s : State) : Host.Outcome State Fault Refusal :=
  .next (whenRunning (fun s =>
    if s.dtc.fixValid && tPosStale ≤ s.dtc.posAge then { s with dtc := { s.dtc with fixValid := false } }
    else s) s)

/-- The record is valid (R18). -/
def navValid (r : NavRecord) : Bool :=
  r.markerBegins && r.allFields && r.checkMatches && r.timeOfDay ≤ 86399 && r.fix ≠ .neither

/-- A valid record at the DTC (R18). -/
def takeNav (r : NavRecord) (d : Dtc) : Dtc :=
  let d := { d with timeOfDay := r.timeOfDay, timeValid := true }
  if r.fix = .fix then { d with pos := r.position, fixValid := true, posAge := 0 }
  else { d with fixValid := false }

/-- NAV_RECORD (R18, R166). -/
def execNavRecord (r : NavRecord) (s : State) : Host.Outcome State Fault Refusal :=
  .next (whenRunning (fun s =>
    if navValid r then
      let changed := s.time ≠ some r.timeOfDay
      let s := { s with dtc := takeNav r s.dtc }
      if changed then refreshTarget s else s
    else s) s)

/-! ## The meter's rows (R109, R110) -/

/-- ODO_PULSE (R109). -/
def execOdoPulse (s : State) : Host.Outcome State Fault Refusal := .next (whenRunning countPulse s)

/-- INTERVAL_END (R110). -/
def execIntervalEnd (s : State) : Host.Outcome State Fault Refusal :=
  .next (whenRunning (fun s =>
    match s.fmr.intervalSince with
    | some t =>
      if s.dtc.duty = .hired && !s.stc.fault then
        let s := closeInterval true (s.reach (t + 1000))
        { s with fmr := { s.fmr with intervalSince := some (t + 1000), atInterval := s.fmr.hire } }
      else s
    | none => s) s)

/-! ## The channel (R53, R55, R58, R61, R38, R42, R64) -/

/-- CD_ASSERTED: gap and backoff fall back to DEFER (R53, R55), a gap or slot that has just ended with its
count (R58; log 39). -/
def execCdAsserted (s : State) : Host.Outcome State Fault Refusal :=
  let s := if s.running then countAtCarrier s else s
  .next (whenRunning id { s with lines := { s.lines with cd := true } })

/-- CD_CLEAR: a candidate in DEFER enters GAP (R52). -/
def execCdClear (s : State) : Host.Outcome State Fault Refusal :=
  .next (whenRunning (fun s => s) { s with lines := { s.lines with cd := false } })

/-- GAP_END (R53, R58). -/
def execGapEnd (s : State) : Host.Outcome State Fault Refusal :=
  .next (whenRunning (fun s =>
    match timedCandidate .gap s with
    | some e => endGap e (s.reach (s.cau.access.since + classGap e.req.cls))
    | none => s) s)

/-- BACKOFF_SLOT_END (R55, R58). -/
def execBackoffSlotEnd (s : State) : Host.Outcome State Fault Refusal :=
  .next (whenRunning (fun s =>
    match timedCandidate .backoff s with
    | some e => endSlot e (s.reach (s.cau.access.since + tSlot))
    | none => s) s)

/-- The first bit that is due (R58, R38): of an ACK being keyed, or of the frame in KEYUP. -/
def firstBit (s : State) : State :=
  match s.fre.ackTx with
  | some t => if t.sent then s else sendAck t (s.reach (t.since + tKeyup))
  | none =>
    match s.cau.inService, s.serviceEntry with
    | some r, some e => if r.phase = .keyup then sendEntry r e (s.reach (r.since + tKeyup)) else s
    | _, _ => s

/-- KEYUP_END (R58, R38). -/
def execKeyupEnd (s : State) : Host.Outcome State Fault Refusal := .next (whenRunning firstBit s)

/-- The last bit (R58, R38): of an ACK on the air, or of the frame in SENDING. -/
def lastBit (s : State) : State :=
  match s.fre.ackTx with
  | some t => if t.sent then endAck (s.reach (t.since + airtimeNow s)) else s
  | none =>
    match s.cau.inService, s.serviceEntry with
    | some r, some e =>
      if r.phase = .sending && !s.stc.loopback then endSending r e (s.reach (r.since + airtimeNow s)) else s
    | _, _ => s

/-- TRANSMISSION_END (R58, R38). -/
def execTransmissionEnd (s : State) : Host.Outcome State Fault Refusal := .next (whenRunning lastBit s)

/-- ACK_WAIT_EXPIRY (R61). -/
def execAckWaitExpiry (s : State) : Host.Outcome State Fault Refusal :=
  .next (whenRunning (fun s =>
    match s.cau.inService, s.serviceEntry with
    | some r, some e =>
      if r.phase = .ackWait then endAckWait r e (s.reach (r.since + tAckWait)) else s
    | _, _ => s) s)

/-- ACK_GAP_END (R38). -/
def execAckGapEnd (s : State) : Host.Outcome State Fault Refusal :=
  .next (whenRunning (fun s =>
    match s.fre.pendingAck with
    | some r => endAckGap r (s.reach r.due)
    | none => s) s)

/-- LOOPED_FRAME_END (R42). -/
def execLoopedFrameEnd (s : State) : Host.Outcome State Fault Refusal :=
  .next (whenRunning (fun s =>
    match s.cau.inService, s.serviceEntry, s.fre.onAir with
    | some r, some e, some t =>
      if r.phase = .sending && s.stc.loopback then endLooped e t (s.reach (r.since + airtimeNow s)) else s
    | _, _, _ => s) s)

/-- BEACON_TIMER_EXPIRY (R64). -/
def execBeaconTimerExpiry (s : State) : Host.Outcome State Fault Refusal :=
  .next (whenRunning (fun s =>
    if beaconRuns s && s.cau.beaconCount = 0 then (requestFrame beaconRequest (reloadBeacon s)).1
    else s) s)

/-- RELAY_DELAY_END (R76, R79). -/
def execRelayDelayEnd (k : RelayKey) (s : State) : Host.Outcome State Fault Refusal :=
  .next (whenRunning (fun s =>
    match s.relay? k with
    | some r => if r.state = .delay && r.slotsLeft = 0 then endRelayDelay r s else s
    | none => s) s)

/-! ## QUIET, IGN and power (R197, R199) -/

/-- QUIET_ASSERTED (R197, R102). -/
def execQuietAsserted (s : State) : Host.Outcome State Fault Refusal :=
  .next (
    if s.lines.quiet then s
    else whenRunning abandonContests { s with lines := { s.lines with quiet := true } })

/-- QUIET_RELEASED (R197, R65). -/
def execQuietReleased (s : State) : Host.Outcome State Fault Refusal :=
  .next (
    if s.lines.quiet then
      whenRunning startBeacon { s with lines := { s.lines with quiet := false } }
    else s)

/-- IGN_ON (R199). -/
def execIgnOn (s : State) : Host.Outcome State Fault Refusal :=
  .next (whenRunning toRun { s with lines := { s.lines with ignOn := true } })

/-- IGN_OFF: the park timer may start (R199). -/
def execIgnOff (s : State) : Host.Outcome State Fault Refusal :=
  .next (whenRunning followPark { s with lines := { s.lines with ignOn := false } })

/-- A pattern that goes on playing at the entry into PARK (R176). -/
def parkTone (b : Option (Tone × Moment)) : Option (Tone × Moment) := b.filter (·.1 = .alarmNear)

/-- The entry into PARK (R199, R168, R176). -/
def enterPark (s : State) : State :=
  let s := closeTo .none (dropPrefix s)
  setLevel 0 { s with
    stc := { s.stc with power := .park, parkSince := none }
    cns := { s.cns with buzzer := parkTone s.cns.buzzer, wakeSince := none } }

/-- PARK_TIMER_EXPIRY (R199). -/
def execParkTimerExpiry (s : State) : Host.Outcome State Fault Refusal :=
  .next (whenRunning (fun s =>
    match s.stc.parkSince with
    | some t => if s.stc.power = .run && s.parkConditions then enterPark (s.reach (t + tPark)) else s
    | none => s) s)

/-! ## Ages of the NBT (R70, R72, R74) -/

/-- NEIGHBOUR_AGE_OUT (R70). -/
def execNeighbourAgeOut (station : Station) (s : State) : Host.Outcome State Fault Refusal :=
  .next (whenRunning (fun s =>
    match s.neighbour station with
    | some e => if s.stc.config.tNbAge ≤ s.age e.lastHeard then dropNeighbour station s else s
    | none => s) s)

/-- HOME_REACH_EXPIRY (R72). -/
def execHomeReachExpiry (s : State) : Host.Outcome State Fault Refusal :=
  .next (whenRunning (fun s => if s.nbt.homeLevel && !s.homeReachable then loseHome s else s) s)

/-- A key has reached tDUPAGE (R74). -/
def dupAged (k : DupName) (s : State) (d : DupKey) : Bool := d.name = k && tDupAge ≤ s.age d.entered

/-- DUPLICATE_KEY_AGE_OUT (R74). -/
def execDuplicateKeyAgeOut (k : DupName) (s : State) : Host.Outcome State Fault Refusal :=
  .next (whenRunning (fun s =>
    { s with nbt := { s.nbt with dups := s.nbt.dups.filter fun d => !dupAged k s d } }) s)

/-! ## The contest's deadlines (R91, R95 to R98, R104) -/

/-- BID_DELAY_END (R91). -/
def execBidDelayEnd (id : OfferId) (s : State) : Host.Outcome State Fault Refusal :=
  .next (whenRunning (fun s =>
    match s.offer? id with
    | some e =>
      match e.state, e.delayDeadline with
      | .waiting, some t => bidNow id (s.reach t)
      | _, _ => s
    | none => s) s)

/-- WINDOW_END (R95). -/
def execWindowEnd (id : OfferId) (s : State) : Host.Outcome State Fault Refusal :=
  .next (whenRunning (fun s =>
    match s.offer? id with
    | some e => if e.windowTaken then s else endWindow id (s.reach e.windowEnd)
    | none => s) s)

/-- TACCEPT_EXPIRY (R98). -/
def execTAcceptExpiry (s : State) : Host.Outcome State Fault Refusal :=
  .next (whenRunning (fun s =>
    match s.wonOffer?.bind (·.jobTimer) with
    | some t => declineWon (s.reach t)
    | none => s) s)

/-- The TAKEN entry whose tCONFIRM runs. -/
def confirmingOffer (s : State) : Option OfferEntry :=
  s.ocu.offers.find? fun e => e.state = .taken && e.jobTimer.isSome

/-- TCONFIRM_EXPIRY (R97, R13). -/
def execTConfirmExpiry (s : State) : Host.Outcome State Fault Refusal :=
  .next (whenRunning (fun s =>
    match confirmingOffer s with
    | some e => endConfirmWait e.id (s.reach (e.jobTimer.getD s.now))
    | none => s) s)

/-- TACCEPT_LAST_FIVE_SECONDS: LED_OFFER begins to blink (R172). -/
def execTAcceptLastFiveSeconds (s : State) : Host.Outcome State Fault Refusal :=
  .next (whenRunning (fun s =>
    match s.wonOffer?.bind (·.jobTimer) with
    | some t => s.reach (t - 5000)
    | none => s) s)

/-- OFFER_HOLD_EXPIRY (R104): a TAKEN entry waits for the job record, and a WON one is settled before
(log 26). -/
def execOfferHoldExpiry (id : OfferId) (s : State) : Host.Outcome State Fault Refusal :=
  .next (whenRunning (fun s =>
    match s.offer? id with
    | some e =>
      if e.state = .taken || e.state = .won then s else (s.reach e.holdEnd).freeOffer id
    | none => s) s)

/-! ## Staging and messages (R130, R146, R150) -/

/-- STAGING_DEADLINE (R130). -/
def execStagingDeadline (s : State) : Host.Outcome State Fault Refusal :=
  .next (whenRunning (fun s =>
    match s.tlu.staging with
    | some g =>
      let s := s.reach g.deadline
      { s with tlu := { s.tlu with staging := none } }
    | none => s) s)

/-- ASSEMBLY_TIMEOUT (R146). -/
def execAssemblyTimeout (source : Station) (number : Serial) (s : State) : Host.Outcome State Fault Refusal :=
  .next (whenRunning (fun s =>
    match s.msgNamed (.message source number) with
    | some e =>
      if e.state = .assembling && tAssemble ≤ e.assemblyAge then removeMsg e.entry s else s
    | none => s) s)

/-- An entry whose validity has come to 0 (R150). -/
def endValidity (source : Station) (number : Serial) (s : State) : State :=
  match s.msgNamed (.message source number) with
  | some e => if e.complete && e.validityLeft = some 0 then expireMsg e.entry s else s
  | none => s

/-- VALIDITY_EXPIRY (R150): it acts in the lamp test too (log 17). -/
def execValidityExpiry (source : Station) (number : Serial) (s : State) : Host.Outcome State Fault Refusal :=
  .next (match s.stc.phase with
    | .halted => s
    | .lampTest => endValidity source number s
    | .running => finish (endValidity source number s))

/-! ## The console's timers (R158, R167, R172, R173, R175) -/

/-- DISPLAY_REFRESH (R158). -/
def execDisplayRefresh (s : State) : Host.Outcome State Fault Refusal :=
  .next (if s.stc.phase = .halted then s else { s with cns := { s.cns with module := s.cns.display } })

/-- DIM_STEP_END (R167). -/
def execDimStepEnd (s : State) : Host.Outcome State Fault Refusal :=
  .next (whenRunning (fun s =>
    match s.cns.dimSince with
    | some t => dimStep t s
    | none => s) s)

/-- ACTIVITY_STRETCH_END (R173). -/
def execActivityStretchEnd (s : State) : Host.Outcome State Fault Refusal :=
  .next (whenRunning (fun s =>
    match s.cns.stretchSince with
    | some t =>
      let s := s.reach (t + tStretch)
      { s with cns := { s.cns with stretchSince := none } }
    | none => s) s)

/-- BLINK_PHASE_END (R172). -/
def execBlinkPhaseEnd (lamp : Lamp) (s : State) : Host.Outcome State Fault Refusal :=
  .next (whenRunning (toggleLamp lamp) s)

/-- BUZZER_PATTERN_END (R175). -/
def execBuzzerPatternEnd (s : State) : Host.Outcome State Fault Refusal :=
  .next (whenRunning (fun s =>
    match s.cns.buzzer with
    | some (tone, t) => silence (s.reach (t + toneLength tone))
    | none => s) s)

/-! ## ALARM (R179, R181, R185, R187, R188, R191) -/

/-- An act of the EMU, which FAULT disables (R192). -/
def unlessFault (f : State → State) (s : State) : State := if s.stc.fault then s else f s

/-- ALARM_PRESSED (R179, R185). -/
def execAlarmPressed (s : State) : Host.Outcome State Fault Refusal :=
  .next (
    if s.lines.alarmPressed then s
    else whenRunning (unlessFault alarmDown) { s with lines := { s.lines with alarmPressed := true } })

/-- ALARM_RELEASED (R179, R185). -/
def execAlarmReleased (s : State) : Host.Outcome State Fault Refusal :=
  .next (
    if s.lines.alarmPressed then
      whenRunning (unlessFault alarmUp) { s with lines := { s.lines with alarmPressed := false } }
    else s)

/-- HOLD_TIMER_EXPIRY (R179, R180, R185): a hold acts once. -/
def execHoldTimerExpiry (s : State) : Host.Outcome State Fault Refusal :=
  .next (whenRunning (unlessFault fun s =>
    match s.emu.holdTimer with
    | some h =>
      if h.acted then s
      else
        let s := s.reach (h.since + s.stc.config.tHoldMs)
        holdReached (updEmu (fun e => { e with holdTimer := some { h with acted := true } }) s)
    | none => s) s)

/-- ALARM_DUE (R181). -/
def execAlarmDue (s : State) : Host.Outcome State Fault Refusal :=
  .next (whenRunning (unlessFault fun s =>
    match s.emu.schedule with
    | some c => takeDue c (s.reach c.due)
    | none => s) s)

/-- CLEAR_DUE (R188). -/
def execClearDue (s : State) : Host.Outcome State Fault Refusal :=
  .next (whenRunning (unlessFault fun s =>
    match s.emu.clearDue with
    | some t => askClear (updEmu (fun e => { e with clearDue := none }) (s.reach t))
    | none => s) s)

/-- LOCKOUT_EXPIRY (R187). -/
def execLockoutExpiry (s : State) : Host.Outcome State Fault Refusal :=
  .next (whenRunning (unlessFault fun s =>
    match s.emu.lockout with
    | some (.running t) => updEmu (fun e => { e with lockout := none, attempts := 0 }) (s.reach t)
    | some (.standing _) | none => s) s)

/-- ALARM_LIST_EXPIRY (R191). -/
def execAlarmListExpiry (origin : Station) (s : State) : Host.Outcome State Fault Refusal :=
  .next (whenRunning (fun s =>
    match s.alarmEntry origin with
    | some a => dropAlarm origin (s.reach (a.lastHeard + tAlarmList))
    | none => s) s)

end Sys2Proof.Machine
end

