-- ==== Sys2Proof/Machine/Dispatch.lean ====
section
/-! DEFINITION. The meaning of every command: one arm per constructor, in the table's order. -/

namespace Sys2Proof.Machine

open Sys2Proof

/-- The effect of a command on everything but the queue. -/
def exec (i : Instr) (s : State) : Host.Outcome State Fault Refusal :=
  match i with
  | .start inp => Sys2Proof.Machine.execStart inp s
  | .lampTestEnd => Sys2Proof.Machine.execLampTestEnd s
  | .oneSecondTick => Sys2Proof.Machine.execOneSecondTick s
  | .positionStale => Sys2Proof.Machine.execPositionStale s
  | .navRecord r => Sys2Proof.Machine.execNavRecord r s
  | .keyContact k => Sys2Proof.Machine.execKeyContact k s
  | .keyRelease k => Sys2Proof.Machine.execKeyRelease k s
  | .keyReleaseWaitEnd => Sys2Proof.Machine.execKeyReleaseWaitEnd s
  | .keyRepeat => Sys2Proof.Machine.execKeyRepeat s
  | .wakeTimerExpiry => Sys2Proof.Machine.execWakeTimerExpiry s
  | .shift => Sys2Proof.Machine.execShift s
  | .hire => Sys2Proof.Machine.execHire s
  | .pay => Sys2Proof.Machine.execPay s
  | .vacant => Sys2Proof.Machine.execVacant s
  | .onBreak => Sys2Proof.Machine.execBreak s
  | .accept => Sys2Proof.Machine.execAccept s
  | .decline => Sys2Proof.Machine.execDecline s
  | .extra => Sys2Proof.Machine.execExtra s
  | .tariffKey => Sys2Proof.Machine.execTariffKey s
  | .digit d => Sys2Proof.Machine.execDigit d s
  | .read => Sys2Proof.Machine.execRead s
  | .up => Sys2Proof.Machine.execUp s
  | .down => Sys2Proof.Machine.execDown s
  | .reply => Sys2Proof.Machine.execReply s
  | .clear => Sys2Proof.Machine.execClear s
  | .odoPulse => Sys2Proof.Machine.execOdoPulse s
  | .intervalEnd => Sys2Proof.Machine.execIntervalEnd s
  | .beacon f => Sys2Proof.Machine.execBeacon f s
  | .offer f => Sys2Proof.Machine.execOffer f s
  | .bid f => Sys2Proof.Machine.execBid f s
  | .withdraw f => Sys2Proof.Machine.execWithdraw f s
  | .take f => Sys2Proof.Machine.execTake f s
  | .release f => Sys2Proof.Machine.execRelease f s
  | .confirm f => Sys2Proof.Machine.execConfirm f s
  | .msg f => Sys2Proof.Machine.execMsg f s
  | .ack f => Sys2Proof.Machine.execAck f s
  | .fare f => Sys2Proof.Machine.execFare f s
  | .tariff f => Sys2Proof.Machine.execTariff f s
  | .alarm f => Sys2Proof.Machine.execAlarm f s
  | .alarmClear f => Sys2Proof.Machine.execAlarmClear f s
  | .alarmSeen f => Sys2Proof.Machine.execAlarmSeen f s
  | .unassignedKind kind f => Sys2Proof.Machine.execUnassignedKind kind f s
  | .badLength length => Sys2Proof.Machine.execBadLength length s
  | .crcMismatch => Sys2Proof.Machine.execCrcMismatch s
  | .cdAsserted => Sys2Proof.Machine.execCdAsserted s
  | .cdClear => Sys2Proof.Machine.execCdClear s
  | .gapEnd => Sys2Proof.Machine.execGapEnd s
  | .backoffSlotEnd => Sys2Proof.Machine.execBackoffSlotEnd s
  | .keyupEnd => Sys2Proof.Machine.execKeyupEnd s
  | .transmissionEnd => Sys2Proof.Machine.execTransmissionEnd s
  | .ackWaitExpiry => Sys2Proof.Machine.execAckWaitExpiry s
  | .ackGapEnd => Sys2Proof.Machine.execAckGapEnd s
  | .loopedFrameEnd => Sys2Proof.Machine.execLoopedFrameEnd s
  | .beaconTimerExpiry => Sys2Proof.Machine.execBeaconTimerExpiry s
  | .slotClockTick senseMv => Sys2Proof.Machine.execSlotClockTick senseMv s
  | .relayDelayEnd k => Sys2Proof.Machine.execRelayDelayEnd k s
  | .quietAsserted => Sys2Proof.Machine.execQuietAsserted s
  | .quietReleased => Sys2Proof.Machine.execQuietReleased s
  | .supplyLow senseMv => Sys2Proof.Machine.execSupplyLow senseMv s
  | .supplyNormal senseMv => Sys2Proof.Machine.execSupplyNormal senseMv s
  | .ignOn => Sys2Proof.Machine.execIgnOn s
  | .ignOff => Sys2Proof.Machine.execIgnOff s
  | .parkTimerExpiry => Sys2Proof.Machine.execParkTimerExpiry s
  | .neighbourAgeOut station => Sys2Proof.Machine.execNeighbourAgeOut station s
  | .homeReachExpiry => Sys2Proof.Machine.execHomeReachExpiry s
  | .duplicateKeyAgeOut k => Sys2Proof.Machine.execDuplicateKeyAgeOut k s
  | .bidDelayEnd id => Sys2Proof.Machine.execBidDelayEnd id s
  | .windowEnd id => Sys2Proof.Machine.execWindowEnd id s
  | .tAcceptExpiry => Sys2Proof.Machine.execTAcceptExpiry s
  | .tConfirmExpiry => Sys2Proof.Machine.execTConfirmExpiry s
  | .offerHoldExpiry id => Sys2Proof.Machine.execOfferHoldExpiry id s
  | .stagingDeadline => Sys2Proof.Machine.execStagingDeadline s
  | .assemblyTimeout source number => Sys2Proof.Machine.execAssemblyTimeout source number s
  | .validityExpiry source number => Sys2Proof.Machine.execValidityExpiry source number s
  | .displayRefresh => Sys2Proof.Machine.execDisplayRefresh s
  | .dimStepEnd => Sys2Proof.Machine.execDimStepEnd s
  | .activityStretchEnd => Sys2Proof.Machine.execActivityStretchEnd s
  | .blinkPhaseEnd lamp => Sys2Proof.Machine.execBlinkPhaseEnd lamp s
  | .buzzerPatternEnd => Sys2Proof.Machine.execBuzzerPatternEnd s
  | .alarmPressed => Sys2Proof.Machine.execAlarmPressed s
  | .alarmReleased => Sys2Proof.Machine.execAlarmReleased s
  | .holdTimerExpiry => Sys2Proof.Machine.execHoldTimerExpiry s
  | .alarmDue => Sys2Proof.Machine.execAlarmDue s
  | .clearDue => Sys2Proof.Machine.execClearDue s
  | .lockoutExpiry => Sys2Proof.Machine.execLockoutExpiry s
  | .alarmListExpiry origin => Sys2Proof.Machine.execAlarmListExpiry origin s
  | .mainPowerLoss => Sys2Proof.Machine.execMainPowerLoss s
  | .resetAsserted => Sys2Proof.Machine.execResetAsserted s
  | .syncWordMatched window => Sys2Proof.Machine.execSyncWordMatched window s
  | .headerComplete h length => Sys2Proof.Machine.execHeaderComplete h length s
  | .tAcceptLastFiveSeconds => Sys2Proof.Machine.execTAcceptLastFiveSeconds s

end Sys2Proof.Machine
end

