-- ==== Sys2Proof/Machine/Step.lean ====
section
/-! DEFINITION. One step: the command at the front of the queue, or an idle millisecond. -/

namespace Sys2Proof.Machine

open Sys2Proof

/-- The block with nothing to do: its clock moves on by a millisecond (log 2), and what the console shows
of the time left follows (R158). -/
def idle (s : State) : State := whenRunning id { s with now := s.now + 1 }

/-- Take the command at the front of the queue and run it on the queue's rest. -/
def step (s : State) : Host.Outcome State Fault Refusal :=
  match s.pending with
  | [] => .next (idle s)
  | c :: rest => exec c { s with pending := rest }

/-- The command that a word spells, put at the front of the queue; no row of the table gives bits
(log 29). -/
def State.withFetchWord (s : State) (nbits w : Nat) : State :=
  match decodeTableWord nbits w with
  | some c => { s with pending := c :: s.pending }
  | none => s

end Sys2Proof.Machine
end

