-- ==== Sys2Proof/Safety.lean ====
section
/-! DEFINITION. The vocabulary of the statements: what a command leaves, when a key is taken, and the
properties that every step is to keep. -/

namespace Sys2Proof.Machine

open Sys2Proof

/-! ## What a command leaves -/

/-- `t` is `u` but for what follows the levels it reads after every command (`finish`): the access
procedure, the park timer, the lamps, the pointer and view shown, the selection and the display. -/
def Settled (u t : State) : Prop :=
  ∃ access parkSince lamps pointers shown selection display,
    t = { u with
      cau := { u.cau with access := access }
      stc := { u.stc with parkSince := parkSince }
      cns := { u.cns with lamps := lamps, pointers := pointers, shown := shown, selection := selection,
                          display := display } }

/-- The command runs to a next state that is `u` but for what follows. -/
def Gives (c : Instr) (s u : State) : Prop := ∃ t, exec c s = .next t ∧ Settled u t

/-- The command runs and changes nothing. -/
def GivesSame (c : Instr) (s : State) : Prop := exec c s = .next s

/-- A pending set becomes active, and none stays pending (R127). -/
def AppliesPendingSet (s t : State) : Prop :=
  t.tlu.pendingSet = none ∧
    t.tlu.active = match s.tlu.pendingSet with
      | some p => some p
      | none => s.tlu.active

/-- No contest is running (R102). -/
def NoContestRuns (t : State) : Prop := ∀ e ∈ t.ocu.offers, e.state.running = false

/-- What a change of duty leaves, though it may ask for a frame (a full queue may drop a relay or an
ALARM_CLEAR for it, R48): the lines, the frame engine but for its counters, the neighbours and duplicate
keys, the emergency record but for the next ALARM_CLEAR, the generator, the clocks. -/
def QuietBlocksKept (s t : State) : Prop :=
  t.lines = s.lines ∧ t.fre = { s.fre with counters := t.fre.counters } ∧
  t.nbt = { s.nbt with relays := t.nbt.relays } ∧ t.emu = { s.emu with clearDue := t.emu.clearDue } ∧
  t.cau.rng = s.cau.rng ∧ t.cau.mask = s.cau.mask ∧
  t.now = s.now ∧ t.tickAt = s.tickAt ∧ t.slotAt = s.slotAt

/-! ## Frames heard -/

/-- The row of a frame of an assigned kind. -/
def frameCommand : FrameKind → AirFrame → Instr
  | .beacon => .beacon | .offer => .offer | .bid => .bid | .withdraw => .withdraw | .take => .take
  | .release => .release | .confirm => .confirm | .msg => .msg | .ack => .ack | .fare => .fare
  | .tariff => .tariff | .alarm => .alarm | .alarmClear => .alarmClear | .alarmSeen => .alarmSeen

/-- A valid frame of a kind and of another station ends in BODY (R29), in a 4120 that is not in FAULT: its
header reaches the NBT (R32). -/
def Heard (kind : Nat) (f : AirFrame) (s : State) : Prop :=
  gathers kind f s = true ∧ s.stc.fault = false ∧ s.stc.config.fleet ≠ 0 ∧
  f.header.fleet = s.stc.config.fleet ∧ f.header.source ≠ 0 ∧ f.header.source ≠ s.own

/-- A heard frame whose payload reaches its owner (R33 to R37): well formed, from a source of its kind's
range, and of the alarm family or addressed to 0 or to this station; one that asks for an acknowledgement
is no repeat, and the owner takes it. -/
def Delivered (k : FrameKind) (f : AirFrame) (s : State) : Prop :=
  Heard (kindCode k) f s ∧ payloadWellFormed k f.payload = true ∧ sourceAccepted k f.header.source = true ∧
  (isAlarmFamily k = true ∨
    (f.header.dest = 0 ∨ f.header.dest = s.own) ∧
    (asksAck k f.header s = true → hasKey (frameKey k f.header) s = false ∧ ownerTakes k f s = true))

/-- The receive engine hunts with an empty window and nothing gathered, its counters changed by `f`. -/
def huntingAfter (f : Counters → Counters) (s : State) : State :=
  { s with fre := { s.fre with rx := .hunt, window := 0, gathering := none, counters := f s.fre.counters } }

/-- The conditions of a first copy's relay (R77): a hop below 3, relay enabled, QUIET not held, a serial newer
than the last one relayed for the origin, and a free place. -/
def MayRelay (k : RelayKey) (hop : Nat) (s : State) : Prop :=
  hop < 3 ∧ s.stc.config.relayEnable = true ∧ s.lines.quiet = false ∧
  (∀ a l, s.alarmEntry k.origin = some a → a.lastRelayed = some l →
    1 ≤ (k.serial - l).toNat ∧ (k.serial - l).toNat ≤ 127) ∧
  s.nbt.relays.length < 8

/-- The grid distance from this station to the position of a heard header, 0 where either is absent (R78). -/
def heardDistance (h : Header) (s : State) : Nat :=
  if s.dtc.fixValid && h.fixValid then gridDistance s.dtc.pos h.position else 0

/-! ## The configuration copy -/

/-- What the copy holds of an item: the value read, outside its limits the nearer one, and where the image
marks it absent its default (R195). -/
def copied (x : Item) (lo hi default : Nat) : Nat :=
  if x.absent then default else if x.value < lo then lo else if hi < x.value then hi else x.value

/-! ## Frames sent -/

/-- A flag's weight in its byte. -/
def weight (b : Bool) (n : Nat) : Nat := if b then n else 0

/-- The layout of a fare report (section 2.7.3); a field whose flag is clear holds any bytes. -/
def FareByRule (body : LogBody) (p : List Byte) : Prop :=
  ∃ start finish job : List Byte, start.length = 2 ∧ finish.length = 2 ∧ job.length = 3 ∧
    match body with
    | .hire r =>
      (∀ m, r.startMinute = some m → start = be16 m) ∧ (∀ m, r.endMinute = some m → finish = be16 m) ∧
      (∀ i, r.offerId = some i → job = be16 i.dispatch ++ [i.serial]) ∧
      p = [0x01#8] ++ be16 r.hireNumber ++
        [byte (weight r.flags.cap 128 + weight r.flags.implausible 64 + weight r.flags.powerGap 32 +
          weight r.flags.conflict 16 + weight r.offerId.isSome 8 + weight r.startMinute.isSome 4 +
          weight r.endMinute.isSome 2)] ++
        start ++ finish ++ [byte (16 * r.segments.length + r.extras.length)] ++ job ++
        be24 r.totalMetres ++ be24 r.paidMetres ++ be24 r.waiting ++ be24 r.fare ++ be24 r.payable ++
        (r.segments.map fun g => [byte g.tariffId] ++ be24 g.nd ++ be24 g.nt).flatten ++
        r.extras.map fun x => byte (16 * x.id + x.count)
    | .shift r =>
      (∀ m, r.startMinute = some m → start = be16 m) ∧ (∀ m, r.endMinute = some m → finish = be16 m) ∧
      p = [0x02#8, byte (weight r.startMinute.isSome 128 + weight r.endMinute.isSome 64)] ++
        start ++ finish ++ be16 r.totals.hires ++ be32 r.totals.payableSum ++ be32 r.totals.extrasSum ++
        be32 r.totals.totalMetres ++ be32 r.totals.paidMetres ++ be32 r.totals.waiting ++
        be16 r.counters.good ++ be16 r.counters.transmissions ++
        [byte r.counters.badCrc, byte r.counters.foreign, byte r.counters.txFailures, byte r.implausible]

/-- The payload of a frame at its first bit, field by field as its originator's rule and section 2.7.2 give
it: BID and TAKE (R91, R97), WITHDRAW and RELEASE, reply (R154), FARE (R135), own ALARM and ALARM_CLEAR
(R182), relay (R79), BEACON. -/
def PayloadByRule (q : Request) (s : State) (p : List Byte) : Prop :=
  (∀ id o score, q.tag = .offer id → q.kind = .bid ∨ q.kind = .take → s.offer? id = some o →
    o.ownScore = some score →
    p = be16 id.dispatch ++ [id.serial] ++ be16 score ++ [byte (s.dtc.vacantSeconds / 60)]) ∧
  (∀ id, q.tag = .offer id → q.kind = .withdraw ∨ q.kind = .release →
    p = be16 id.dispatch ++ [id.serial]) ∧
  (∀ n m y source number text, q.tag = .reply n → s.msg? n = some m → m.name = .message source number →
    m.reply = some y → s.mst.phrases[y.phrase - 1]? = some text → 1 ≤ y.phrase →
    p = [y.number, 0x11#8, 0x20#8, 0x00#8, 0x00#8, number, byte y.phrase, byte text.length] ++ text) ∧
  (∀ n r, q.tag = .fareRecord n → s.tlu.log.find? (·.number = n) = some r → FareByRule r.body p) ∧
  (q.tag = .ownAlarm →
    p = be16 s.own ++
      [s.emu.ownSerial + 1,
        byte (weight s.emu.duress 128 + weight s.emu.seen 64 + weight s.dtc.fixValid 32 +
          weight s.dtc.job.isSome 16),
        byte (dutyCode s.dtc.duty)] ++
      be16 s.emu.elapsed ++ be16 (if s.dtc.fixValid then s.dtc.pos.east else 0) ++
      be16 (if s.dtc.fixValid then s.dtc.pos.north else 0) ++
      match s.dtc.job with
      | some j => be16 j.id.dispatch ++ [j.id.serial]
      | none => []) ∧
  (∀ k r, q.tag = .relay k.origin k.serial → q.kind = alarmFrameKind k.kind → s.relay? k = some r →
    p = if (∃ d ∈ s.nbt.dups, d.name = ⟨k.origin, .alarmSeen, k.serial⟩) ∨
          (∃ a ∈ s.alarmEntry k.origin, a.seen = true) then
        r.payload.modify 3 (· ||| 0x40#8) else r.payload) ∧
  (q.tag = .beacon → p = [])

/-- The bits of a frame on TXD (R24, R25): 32 bits of preamble, the sync word, header, payload and CRC, each
byte from its most significant bit; in loopback TXD is not driven (R42). -/
def SentOnTxd (x : TxFrame) (s : State) : Prop :=
  let body := encodeHeader (kindCode x.kind) x.frame.header x.frame.payload.length ++ x.frame.payload
  let bytes := [0xAA#8, 0xAA#8, 0xAA#8, 0xAA#8, 0xB3#8, 0x4E#8] ++ body ++ be16 (crc16 body).toNat
  if s.stc.loopback then x.txd = []
  else
    x.txd.length = 8 * (21 + x.frame.payload.length) ∧
    ∀ (j i : Nat) (b : Byte), bytes[j]? = some b → i < 8 → x.txd[8 * j + i]? = some (b.getLsbD (7 - i))

/-! ## What the CAU tells and answers -/

/-- What the in-service notice leaves of the originator's record, by `t` (R50): a bid SENT (R92), with the
vacant minutes it carries where it is built in the same act, in loopback; a QUEUED or SENT reply SENT (R155); a
relay ON_AIR and its serial the last relayed where it is newer (R81). A retry is not notified. -/
def InServiceTold (e : QueueEntry) (s t : State) : Prop :=
  (e.seq = none →
    (∀ id o, e.req.tag = .offer id → e.req.kind = .bid → s.offer? id = some o →
      t.offer? id = some { o with
        bidFrame := .sent
        ownVacant := if s.stc.loopback = true ∧ o.ownScore.isSome = true then some (s.dtc.vacantSeconds / 60)
          else o.ownVacant } ∧
      (o.state = .passed → s.cau.queue.length < 16 →
        (∀ q ∈ s.cau.queue, q.number ≠ e.number → q.req.tag ≠ .offer id) →
        ∃ q ∈ t.cau.queue, q.req = ⟨.withdraw, 0, 1, false, 0, .offer id⟩) ∧
      (o.state ≠ .passed → t.cau.queue.map (·.req) = s.cau.queue.map (·.req))) ∧
    (∀ n m y, e.req.tag = .reply n → m ∈ s.mst.entries → m.entry = n → m.reply = some y →
      y.state = .queued ∨ y.state = .sent →
      { m with reply := some { y with state := .sent } } ∈ t.mst.entries) ∧
    (∀ k, e.req.tag = .relay k.origin k.serial → e.req.kind = alarmFrameKind k.kind →
      (∀ r, s.relay? k = some r → t.relay? k = some { r with state := .onAir }) ∧
      (∀ a, s.alarmEntry k.origin = some a →
        t.alarmEntry k.origin = some { a with lastRelayed := match a.lastRelayed with
          | some l => if 1 ≤ (k.serial - l).toNat ∧ (k.serial - l).toNat ≤ 127 then some k.serial else some l
          | none => some k.serial }) ∧
      (s.alarmEntry k.origin = none → t.emu.alarms = s.emu.alarms))) ∧
  (e.seq.isSome = true → t.mst = s.mst ∧ t.nbt = s.nbt ∧ t.emu.alarms = s.emu.alarms ∧
    (s.stc.loopback = false → t.ocu = s.ocu) ∧ t.cau.queue.map (·.req) = s.cau.queue.map (·.req))

/-- What an originator that is told DROPPED leaves of its record, by `t` (R62): a bid no frame (R91), a QUEUED
or SENT reply FAILED (R155), a fare record IN_FLIGHT UNSENT with the hold set (R136), a relay no record (R79),
an ALARM_CLEAR in CLEARING its next due time tCLEAR later (R188). -/
def ToldDropped (q : Request) (s t : State) : Prop :=
  (∀ id o, q.tag = .offer id → q.kind = .bid → s.offer? id = some o →
    t.offer? id = some { o with bidFrame := .none }) ∧
  (∀ n m y, q.tag = .reply n → m ∈ s.mst.entries → m.entry = n → m.reply = some y →
    y.state = .queued ∨ y.state = .sent →
    { m with reply := some { y with state := .failed } } ∈ t.mst.entries) ∧
  (∀ n, q.tag = .fareRecord n → recordInFlight n s = true →
    t.tlu.hold = some s.nbt.ticks ∧ ∃ x ∈ t.tlu.log, x.number = n ∧ x.state = .unsent) ∧
  (∀ k, q.tag = .relay k.origin k.serial → q.kind = alarmFrameKind k.kind → t.relay? k = none) ∧
  (q.tag = .ownAlarm → q.kind = .alarmClear → s.emu.state = .clearing →
    t.emu.clearDue = some (t.now + 5000))

/-- What a looped frame leaves at its owner and its originator, by `t` (R42, R62): its header reaches no
neighbour, its payload no duplicate key, and no ACK is prepared. An ALARM or ALARM_CLEAR goes to the EMU, which
keeps the alarm list by it (R190, R191), and not to the relay scheduler. The own frames of the contest change no
entry (R90). A frame that asked for an acknowledgement is DELIVERED: a QUEUED or SENT reply so, and a fare record
REPORTED. A relay is SENT, its record freed. -/
def LoopedAtOwner (e : QueueEntry) (x : TxFrame) (s t : State) : Prop :=
  (x.kind ≠ .alarmSeen →
    t.nbt.neighbours = s.nbt.neighbours ∧ t.nbt.dups = s.nbt.dups ∧ t.fre.pendingAck = s.fre.pendingAck ∧
    ∀ r ∈ t.nbt.relays, r ∈ s.nbt.relays) ∧
  (∀ p, x.kind = .alarm → parseAlarm x.frame.payload = some p →
    sourceAccepted .alarm x.frame.header.source = true → isCab p.origin = true → p.origin ≠ s.own →
    (s.alarmEntry p.origin = none →
      { origin := p.origin, lastSerial := p.serial, lastRelayed := none, seen := p.seen,
        lastHeard := t.now } ∈ t.emu.alarms) ∧
    ∀ a, s.alarmEntry p.origin = some a →
      { a with
        lastHeard := t.now
        lastSerial := if newerSerial p.serial a.lastSerial then p.serial else a.lastSerial
        seen := a.seen || (newerSerial p.serial a.lastSerial && p.seen) } ∈ t.emu.alarms) ∧
  (∀ p a, x.kind = .alarmClear → parseAlarm x.frame.payload = some p →
    sourceAccepted .alarmClear x.frame.header.source = true → isCab p.origin = true → p.origin ≠ s.own →
    s.alarmEntry p.origin = some a →
    t.emu.alarms = if newerSerial p.serial a.lastSerial then s.emu.alarms.filter (·.origin ≠ p.origin)
      else s.emu.alarms) ∧
  (∀ p, x.kind = .alarm ∨ x.kind = .alarmClear → parseAlarm x.frame.payload = some p → p.origin = s.own →
    t.emu.alarms = s.emu.alarms) ∧
  (∀ id, e.req.tag = .offer id → x.kind ∈ [FrameKind.bid, .withdraw, .take, .release] →
    x.frame.header.source = s.own → t.ocu = s.ocu ∧ t.dtc = s.dtc ∧ t.mst = s.mst) ∧
  (∀ n m y, e.req.tag = .reply n → e.req.ackReq = true → x.kind = .msg → x.frame.header.dest ≠ 0 →
    x.frame.header.dest ≠ s.own → m ∈ s.mst.entries → m.entry = n → m.reply = some y →
    y.state = .queued ∨ y.state = .sent →
    { m with reply := some { y with state := .delivered } } ∈ t.mst.entries) ∧
  (∀ n, e.req.tag = .fareRecord n → e.req.ackReq = true → x.kind = .fare → recordInFlight n s = true →
    ∃ r ∈ t.tlu.log, r.number = n ∧ r.state = .reported) ∧
  (∀ k, e.req.tag = .relay k.origin k.serial → e.req.kind = alarmFrameKind k.kind → e.req.ackReq = false →
    x.kind ∈ [FrameKind.alarm, .alarmClear] →
    t.nbt.relays = s.nbt.relays.filter (·.key ≠ k)) ∧
  (x.kind = .beacon → e.req.tag = .beacon →
    t.ocu = s.ocu ∧ t.mst = s.mst ∧ t.nbt = s.nbt ∧ t.tlu = s.tlu ∧ t.emu = s.emu)

/-- The queue is full, and `w` is the frame that leaves it for a better one (R48): of those not in service the
last in the queue's order, and none of them is of a worse class. -/
def WouldBeDisplaced (w : QueueEntry) (s : State) : Prop :=
  16 ≤ s.cau.queue.length ∧ s.isInService w = false ∧ w.number < s.cau.nextEntry ∧
  ∃ before after, s.cau.queue = before ++ w :: after ∧
    (∀ q ∈ before, s.isInService q = false → q.req.cls ≤ w.req.cls) ∧
    ∀ q ∈ after, s.isInService q = true

/-- A request has the place of `w`, which is told DROPPED; every other frame stays (R48). -/
def TakesThePlaceOf (w : QueueEntry) (q : Request) (s t : State) : Prop :=
  (∃ x ∈ t.cau.queue, x.req = q) ∧ (∀ x ∈ t.cau.queue, x.number ≠ w.number) ∧
  (∀ x ∈ s.cau.queue, x.number ≠ w.number → x ∈ t.cau.queue) ∧ ToldDropped w.req s t

/-- The limit of the own ALARM and ALARM_CLEAR (R46): what a request of `kind` leaves where the own frame `x`
stands in the queue. In service, the request is held, and one held before is told DROPPED; waiting, it takes in
a request of its own kind, and one of the other kind replaces it in its place, and it is told DROPPED. -/
def MeetsOwnAlarm (kind : FrameKind) (x : QueueEntry) (s t : State) : Prop :=
  (s.isInService x = true →
    t.cau.queue = s.cau.queue ∧ t.cau.held = some ⟨kind, 0, 0, false, 0, .ownAlarm⟩ ∧
    ∀ old, s.cau.held = some old → ToldDropped old s t) ∧
  (s.isInService x = false → t.cau.held = s.cau.held ∧
    (x.req.kind = kind → t.cau.queue = s.cau.queue) ∧
    (x.req.kind ≠ kind → ToldDropped x.req s t ∧ t.cau.queue = s.cau.queue.map fun y =>
      if y.number = x.number then { y with req := { y.req with kind := kind } } else y))

/-! ## SYSTEM notices -/

/-- The entry that a notice takes the place of in a store without a free one (R147, R151): the oldest READ
entry without PIN, failing that the oldest expired entry, the oldest SYSTEM entry without PIN, the oldest
SYSTEM entry. The oldest stands last (R141). -/
def leavesForNotice (entries : List MsgEntry) : Option MsgEntry :=
  let oldest := fun (p : MsgEntry → Bool) => (entries.filter p).getLast?
  (oldest fun e => e.state = .read && !e.pin).or <|
    (oldest fun e => e.complete && e.expired).or <|
      (oldest fun e => e.kind = .system && !e.pin).or <| oldest fun e => e.kind = .system

/-- The entries once the notice `m` is raised (R151): it takes the place of the notice of its key, or a free
one, or that of `leavesForNotice`; without any it is not entered. -/
def storeWithNotice (m : MsgEntry) (entries : List MsgEntry) : List MsgEntry :=
  if entries.any (·.name = m.name) then m :: entries.filter (·.name ≠ m.name)
  else if entries.length < 24 then m :: entries
  else match leavesForNotice entries with
    | some old => m :: entries.filter (·.entry ≠ old.entry)
    | none => entries

/-! ## When a key is taken -/

/-- The display answers keys: in RUN, or awake in PARK (R168). -/
def awake (s : State) : Bool := s.stc.power = .run || s.cns.wakeSince.isSome

/-- A key is accepted and routed (R169, R171). -/
def keyTaken (k : Key) (s : State) : Bool := s.running && canAccept k s && awake s

/-- A key is accepted and routed in RUN: the view keys act in RUN alone (R168). -/
def keyTakenInRun (k : Key) (s : State) : Bool := s.running && canAccept k s && s.stc.power = .run

/-- What plays after a request for a pattern (R175, R176). -/
def buzzerAfter (tone : Tone) (u : State) : Option (Tone × Moment) :=
  if toneAccepted tone u && toneStarts tone u.cns.buzzer then some (tone, u.now) else u.cns.buzzer

/-- What plays after the key event of `now`: CLICK is requested with key click enabled, and nothing
otherwise (R171, R175). -/
def buzzerAfterKey (now : Moment) (s : State) : Option (Tone × Moment) :=
  if s.consoleConfig.keyClick then buzzerAfter .click { s with now := now } else s.cns.buzzer

/-- What a key event does whatever the key (R168, R169, R171): the clock stands at the end of the debounce,
or where it stood past it; the scanner is HELD by `k`, first repeating 500 ms later; a click sounds where
`buzzerAfterKey` gives one; the wake timer restarts in PARK; the pending prefix is `p`. Everything else is as
it was. -/
def KeyHeard (k : Key) (p : Option KeyPrefix) (s u : State) : Prop :=
  ∃ since now, s.cns.scanner = .settling k since ∧ now = max s.now (since + 20) ∧
    u = { s with
      now := now
      cns := { s.cns with
        scanner := .held k true (now + 500), releaseSince := none,
        buzzer := buzzerAfterKey now s, keyPrefix := p,
        wakeSince := if s.stc.power = .park then some now else s.cns.wakeSince } }

/-- The row of a key. -/
def keyCommand : Key → Instr
  | .shift => .shift | .hire => .hire | .pay => .pay | .vacant => .vacant | .onBreak => .onBreak
  | .accept => .accept | .decline => .decline | .extra => .extra | .tariff => .tariffKey
  | .read => .read | .up => .up | .down => .down | .reply => .reply | .clear => .clear
  | .digit d => .digit d

/-- The table of R14 for the duty keys and the prefix keys, without an emergency. -/
def keyAvailable : Key → DutyState → Bool
  | .shift, d => d = .offShift || d = .vacant
  | .hire, d => d = .vacant || d = .assigned || d = .paying
  | .pay, d => d = .hired
  | .vacant, d => d = .paying
  | .onBreak, d => d = .vacant || d = .onBreak
  | .accept, d => d = .pending
  | .decline, d => d = .pending || d = .assigned
  | .extra, d => d = .hired || d = .paying
  | .tariff, d => d = .hired
  | .read, _ | .up, _ | .down, _ | .reply, _ | .clear, _ | .digit _, _ => true

/-- A refusal on `u` (R15, R16): the prefix is dropped and the ERROR tone requested, nothing else. -/
def refused (u : State) : State :=
  { u with cns := { u.cns with keyPrefix := none, buzzer := buzzerAfter .error u } }

/-- What an entry into VACANT does to the cab record and the tariff sets (R8, R127). -/
def EntersVacant (s t : State) : Prop :=
  t.dtc.duty = .vacant ∧ t.dtc.vacantSeconds = 0 ∧ AppliesPendingSet s t

/-! ## What the console shows, by the rules of chapter 9 -/

/-- A decimal digit. -/
def digitCell (n : Nat) : Byte := BitVec.ofNat 8 (48 + n % 10)

/-- An amount up to 9999.99 in its 8 columns (R159): two decimals, right-aligned, no leading zeros. -/
def amountCells (cents : Nat) : List Byte :=
  let lead := fun (place : Nat) => if place ≤ cents then digitCell (cents / place) else blank
  [blank, lead 100000, lead 10000, lead 1000, digitCell (cents / 100)] ++ codes "." ++
    [digitCell (cents / 10), digitCell cents]

/-- The time of day as HH:MM:SS, or dashes while it is invalid (R159). -/
def clockCells : Option Nat → List Byte
  | some t =>
    [digitCell (t / 36000), digitCell (t / 3600)] ++ codes ":" ++
    [digitCell (t % 3600 / 600), digitCell (t % 3600 / 60)] ++ codes ":" ++
    [digitCell (t % 60 / 10), digitCell (t % 60)]
  | none => codes "--:--:--"

/-- Columns 0 to 8 and 10 to 17 of the status row (R159). -/
def statusCells (s : State) : List Byte :=
  if s.stc.fault then codes "CONFIG FAULT      "
  else
    (match s.dtc.duty with
      | .offShift => codes "OFF SHIFT "
      | .vacant => codes "VACANT    "
      | .pending => codes "PENDING   "
      | .assigned => codes "ASSIGNED  "
      | .hired => codes "HIRED     "
      | .paying => codes "PAYING    "
      | .onBreak => codes "BREAK     ") ++
    match s.dtc.duty, s.fmr.hire with
    | .hired, some h => amountCells h.fare
    | .paying, some h => amountCells (h.payable.getD 0)
    | _, _ => clockCells s.time

/-- A row shows a text in its 24 cells (R158): cut after the 24th, "?" for a code that is not printable,
spaces after its end. -/
def Shows (r text : List Byte) : Prop :=
  r.length = 24 ∧ ∀ j, j < 24 → r[j]? = some (match text[j]? with
    | some c => if 0x20#8 ≤ c ∧ c ≤ 0x7E#8 then c else 0x3F#8
    | none => 0x20#8)

/-- Row `i` of the display memory shows a text. -/
def RowShows (i : Nat) (text : List Byte) (s : State) : Prop :=
  ∃ r, s.cns.display[i]? = some r ∧ Shows r text

/-- The entries that may stand in the pinned rows, the youngest first (R160). -/
def pinnedEntries (s : State) : List MsgEntry :=
  s.mst.entries.filter fun e => e.state ≠ .assembling && e.pin

/-- Kilometres with one decimal, from the position to a pickup, rounded down; "?" without a position
(R162). -/
def distanceCells (s : State) (pickup : Position) : List Byte :=
  if s.dtc.fixValid then
    codes "DIST " ++ dec (gridDistance s.dtc.pos pickup / 100) ++ codes "." ++
      dec (gridDistance s.dtc.pos pickup % 100 / 10)
  else codes "DIST ?"

/-- One line of the LIST view (R162). That an expired entry that is pinned shows "x" is read with R160. -/
def listCells (e : MsgEntry) : List Byte :=
  (if e.state = .unread then codes "U" else codes " ") ++
  (if e.expired then codes "x" else if e.pin then codes "*" else codes " ") ++
  (if e.reply.map (·.state) = some .failed then codes "F"
   else if e.replyWanted = true ∧ e.reply.map (·.state) ≠ some .delivered then codes "R" else codes " ") ++
  codes " " ++
  (match e.name with
    | .message source _ => dec source ++ blanks (4 - (dec source).length)
    | .notice _ => codes "SYS ") ++
  codes " " ++ ((msgText e).takeWhile (· ≠ 0x0A#8)).take 15

/-- The lines of each view (R162); the separators and the rounding of sums are log 15 and log 16. -/
def linesByRule (s : State) : View → List (List Byte)
  | .meter => match s.fmr.hire with
    | some h =>
      [ codes "TARIFF " ++ dec h.current.tariffId ++ codes " SEG " ++ dec (h.closed.length + 1),
        codes "DIST " ++ dec (h.totalMetres / 1000) ++ codes "." ++ dec2 (h.totalMetres % 1000 / 10),
        codes "WAIT " ++ dec (h.waiting / 3600) ++ codes ":" ++ dec2 (h.waiting / 60 % 60) ++ codes ":" ++
          dec2 (h.waiting % 60) ] ++
      (h.extras.map fun x => codes "EXTRA " ++ dec x.id ++ codes " x " ++ dec x.count) ++
      (if h.flags.cap = true ∧ h.flags.implausible = true then [codes "CAP IMPLAUSIBLE"]
       else if h.flags.cap then [codes "CAP"]
       else if h.flags.implausible then [codes "IMPLAUSIBLE"] else [])
    | none => []
  | .offer => match s.wonOffer? with
    | some e =>
      wrap e.text ++
      [ distanceCells s e.pickup,
        codes "ACCEPT IN " ++ dec ((e.jobTimer.getD 0 - s.now + 999) / 1000) ++ codes " S" ]
    | none => []
  | .job => match s.dtc.job with
    | some j =>
      wrap j.text ++
      [ distanceCells s j.pickup,
        if j.confirmWait then codes "AWAITING"
        else if j.confirm = .confirmed then codes "CONFIRMED" else codes "UNCONFIRMED",
        codes "ACCEPTED " ++ match j.acceptTime with
          | some t => dec2 (t / 3600) ++ codes ":" ++ dec2 (t / 60 % 60)
          | none => codes "--:--" ]
    | none => []
  | .totals =>
    let t := s.tlu.totals
    [ codes "HIRES " ++ dec t.hires,
      codes "TAKEN " ++ dec (t.payableSum / 100) ++ codes "." ++ dec2 (t.payableSum % 100),
      codes "EXTRAS " ++ dec (t.extrasSum / 100) ++ codes "." ++ dec2 (t.extrasSum % 100),
      codes "KM " ++ dec (t.totalMetres / 1000) ++ codes "." ++ dec2 (t.totalMetres % 1000 / 10),
      codes "PAID KM " ++ dec (t.paidMetres / 1000) ++ codes "." ++ dec2 (t.paidMetres % 1000 / 10),
      codes "WAIT " ++ dec (t.waiting / 3600) ++ codes ":" ++ dec2 (t.waiting / 60 % 60) ]
  | .list => (s.mst.entries.filter fun e => e.state ≠ .assembling).map listCells
  | .message => match s.mst.openEntry.bind s.msg? with
    | some e => wrap (msgText e)
    | none => []
  | .menu => (List.range 9).map fun i => dec (i + 1) ++ codes " " ++ (s.mst.phrases.getD i []).take 22

/-- The legend (R165). -/
def legendByRule (s : State) : List Byte :=
  match s.cns.keyPrefix, viewShown s with
  | some .extra, _ => codes "EXTRA ?"
  | some .tariff, _ => codes "TARIFF ?"
  | none, none => codes "READ:MSGS"
  | none, some .meter =>
    if s.dtc.duty = .paying then codes "VACANT:END HIRE:RESUME" else codes "EXTRA TARIFF PAY"
  | none, some .offer => codes "ACCEPT  DECLINE"
  | none, some .job => codes "HIRE:START DECLINE"
  | none, some .totals => codes "SHIFT:START"
  | none, some .list =>
    let n := (s.mst.entries.filter fun e => e.state ≠ .assembling).length
    if n = 0 then codes "NO MESSAGES"
    else dec n ++ codes " MSGS " ++ dec (s.mst.entries.filter (·.state = .unread)).length ++ codes " NEW"
  | none, some .message => match s.mst.openEntry.bind s.msg? with
    | some e =>
      (match e.name with
        | .message source number => dec source ++ codes " #" ++ dec number.toNat
        | .notice _ => codes "SYS") ++
      (if e.state = .unread then codes " UNREAD" else codes " READ") ++
      (if e.expired then codes " EXPIRED" else [])
    | none => []
  | none, some .menu => codes "1-9:SEND CLEAR:BACK"

/-- The display memory in RUN (R158 to R160, R162, R165): the status row with its indicators, P pinned rows
each with its marker, the lines of the view shown from its pointer on, and the legend. -/
def DisplayShows (s : State) : Prop :=
  s.cns.display.length = 8 ∧
  RowShows 0 (statusCells s ++ codes " " ++ (if s.dtc.fixValid then codes " " else codes "?") ++ codes " " ++
    (if s.lines.quiet then codes "Q" else codes " ") ++ codes " " ++
    (if s.tlu.pendingSet.isSome then codes "T" else codes " ")) s ∧
  (∀ i e, i < 2 → (pinnedEntries s)[i]? = some e →
    RowShows (1 + i) ((if e.expired then codes "x" else codes "*") ++
      ((msgText e).takeWhile (· ≠ 0x0A#8)).take 23) s) ∧
  (∀ p, p = min 2 (pinnedEntries s).length → ∀ k, k < 6 - p →
    RowShows (1 + p + k) (match viewShown s with
      | some v => ((linesByRule s v)[s.cns.pointers.get v + k]?).getD []
      | none => []) s) ∧
  RowShows 7 (legendByRule s) s

/-- A lamp blinks. -/
def LampDrive.blinks (d : LampDrive) : Prop := ∃ on since, d = .blink on since

/-- The lamps (R172 to R174): each lit, blinking or dark by its condition, and in PARK all dark but
ROOF_ALARM. -/
def LampsShow (s : State) : Prop :=
  s.cns.lamps.roofVacant = (if s.stc.power = .run ∧ s.dtc.duty = .vacant then .lit else .dark) ∧
  (if s.consoleConfig.roofAlarm = true ∧ (s.emu.state = .active ∨ s.emu.state = .acknowledged) then
    s.cns.lamps.roofAlarm.blinks else s.cns.lamps.roofAlarm = .dark) ∧
  s.cns.lamps.ledRadio = (if s.stc.power = .run ∧ s.nbt.homeLevel ≠ s.cns.stretchSince.isSome then .lit
    else .dark) ∧
  (if s.stc.power = .run ∧ ∃ e ∈ s.mst.entries, e.state = .unread then s.cns.lamps.ledMsg.blinks
   else s.cns.lamps.ledMsg = .dark) ∧
  (∀ e due, s.stc.power = .run → s.dtc.duty = .pending → s.wonOffer? = some e → e.jobTimer = some due →
    (s.now + 5000 < due → s.cns.lamps.ledOffer = .lit) ∧
    (due ≤ s.now + 5000 → s.cns.lamps.ledOffer.blinks)) ∧
  (¬(s.stc.power = .run ∧ s.dtc.duty = .pending) → s.cns.lamps.ledOffer = .dark)

/-! ## Properties that every step keeps -/

/-- A display row: 24 printable codes (R158). -/
def RowWf (r : List Byte) : Prop := r.length = 24 ∧ ∀ b ∈ r, 0x20#8 ≤ b ∧ b ≤ 0x7E#8

/-- The display memory holds 8 rows of 24 printable codes (R158). -/
def DisplayWf (s : State) : Prop := s.cns.display.length = 8 ∧ ∀ r ∈ s.cns.display, RowWf r

/-- A lamp is driven as its rule says (R172). -/
def LampFollows (lamp : Lamp) (s : State) : Prop :=
  match lampRule lamp s with
  | .dark => s.cns.lamps.get lamp = .dark
  | .lit => s.cns.lamps.get lamp = .lit
  | .blinking => ∃ on since, s.cns.lamps.get lamp = .blink on since

/-- While the 4120 runs, the display is the layout of the state (R158), each lamp follows its condition
(R172), and the park timer runs exactly while its conditions hold in RUN (R199). -/
def ConsoleFollows (s : State) : Prop :=
  s.running = true →
    s.cns.display = displayNow s ∧ (∀ lamp, LampFollows lamp s) ∧
    (s.stc.parkSince.isSome = true ↔ s.stc.power = .run ∧ s.parkConditions = true)

/-- While the 4120 runs, the view shown is that of R161, its scroll pointer lies within its limit, and in LIST
the selection is the entry on the pointer's line (R164). -/
def ViewFollows (s : State) : Prop :=
  s.running = true →
    s.cns.shown = viewShown s ∧
    (∀ v, viewShown s = some v → s.cns.pointers.get v ≤ pointerLimit s v) ∧
    (viewShown s = some .list → s.cns.selection = listEntryAt s s.cns.pointers.list)

/-- While the 4120 runs, the access procedure stands where the queue, the mask, the inhibits and the
carrier put it (R52, R53, R56, R59). -/
def AccessFollows (s : State) : Prop :=
  s.running = true →
    match s.cau.inService, bestEntry s with
    | some _, _ => s.cau.access.phase = .idle ∧ s.cau.access.candidate = none
    | none, none =>
      s.cau.access.candidate = none ∧
        (s.cau.access.phase = .idle ∨ s.cau.access.phase = .inhibited ∧ s.inhibited = true)
    | none, some e =>
      s.cau.access.candidate = some e.number ∧
        if s.inhibited then s.cau.access.phase = .inhibited
        else if s.channelBusy then s.cau.access.phase = .defer
        else s.cau.access.phase = .gap ∨ s.cau.access.phase = .backoff

/-- Where the access procedure stands that has returned to DEFER in the command that ends in `t`, from a
frame's service or from INHIBITED (R52, R59). Under an inhibit it stands in INHIBITED, with the best unmasked
entry as its candidate, or with none where no entry is unmasked. Without one it goes to IDLE, waits in DEFER
while the channel is busy, or has entered GAP at this moment. -/
def ReturnedToDefer (t : State) : Prop :=
  (t.inhibited = true →
    accessState t = .inhibited ∧ t.cau.access.candidate = (bestEntry t).map (·.number)) ∧
  (t.inhibited = false → bestEntry t = none → accessState t = .idle ∧ t.cau.access.candidate = none) ∧
  ∀ e, t.inhibited = false → bestEntry t = some e →
    t.cau.access = ⟨if t.channelBusy then .defer else .gap, some e.number, t.now⟩

/-- The order of the queue (R44): by class, then by enqueue time. -/
def queuedBefore (a b : QueueEntry) : Prop :=
  a.req.cls < b.req.cls ∨ (a.req.cls = b.req.cls ∧ a.enqueued ≤ b.enqueued)

/-- The outbound queue (R44): at most 16 frames in their order, each with a number of its own, at most
one BEACON, one FARE and one own ALARM or ALARM_CLEAR. -/
def QueueWf (s : State) : Prop :=
  s.cau.queue.length ≤ queueCapacity ∧
  s.cau.queue.Pairwise queuedBefore ∧
  (s.cau.queue.map (·.number)).Nodup ∧
  (∀ e ∈ s.cau.queue, e.number < s.cau.nextEntry ∧ e.enqueued ≤ s.now ∧ e.req.cls ≤ 4) ∧
  (∀ q, s.cau.held = some q → q.cls ≤ 4) ∧
  (s.cau.queue.filter fun e => e.req.kind = .beacon).length ≤ 1 ∧
  (s.cau.queue.filter fun e => e.req.kind = .fare).length ≤ 1 ∧
  (s.cau.queue.filter fun e => isOwnAlarm e.req).length ≤ 1

/-- The class of a request by what it is for: the emergency and its relays 0 (R79, R181, R188), the contest 1
(R104), replies 2 (R154), reports 3 (R135), beacons 4 (R64). -/
def Tag.classOf : Tag → Nat
  | .ownAlarm | .relay _ _ => 0
  | .offer _ => 1
  | .reply _ => 2
  | .fareRecord _ => 3
  | .beacon => 4

/-- The frame kinds asked for with a tag (R64, R79, R104, R135, R154, R181, R188). -/
def Tag.kindsOf : Tag → List FrameKind
  | .ownAlarm | .relay _ _ => [.alarm, .alarmClear]
  | .offer _ => [.bid, .withdraw, .take, .release]
  | .reply _ => [.msg]
  | .fareRecord _ => [.fare]
  | .beacon => [.beacon]

/-- Every request, queued or held, has the class and a kind of what it is for: so in class 4 there stand
BEACONs alone. -/
def ClassesByKind (s : State) : Prop :=
  (∀ e ∈ s.cau.queue, e.req.cls = e.req.tag.classOf ∧ e.req.kind ∈ e.req.tag.kindsOf) ∧
  ∀ q, s.cau.held = some q → q.cls = q.tag.classOf ∧ q.kind ∈ q.tag.kindsOf

/-- The class mask is 4 in IDLE and 1 in every other emergency state (R51, R193). -/
def MaskWf (s : State) : Prop := s.cau.mask = if s.emu.state = .idle then 4 else 1

/-- The tables of the NBT (R67, R74, R75): bounded, and each key once. -/
def NbtWf (s : State) : Prop :=
  s.nbt.neighbours.length ≤ neighbourCapacity ∧ (s.nbt.neighbours.map (·.station)).Nodup ∧
  s.nbt.dups.length ≤ dupCapacity ∧ (s.nbt.dups.map (·.name)).Nodup ∧
  s.nbt.relays.length ≤ relayCapacity ∧ (s.nbt.relays.map (·.key)).Nodup

/-- The offer table (R83, R84): at most 8 entries, each offer id once, with at most 8 heard bids each, and of
each station at most one. -/
def OffersWf (s : State) : Prop :=
  s.ocu.offers.length ≤ offerCapacity ∧ (s.ocu.offers.map (·.id)).Nodup ∧
  ∀ e ∈ s.ocu.offers, e.heard.length ≤ heardCapacity ∧ (e.heard.map (·.rank.station)).Nodup

/-- The duty state is PENDING exactly when one entry is WON (R6). -/
def PendingWf (s : State) : Prop :=
  (s.ocu.offers.map (·.id)).Nodup ∧
  (s.ocu.offers.filter fun e => e.state = .won).length = if s.dtc.duty = .pending then 1 else 0

/-- The job record and the hire record stand with the duty states that hold them (R12, R106). -/
def RecordsWf (s : State) : Prop :=
  (s.dtc.duty = .assigned → s.dtc.job.isSome = true) ∧
  (s.dtc.job.isSome = true → s.dtc.duty = .assigned ∨ s.dtc.duty = .hired ∨ s.dtc.duty = .paying) ∧
  (s.fmr.hire.isSome = true ↔ s.dtc.duty = .hired ∨ s.dtc.duty = .paying)

/-- No contest runs in an emergency that has armed (R103). -/
def NoContestInEmergency (s : State) : Prop :=
  s.emu.state.takesCode = true →
    ∀ e ∈ s.ocu.offers, e.state ≠ .waiting ∧ e.state ≠ .bid ∧ e.state ≠ .yielded ∧ e.state ≠ .won

/-- A tariff set charges no flag fall above the fare cap. -/
def TariffSet.flagFallsBounded (t : TariffSet) : Prop := ∀ x ∈ t.tariffs, x.rates.f ≤ fareCap

/-- A hire record within its bounds (R106, R112, R114): at most four segments, metres and waiting seconds
within their caps, the fare the capped sum. -/
def HireRecord.bounded (h : HireRecord) : Prop :=
  h.segments.length ≤ segmentCapacity ∧ h.paidMetres ≤ h.totalMetres ∧ h.totalMetres ≤ distanceCap ∧
  h.waiting ≤ waitingCap ∧ h.fare = min fareCap h.fareSum

/-- The hire record (R106, R112, R114, R116): within its bounds, the payable amount the rounded fare while
PAYING and absent in HIRED; and so the record of its last interval end (R124), without a payable amount. The
sets bound the flag fall that the next hire takes. -/
def MeterWf (s : State) : Prop :=
  (∀ t, s.tlu.active = some t → t.flagFallsBounded) ∧
  (∀ t, s.tlu.pendingSet = some t → t.flagFallsBounded) ∧
  (s.fmr.hire.isSome = true ↔ s.dtc.duty = .hired ∨ s.dtc.duty = .paying) ∧
  (∀ h, s.fmr.hire = some h → h.bounded ∧
    h.payable = if s.dtc.duty = .paying then some (payableOf h.rounding h.fare) else none) ∧
  ∀ h, s.fmr.atInterval = some h → h.bounded ∧ h.payable = none

/-- The fare log (R133, R135): at most 64 records, each with a number of its own. -/
def LogWf (s : State) : Prop :=
  s.tlu.log.length ≤ logCapacity ∧ (s.tlu.log.map (·.number)).Nodup ∧
  ∀ r ∈ s.tlu.log, r.number < s.tlu.nextRecord

/-- The message store (R140): at most 24 entries, each with a number of its own. -/
def StoreWf (s : State) : Prop :=
  s.mst.entries.length ≤ storeCapacity ∧ (s.mst.entries.map (·.entry)).Nodup ∧
  ∀ e ∈ s.mst.entries, e.entry < s.mst.nextMsg

/-- The store's keys (R141): each pair of source and message number, and each notice key, at most once. -/
def StoreKeysOnce (s : State) : Prop := (s.mst.entries.map (·.name)).Nodup

/-- The alarm list (R190): at most 4 entries, one per origin. -/
def AlarmsWf (s : State) : Prop :=
  s.emu.alarms.length ≤ alarmCapacity ∧ (s.emu.alarms.map (·.origin)).Nodup

/-- The alarm schedule runs only in ACTIVE, ACKNOWLEDGED and COVERT (R181). -/
def ScheduleWf (s : State) : Prop :=
  s.emu.schedule.isSome = true →
    s.emu.state = .active ∨ s.emu.state = .acknowledged ∨ s.emu.state = .covert

/-- The counters within their ranges (R1, R19, R40, R137, R178). -/
def CountersWf (s : State) : Prop :=
  s.dtc.vacantSeconds ≤ vacantCap ∧ s.dtc.posAge ≤ tPosStale ∧ s.dtc.timeOfDay ≤ 86399 ∧
  s.fre.counters.good ≤ 9999 ∧ s.fre.counters.transmissions ≤ 9999 ∧ s.fre.counters.badCrc ≤ 255 ∧
  s.fre.counters.foreign ≤ 255 ∧ s.fre.counters.txFailures ≤ 255 ∧
  s.tlu.implausible ≤ 255 ∧ s.tlu.totals.hires ≤ 9999 ∧ s.tlu.totals.payableSum ≤ sumCap ∧
  s.tlu.totals.extrasSum ≤ sumCap ∧ s.tlu.totals.totalMetres ≤ sumCap ∧
  s.tlu.totals.paidMetres ≤ sumCap ∧ s.tlu.totals.waiting ≤ sumCap ∧
  s.emu.elapsed ≤ 65535 ∧ s.emu.attempts ≤ 3 ∧ s.emu.code.length ≤ 4

/-- A property that every step keeps, whatever the state. -/
def KeptByStep (inv : State → Prop) : Prop := ∀ s t, inv s → step s = .next t → inv t

end Sys2Proof.Machine
end

