-- ==== Sys2Proof/Certificates/Slice0/Obligations.lean ====
section
/-! DEFINITION. The statements for the provers. The rules are those of spec/; a clause that rests on a
choice of the model names its log entry. -/

open Sys2Proof Sys2Proof.Machine

/-! ## The queue of commands -/

/-- A step takes the command at the front of the queue and runs it on the queue's rest. -/
def Obligations.StepRunsTheFrontCommand : Prop :=
  ∀ (c : Instr) (rest : List Instr) (s : State),
    step { s with pending := c :: rest } = exec c { s with pending := rest }

/-- Every command answers a next state, in every state, with the rest of the queue untouched and the clock
not set back; on an empty queue the clock moves on by a millisecond, and nothing else changes but, while the
4120 runs, what follows the levels it reads (log 2). -/
def Obligations.EveryStepRunsAndKeepsTheQueue : Prop :=
  (∀ (c : Instr) (s : State), ∃ t, exec c s = .next t ∧ t.pending = s.pending ∧ s.now ≤ t.now) ∧
  ∀ s : State, s.pending = [] →
    ∃ t, step s = .next t ∧
      if s.running then Settled { s with now := s.now + 1 } t else t = { s with now := s.now + 1 }

/-! ## Starts -/

/-- A START that arises, with main power present and RESET released after it, and that is cold, leaves each
block at the values of its start table's cold column: OFF_SHIFT with no job, position or time, sequence
number and counters 0, an empty queue with the seeded generator, empty tables, no hire, no log, no message,
the lamp test's blank display and lit lamps, no emergency, and the image's tariff set where the image is
accepted (R23, R43, R66, R82, R105, R125, R131, R139, R157, R177, R193, R196). -/
def Obligations.ColdStartGivesColdValues : Prop :=
  ∀ (i : StartInput) (s : State),
    startArises i.event s = true → powered (startLine i.event s) = true → coldStart i s = true →
    ∃ t, exec (.start i) s = .next t ∧
      t.stc.phase = .lampTest ∧ t.stc.startCause = .cold ∧ t.stc.pendingCause = some .cold ∧
      t.stc.loopback = i.strap ∧ t.stc.power = .run ∧ t.stc.parkSince = none ∧
      t.stc.supply = (if i.senseMv < 1000 then .low else .normal) ∧
      t.stc.retStation = i.image.ownStation.value ∧ t.stc.retFleet = i.image.fleet.value ∧
      t.dtc.duty = .offShift ∧ t.dtc.vacantSeconds = 0 ∧ t.dtc.fixValid = false ∧ t.dtc.posAge = 0 ∧
      t.dtc.timeValid = false ∧ t.dtc.job = none ∧
      t.fre.seq = 0 ∧ t.fre.gathering = none ∧ t.fre.pendingAck = none ∧ t.fre.onAir = none ∧
      t.fre.counters = ⟨0, 0, 0, 0, 0⟩ ∧
      t.cau.queue = [] ∧ t.cau.held = none ∧ t.cau.inService = none ∧ t.cau.mask = 4 ∧
      t.cau.access.phase = .idle ∧
      t.cau.rng = rngSeed t.stc.config.fleet t.stc.config.ownStation ∧
      t.nbt.neighbours = [] ∧ t.nbt.homeLevel = false ∧ t.nbt.dups = [] ∧ t.nbt.relays = [] ∧
      t.ocu.offers = [] ∧ t.fmr.hire = none ∧ t.fmr.intervalSince = none ∧
      t.tlu.active = (if imageAccepted i.image then some (decodeImageSet i.image.setBytes) else none) ∧
      t.tlu.pendingSet = none ∧ t.tlu.staging = none ∧ t.tlu.log = [] ∧ t.tlu.hold = none ∧
      t.tlu.totals = ⟨0, 0, 0, 0, 0, 0⟩ ∧ t.tlu.implausible = 0 ∧ t.tlu.shiftStart = none ∧
      t.mst.entries = [] ∧ t.mst.openEntry = none ∧ t.mst.replyCounter = 0 ∧
      t.cns.display = blankDisplay ∧ t.cns.view = .none ∧ t.cns.pointers = Pointers.zero ∧
      t.cns.keyPrefix = none ∧ t.cns.lamps = Lamps.all .lit ∧ t.cns.buzzer = none ∧
      t.cns.stretchSince = none ∧ t.cns.wakeSince = none ∧ t.cns.level = t.consoleConfig.dayLevel ∧
      t.emu.state = .idle ∧ t.emu.ownSerial = 0 ∧ t.emu.firstSerial = none ∧ t.emu.attempts = 0 ∧
      t.emu.lockout = none ∧ t.emu.seen = false ∧ t.emu.duress = false ∧ t.emu.elapsed = 0 ∧
      t.emu.code = [] ∧ t.emu.holdTimer = none ∧ t.emu.clearsSent = 0 ∧ t.emu.alarms = []

/-- What a warm start retains (R131, R157, R196 and the start tables), and what it changes of it: PENDING
becomes VACANT, ARMING becomes IDLE, IN_FLIGHT records become UNSENT; a hire found HIRED stands as its last
interval end left it and takes POWER_GAP (R124; the opening and a resume count as one, log 38). The active set
gives way to an image's greater version, and the image's set is taken where no active set is retained (log 44,
the model's choice), the pending set stays above the active, FAULT leaves both, and the complete entries stay,
but for one held only as the open entry (log 19). Where PENDING became VACANT, a pending set so kept is then
active and TARIFF NEW names its version, in a store whose entries are told apart (R23, R127, R151). -/
def Obligations.WarmStartKeepsTheRetainedArea : Prop :=
  (∀ (i : StartInput) (s : State),
    startArises i.event s = true → powered (startLine i.event s) = true → coldStart i s = false →
    ∃ t, exec (.start i) s = .next t ∧
      t.stc.phase = .lampTest ∧
      t.stc.startCause = (if s.stc.powerLost || i.event = .powerReturned then .warmPower else .warmReset) ∧
      t.stc.pendingCause = some t.stc.startCause ∧
      t.stc.retStation = s.stc.retStation ∧ t.stc.retFleet = s.stc.retFleet ∧
      t.dtc.duty = (if s.dtc.duty = .pending then .vacant else s.dtc.duty) ∧
      t.dtc.vacantSeconds = (if s.dtc.duty = .pending then 0 else s.dtc.vacantSeconds) ∧
      t.dtc.fixValid = false ∧ t.dtc.posAge = 0 ∧ t.dtc.timeValid = false ∧
      t.dtc.job = s.dtc.job.map (fun j => { j with confirmWait := false }) ∧
      t.fre.seq = s.fre.seq ∧ t.fre.pendingAck = none ∧ t.fre.counters = ⟨0, 0, 0, 0, 0⟩ ∧
      t.cau.queue = [] ∧ t.cau.held = none ∧ t.cau.inService = none ∧
      t.cau.mask = (if t.emu.state = .idle then 4 else 1) ∧
      t.nbt.neighbours = [] ∧ t.nbt.homeLevel = false ∧ t.nbt.dups = [] ∧ t.nbt.relays = [] ∧
      t.ocu.offers = [] ∧
      t.fmr.hire = s.fmr.hire.map (fun h =>
        if s.dtc.duty = .hired then
          { s.fmr.atInterval.getD h with
            intervalMetres := 0
            flags := { (s.fmr.atInterval.getD h).flags with powerGap := true } }
        else { h with intervalMetres := 0 }) ∧
      t.fmr.intervalSince = none ∧
      t.tlu.log = updateWhere (·.state = .inFlight) (fun r => { r with state := .unsent }) s.tlu.log ∧
      t.tlu.hold = none ∧ t.tlu.totals = s.tlu.totals ∧ t.tlu.implausible = s.tlu.implausible ∧
      t.tlu.shiftStart = s.tlu.shiftStart ∧ t.tlu.staging = none ∧
      t.mst.replyCounter = s.mst.replyCounter ∧ t.mst.openEntry = none ∧
      t.emu.state = (if s.emu.state = .arming then .idle else s.emu.state) ∧
      t.emu.ownSerial = s.emu.ownSerial ∧ t.emu.attempts = s.emu.attempts ∧
      t.emu.lockout = s.emu.lockout ∧ t.emu.firstSerial = none ∧
      (t.emu.seen = true ↔ t.emu.state = .acknowledged) ∧ (t.emu.duress = true ↔ t.emu.state = .covert) ∧
      t.emu.elapsed = 0 ∧ t.emu.alarms = []) ∧
  ∀ (i : StartInput) (s : State),
    startArises i.event s = true → powered (startLine i.event s) = true → coldStart i s = false →
    let kept := (s.mst.entries.filter (keptAtStart s.mst.openEntry)).map (replyBecomes .failed)
    ∃ t active pendingSet, exec (.start i) s = .next t ∧
      (imageAccepted i.image = false → active = s.tlu.active ∧ pendingSet = s.tlu.pendingSet) ∧
      (imageAccepted i.image = true →
        ∃ a, active = some a ∧
          a = (match s.tlu.active with
            | some old =>
              if old.version < (decodeImageSet i.image.setBytes).version then decodeImageSet i.image.setBytes
              else old
            | none => decodeImageSet i.image.setBytes) ∧
          pendingSet = s.tlu.pendingSet.filter fun p => a.version < p.version) ∧
      (s.dtc.duty ≠ .pending ∨ pendingSet = none →
        t.tlu.active = active ∧ t.tlu.pendingSet = pendingSet ∧ t.mst.entries = kept) ∧
      ∀ p, s.dtc.duty = .pending → pendingSet = some p →
        t.tlu.active = some p ∧ t.tlu.pendingSet = none ∧
        (StoreWf s → StoreKeysOnce s →
          t.mst.entries = storeWithNotice
            { entry := s.mst.nextMsg, name := .notice .tariffNew, kind := .system, state := .unread,
              pin := false, replyWanted := false, count := 1,
              segments := [(1, codes "TARIFF NEW V" ++ dec p.version)], assemblyAge := 0, listAge := 0,
              validityMinutes := 0, validityLeft := none, expired := false, reply := none } kept)

/-- The image check decides FAULT (R195): a match of both CRCs, a fleet code other than 0, an own station of
1 to 3,839, and none of the six items without a default absent. An accepted image gives a copy within its
limits: each item as read, one outside its limits at the nearer limit, an absent one at its default (R157,
R178). In FAULT the copy holds the fleet code and own station as read. The image comes as decoded values (log
6). -/
def Obligations.ImageCheckGivesFaultOrClampedCopy : Prop :=
  ∀ (i : StartInput) (s : State),
    startArises i.event s = true → powered (startLine i.event s) = true →
    ∃ t, exec (.start i) s = .next t ∧
      (t.stc.fault = false ↔
        i.image.crcMatches = true ∧ crc16 i.image.setBytes = i.image.setCrc ∧
        i.image.setBytes.length = 92 ∧ i.image.fleet.value ≠ 0 ∧
        1 ≤ i.image.ownStation.value ∧ i.image.ownStation.value ≤ 3839 ∧
        i.image.ownStation.absent = false ∧ i.image.fleet.absent = false ∧
        i.image.home.absent = false ∧ i.image.pulsesPerKm.absent = false ∧
        i.image.rounding.absent = false ∧ i.image.cancelCode.absent = false) ∧
      (t.stc.fault = true →
        t.stc.config.fleet = i.image.fleet.value ∧ t.stc.config.ownStation = i.image.ownStation.value) ∧
      (t.stc.fault = false →
        t.stc.config.fleet = copied i.image.fleet 1 65535 0 ∧
        t.stc.config.home = copied i.image.home 3840 4095 0 ∧
        t.stc.config.pulsesPerKm = copied i.image.pulsesPerKm 500 25000 0 ∧
        t.stc.config.cancelCode = copied i.image.cancelCode 0 9999 0 ∧
        t.stc.config.duressCode =
          (if i.image.duressCode.absent = true ∨
              copied i.image.duressCode 0 9999 0 = copied i.image.cancelCode 0 9999 0 then none
            else some (copied i.image.duressCode 0 9999 0)) ∧
        (∀ r ∈ [1, 5, 10],
          let far := fun n => max i.image.rounding.value n - min i.image.rounding.value n
          far t.stc.config.rounding < far r ∨
            far t.stc.config.rounding = far r ∧ r ≤ t.stc.config.rounding) ∧
        t.stc.config.tBeacon = copied i.image.tBeacon 10 120 30 ∧
        t.stc.config.tNbAge = copied i.image.tNbAge 30 300 90 ∧
        t.stc.config.tReach = copied i.image.tReach 60 600 180 ∧
        t.stc.config.tAccept = copied i.image.tAccept 5 30 12 ∧
        t.stc.config.tConfirm = copied i.image.tConfirm 2 20 6 ∧
        t.stc.config.wv = copied i.image.wv 0 31 4 ∧
        t.stc.config.mmax = copied i.image.mmax 20 100 70 ∧
        t.stc.config.tHoldMs = copied i.image.tHoldMs 500 5000 2000 ∧
        t.stc.config.senseLevel = copied i.image.senseLevel 1 3 2 ∧
        t.stc.config.relayEnable = (i.image.relayEnable.absent || i.image.relayEnable.value ≠ 0) ∧
        t.stc.config.console =
          { dayLevel := copied i.image.dayLevel 0 15 15, nightLevel := copied i.image.nightLevel 0 15 8,
            nightStart := copied i.image.nightStart 0 1439 0, nightEnd := copied i.image.nightEnd 0 1439 0,
            dimming := i.image.dimming.absent || i.image.dimming.value ≠ 0,
            keyClick := i.image.keyClick.absent || i.image.keyClick.value ≠ 0,
            roofAlarm := i.image.roofAlarm.absent || i.image.roofAlarm.value ≠ 0 } ∧
        t.mst.phrases = i.image.phrases.map (fun p => (p.getD []).take 40) ∧
        t.stc.config.ownStation = i.image.ownStation.value ∧
        1 ≤ t.stc.config.fleet ∧ t.stc.config.fleet ≤ 65535 ∧
        3840 ≤ t.stc.config.home ∧ t.stc.config.home ≤ 4095 ∧
        500 ≤ t.stc.config.pulsesPerKm ∧ t.stc.config.pulsesPerKm ≤ 25000 ∧
        (t.stc.config.rounding = 1 ∨ t.stc.config.rounding = 5 ∨ t.stc.config.rounding = 10) ∧
        t.stc.config.cancelCode ≤ 9999 ∧
        (∀ d, t.stc.config.duressCode = some d → d ≤ 9999 ∧ d ≠ t.stc.config.cancelCode) ∧
        10 ≤ t.stc.config.tBeacon ∧ t.stc.config.tBeacon ≤ 120 ∧
        30 ≤ t.stc.config.tNbAge ∧ t.stc.config.tNbAge ≤ 300 ∧
        60 ≤ t.stc.config.tReach ∧ t.stc.config.tReach ≤ 600 ∧
        5 ≤ t.stc.config.tAccept ∧ t.stc.config.tAccept ≤ 30 ∧
        2 ≤ t.stc.config.tConfirm ∧ t.stc.config.tConfirm ≤ 20 ∧
        t.stc.config.wv ≤ 31 ∧ 20 ≤ t.stc.config.mmax ∧ t.stc.config.mmax ≤ 100 ∧
        500 ≤ t.stc.config.tHoldMs ∧ t.stc.config.tHoldMs ≤ 5000 ∧
        1 ≤ t.stc.config.senseLevel ∧ t.stc.config.senseLevel ≤ 3 ∧
        t.stc.config.console.dayLevel ≤ 15 ∧ t.stc.config.console.nightLevel ≤ 15 ∧
        t.stc.config.console.nightStart ≤ 1439 ∧ t.stc.config.console.nightEnd ≤ 1439)

/-- The end of the lamp test with the emergency state IDLE and the button not pressed: the 4120 runs, the
engine hunts, the slot clock starts, the power state is PARK where its conditions hold, the scanner takes the
keys in contact, the beacon timer is loaded unless QUIET or FAULT forbid it, and the interval timer of a hire
found HIRED runs; the records of the other blocks stay (R194, R29, R65, R124, R169, R174, R199). The clock is
log 2, the order of power state and beacon reload log 18. -/
def Obligations.LampTestEndBeginsTheBlocks : Prop :=
  ∀ s : State, s.stc.phase = .lampTest → s.emu.state = .idle → s.lines.alarmPressed = false →
    ∃ t, exec .lampTestEnd s = .next t ∧
      t.stc.phase = .running ∧ t.now = max s.now (s.stc.phaseSince + 1000) ∧ t.fre.rx = .hunt ∧
      t.slotAt = t.now ∧
      t.stc.power = (if s.parkConditions then .park else s.stc.power) ∧
      (s.parkConditions = true → t.cns.level = 0) ∧
      (s.parkConditions = false → t.cns.level = targetLevel t ∧ t.cns.target = targetLevel t) ∧
      t.cns.scanner = (match s.cns.contacts with
        | [] => .free
        | [k] => .settling k t.now
        | _ :: _ :: _ => .locked) ∧
      t.cau.beaconLoaded = (s.cau.beaconLoaded || (!s.lines.quiet && !s.stc.fault)) ∧
      t.fmr.intervalSince =
        (if s.dtc.duty = .hired && s.fmr.hire.isSome && !s.stc.fault then some t.now
         else s.fmr.intervalSince) ∧
      t.dtc = s.dtc ∧ t.fmr.hire = s.fmr.hire ∧ t.tlu = s.tlu ∧ t.mst = s.mst ∧ t.ocu = s.ocu ∧
      t.nbt = s.nbt ∧ t.emu.state = .idle ∧ t.cau.queue = s.cau.queue

/-- A button already pressed at the end of the lamp test starts ARMING, and a retained emergency state takes
up its schedule (R193, R194, R179). That the ALARM line is taken before the power state is log 18, the slow
period after a resumed ACTIVE's fast phase log 37, the clock log 2. -/
def Obligations.LampTestEndTakesUpTheEmergency : Prop :=
  ∀ s : State, s.stc.phase = .lampTest → s.stc.fault = false →
    ∃ t, exec .lampTestEnd s = .next t ∧ t.stc.phase = .running ∧
      (s.emu.state = .idle → s.lines.alarmPressed = true →
        t.emu.state = .arming ∧ t.cau.mask = 1 ∧ t.emu.holdTimer = some ⟨t.now, false⟩) ∧
      (s.emu.state = .active →
        t.emu.state = .active ∧ t.emu.schedule = some ⟨.fast 5, 30000, t.now + 5000⟩ ∧
        t.stc.power = s.stc.power) ∧
      (s.emu.state = .acknowledged →
        t.emu.state = .acknowledged ∧ t.emu.schedule = some ⟨.slow, 60000, t.now + 60000⟩) ∧
      (s.emu.state = .covert →
        t.emu.state = .covert ∧ t.emu.schedule = some ⟨.slow, 30000, t.now + 30000⟩) ∧
      (s.emu.state = .active ∨ s.emu.state = .acknowledged ∨ s.emu.state = .covert →
        s.cau.queue = [] → ∃ e, t.cau.queue = [e] ∧ e.req = ownAlarmRequest .alarm) ∧
      (s.emu.state = .clearing →
        t.emu.state = .clearing ∧ t.emu.schedule = s.emu.schedule ∧
        (s.cau.queue = [] → ∃ e, t.cau.queue = [e] ∧ e.req = ownAlarmRequest .alarmClear))

/-- Loss of main power and RESET stop the 4120: nothing is on the air, TXD stands at 1, the scanner is off, the
buzzer silent and the lamps dark, a running lockout stands with its time left, and what a warm start retains
stays (R24, R194, R196; log 27 for the outputs). -/
def Obligations.PowerLossAndResetStopTheBlock : Prop :=
  ∀ s : State, ∀ c ∈ [Instr.mainPowerLoss, Instr.resetAsserted],
    ∃ t, exec c s = .next t ∧
      t.stc.phase = .halted ∧ t.fre.onAir = none ∧ t.fre.ackTx = none ∧ t.fre.pendingAck = none ∧
      t.cau.inService = none ∧ t.txKey = false ∧ t.txd = true ∧ t.fre.rx = .off ∧ t.cns.scanner = .off ∧
      t.cns.buzzer = none ∧ t.cns.lamps = Lamps.all .dark ∧ t.fmr.intervalSince = none ∧
      t.dtc = s.dtc ∧ t.fmr.hire = s.fmr.hire ∧ t.tlu = s.tlu ∧ t.mst = s.mst ∧ t.fre.seq = s.fre.seq ∧
      t.emu.state = s.emu.state ∧ t.emu.ownSerial = s.emu.ownSerial ∧ t.emu.attempts = s.emu.attempts ∧
      (∀ deadline, s.emu.lockout = some (.running deadline) →
        t.emu.lockout = some (.standing (deadline - s.now))) ∧
      t.stc.retStation = s.stc.retStation ∧ t.stc.retFleet = s.stc.retFleet ∧ t.now = s.now ∧
      (c = .mainPowerLoss → t.lines.mainPower = false ∧ t.stc.powerLost = true ∧
        t.lines.resetAsserted = s.lines.resetAsserted) ∧
      (c = .resetAsserted → t.lines.resetAsserted = true ∧ t.lines.mainPower = s.lines.mainPower ∧
        t.stc.powerLost = s.stc.powerLost)

/-! ## Clocks and lines -/

/-- A 1 s tick while the 4120 runs: vacant seconds, time of day, position age, the NBT's ticks, the ages of
the store, the elapsed count, the beacon count, the backlight's target (R19, R20, R21, R64, R70, R146, R150,
R166, R178). The clock is log 2, the phase of the tick log 28. -/
def Obligations.OneSecondTickCounts : Prop :=
  ∀ s : State, s.running = true →
    ∃ t, exec .oneSecondTick s = .next t ∧
      t.dtc = { s.dtc with
        vacantSeconds := min 15300 (s.dtc.vacantSeconds + 1)
        timeOfDay :=
          if s.dtc.timeValid then (if s.dtc.timeOfDay ≥ 86399 then 0 else s.dtc.timeOfDay + 1)
          else s.dtc.timeOfDay
        posAge := if s.dtc.fixValid then min 10 (s.dtc.posAge + 1) else s.dtc.posAge } ∧
      t.nbt = { s.nbt with ticks := s.nbt.ticks + 1 } ∧
      t.mst = { s.mst with entries := s.mst.entries.map fun e =>
        if e.state = .assembling then { e with assemblyAge := min 30 (e.assemblyAge + 1) }
        else { e with listAge := min 65535 (e.listAge + 1), validityLeft := e.validityLeft.map (· - 1) } } ∧
      t.emu = { s.emu with elapsed :=
        if !s.stc.fault && s.emu.state.takesCode then min 65535 (s.emu.elapsed + 1) else s.emu.elapsed } ∧
      t.cau.beaconCount = (if beaconRuns s then s.cau.beaconCount - 1 else s.cau.beaconCount) ∧
      (s.stc.power = .run → t.cns.target = targetLevel t) ∧
      t.now = max s.now (s.tickAt + 1000) ∧ t.tickAt = s.tickAt + 1000 ∧
      t.fre = s.fre ∧ t.ocu = s.ocu ∧ t.fmr = s.fmr ∧ t.tlu = s.tlu ∧ t.lines = s.lines ∧
      t.cau.queue = s.cau.queue ∧ t.cau.rng = s.cau.rng

/-- A tick of the slot clock: the generator takes its next state, the delays of relays in DELAY count down,
SENSE is sampled against the three thresholds (R57, R76, R200). The clock is log 2; that the two supply rows
act in one direction each is log 22. -/
def Obligations.SlotTickAdvancesGeneratorRelaysAndSense : Prop :=
  (∀ (mv : Nat) (s : State), s.running = true →
    ∃ t, exec (.slotClockTick mv) s = .next t ∧
      (∀ n : Nat, n < 15 → t.cau.rng.getLsbD n =
        if n = 0 then s.cau.rng.getLsbD 14 != s.cau.rng.getLsbD 13 else s.cau.rng.getLsbD (n - 1)) ∧
      t.nbt = { s.nbt with relays := s.nbt.relays.map fun r =>
        if r.state = .delay then { r with slotsLeft := r.slotsLeft - 1 } else r } ∧
      t.lines.senseMv = mv ∧
      t.stc.supply = (match s.stc.supply with
        | .normal => if mv < fallingMv (senseLevelNow s) then .low else .normal
        | .low => if risingMv (senseLevelNow s) < mv then .normal else .low) ∧
      t.now = max s.now (s.slotAt + 20) ∧ t.slotAt = s.slotAt + 20 ∧
      t.dtc = s.dtc ∧ t.fre = s.fre ∧ t.ocu = s.ocu ∧ t.fmr = s.fmr ∧ t.tlu = s.tlu ∧ t.mst = s.mst ∧
      t.emu = s.emu ∧ t.cau.queue = s.cau.queue) ∧
  (fallingMv 1, risingMv 1, fallingMv 2, risingMv 2, fallingMv 3, risingMv 3) =
    (950, 1000, 1000, 1050, 1050, 1100) ∧
  ∀ (mv : Nat) (s : State), s.running = true →
    Gives (.supplyLow mv) s
      (if s.stc.supply = .normal ∧ mv < fallingMv (senseLevelNow s) then
        { s with stc := { s.stc with supply := .low }, lines := { s.lines with senseMv := mv } }
       else s) ∧
    Gives (.supplyNormal mv) s
      (if s.stc.supply = .low ∧ risingMv (senseLevelNow s) < mv then
        { s with stc := { s.stc with supply := .normal }, lines := { s.lines with senseMv := mv } }
       else s)

/-- A NAV record: a valid one sets the time of day and sets or clears the position, an invalid one changes
nothing; at an age of 10 s the position goes absent (R18, R20). The tests of a record come as their results
(log 7); the tick of the age is log 3. -/
def Obligations.NavRecordAndAgeMovePosition : Prop :=
  (∀ s : State, s.running = true →
    Gives .positionStale s
      (if s.dtc.fixValid = true ∧ 10 ≤ s.dtc.posAge then { s with dtc := { s.dtc with fixValid := false } }
       else s)) ∧
  ∀ (r : NavRecord) (s : State), s.running = true →
    ∃ t, exec (.navRecord r) s = .next t ∧
      (r.markerBegins = true ∧ r.allFields = true ∧ r.checkMatches = true ∧ r.timeOfDay ≤ 86399 ∧
        (r.fix = .fix ∨ r.fix = .noFix) →
        t.dtc.timeOfDay = r.timeOfDay ∧ t.dtc.timeValid = true ∧
        (r.fix = .fix → t.dtc.pos = r.position ∧ t.dtc.fixValid = true ∧ t.dtc.posAge = 0) ∧
        (r.fix = .noFix → t.dtc.fixValid = false ∧ t.dtc.posAge = s.dtc.posAge)) ∧
      (¬(r.markerBegins = true ∧ r.allFields = true ∧ r.checkMatches = true ∧ r.timeOfDay ≤ 86399 ∧
        (r.fix = .fix ∨ r.fix = .noFix)) → Settled s t) ∧
      t.dtc.duty = s.dtc.duty ∧ t.dtc.vacantSeconds = s.dtc.vacantSeconds ∧ t.dtc.job = s.dtc.job ∧
      t.fre = s.fre ∧ t.nbt = s.nbt ∧ t.ocu = s.ocu ∧ t.fmr = s.fmr ∧ t.tlu = s.tlu ∧ t.mst = s.mst ∧
      t.emu = s.emu ∧ t.now = s.now ∧ t.cau.queue = s.cau.queue

/-- QUIET: its assertion abandons the contests, its release reloads the beacon timer (R197, R102, R65). An
abandoned entry becomes PASSED with its deadline cleared; for a sent BID a WITHDRAW stands in a queue with
room; a queued BID leaves it, and one in service is marked for removal. The access procedure turns to
INHIBITED from every phase of its own but an IDLE left without an unmasked entry, goes on with a frame in
service, and returns to DEFER at the release (R52, R59). That it is INHIBITED too where the assertion takes
the last unmasked entry is the model's deduction, log 33. -/
def Obligations.QuietAbandonsContestsAndReloadsBeacon : Prop :=
  ∀ s : State, s.running = true → (s.ocu.offers.map (·.id)).Nodup →
    (s.lines.quiet = false →
      ∃ t, exec .quietAsserted s = .next t ∧ t.lines = { s.lines with quiet := true } ∧
        NoContestRuns t ∧ (∀ e ∈ s.ocu.offers, e.state.running = false → ∃ f ∈ t.ocu.offers,
          f.id = e.id ∧ f.state = e.state) ∧
        (∀ e ∈ s.ocu.offers, e.state.running = true →
          (∃ f ∈ t.ocu.offers, f.id = e.id ∧ f.state = .passed ∧ f.delayDeadline = none) ∧
          (QueueWf s → s.cau.queue.length + s.ocu.offers.length ≤ 16 →
            (e.bidFrame = .sent →
              (∀ q ∈ s.cau.queue, q.req.kind = .bid → q.req.tag = .offer e.id → s.isInService q = true) →
              ∃ q ∈ t.cau.queue, q.req.kind = .withdraw ∧ q.req.tag = .offer e.id) ∧
            ∀ q, e.bidFrame = .inQueue →
              s.cau.queue.find? (fun x => x.req.kind = .bid && x.req.tag = .offer e.id) = some q →
              (s.isInService q = false → ∀ x ∈ t.cau.queue, x.number ≠ q.number) ∧
              (s.isInService q = true → q ∈ t.cau.queue ∧
                t.cau.inService = s.cau.inService.map fun r => { r with deferred := true }))) ∧
        (s.cau.inService ≠ none → accessState t = accessState s) ∧
        (s.cau.inService = none → s.cau.access.phase ≠ .idle ∨ bestEntry t ≠ none →
          accessState t = .inhibited ∧ t.cau.access.candidate = (bestEntry t).map (·.number)) ∧
        t.dtc = s.dtc ∧ t.fre = s.fre ∧ t.fmr = s.fmr ∧ t.cns.view = s.cns.view ∧
        t.cau.beaconCount = s.cau.beaconCount) ∧
    (s.lines.quiet = true →
      ∃ t, exec .quietReleased s = .next t ∧
        (s.cau.inService = none → s.cau.access.phase = .inhibited → ReturnedToDefer t) ∧
        Settled
          (if s.stc.fault then { s with lines := { s.lines with quiet := false } }
           else { s with
            lines := { s.lines with quiet := false }
            cau := { s.cau with
              beaconCount := (if s.stc.power = .park then 4 * s.stc.config.tBeacon else s.stc.config.tBeacon) +
                s.cau.rng.toNat % (s.stc.config.tBeacon / 4 + 1)
              beaconLoaded := true } }) t)

/-- IGN and the park timer: IGN on clears the timer and ends PARK, IGN off starts it in OFF_SHIFT and BREAK
without an emergency, its end enters PARK with the display dark (R199, R168, R176). The clock is log 2; that
the timer stands stopped in PARK is log 41. -/
def Obligations.IgnitionAndParkTimerMovePower : Prop :=
  ∀ s : State, s.running = true →
    (∃ t, exec .ignOn s = .next t ∧ t.lines = { s.lines with ignOn := true } ∧ t.stc.power = .run ∧
      t.stc.parkSince = none ∧ (s.stc.power = .park → t.cns.wakeSince = none) ∧
      t.dtc = s.dtc ∧ t.fre = s.fre ∧ t.nbt = s.nbt ∧ t.ocu = s.ocu ∧ t.fmr = s.fmr ∧ t.tlu = s.tlu ∧
      t.mst = s.mst ∧ t.emu = s.emu) ∧
    (∃ t, exec .ignOff s = .next t ∧ Settled { s with lines := { s.lines with ignOn := false } } t ∧
      (s.stc.power = .run → s.dtc.duty = .offShift ∨ s.dtc.duty = .onBreak → s.emu.state = .idle →
        t.stc.parkSince = some (s.stc.parkSince.getD s.now))) ∧
    (∀ since, s.stc.parkSince = some since → s.stc.power = .run → s.parkConditions = true →
      ∃ t, exec .parkTimerExpiry s = .next t ∧ t.stc.power = .park ∧ t.stc.parkSince = none ∧
        t.now = max s.now (since + 60000) ∧ t.cns.view = .none ∧ t.cns.keyPrefix = none ∧
        t.cns.level = 0 ∧ t.cns.display = blankDisplay ∧ t.mst.openEntry = none ∧
        t.cns.buzzer = s.cns.buzzer.filter (·.1 = .alarmNear) ∧
        t.dtc = s.dtc ∧ t.fre = s.fre ∧ t.nbt = s.nbt ∧ t.ocu = s.ocu ∧ t.fmr = s.fmr ∧ t.tlu = s.tlu ∧
        t.emu = s.emu)

/-! ## The keypad and the console -/

/-- The scanner's moves on contacts and releases (R169): the first contact settles, a second locks, a
release before the debounce frees, and 20 ms without contact free HELD and LOCKED. The clock is log 2; a
contact that is made twice, and a release of a key without contact, are log 9. -/
def Obligations.ScannerFollowsContacts : Prop :=
  ∀ (k : Key) (s : State), s.running = true →
    (∃ t, exec (.keyContact k) s = .next t ∧ k ∈ t.cns.contacts ∧
      (∀ j ∈ s.cns.contacts, j ∈ t.cns.contacts) ∧
      t.cns.scanner = (match s.cns.scanner with
        | .free => .settling k s.now
        | .settling j since => if j = k then .settling j since else .locked
        | .held j down due => .held j down due
        | .locked => .locked
        | .off => .off) ∧
      ((∃ j down due, s.cns.scanner = .held j down due) ∨ s.cns.scanner = .locked →
        t.cns.releaseSince = none) ∧
      t.dtc = s.dtc ∧ t.emu = s.emu ∧ t.now = s.now) ∧
    (∃ t, exec (.keyRelease k) s = .next t ∧ t.cns.contacts = s.cns.contacts.filter (· ≠ k) ∧
      t.cns.scanner = (match s.cns.scanner with
        | .free => .free
        | .settling j since => if j = k then .free else .settling j since
        | .held j down due => .held j (down && j ≠ k) due
        | .locked => .locked
        | .off => .off) ∧
      ((∃ j down due, s.cns.scanner = .held j down due) ∨ s.cns.scanner = .locked →
        t.cns.contacts = [] → t.cns.releaseSince = some s.now) ∧
      t.dtc = s.dtc ∧ t.emu = s.emu ∧ t.now = s.now) ∧
    (∀ since, s.cns.releaseSince = some since → s.cns.contacts = [] → waitsForRelease s = true →
      Gives .keyReleaseWaitEnd s
        { s with now := max s.now (since + 20),
                 cns := { s.cns with scanner := .free, releaseSince := none } })

/-- A held UP or DOWN repeats (R170): the next repeat is due 150 ms later, and at the due moment the pointer
of the view shown, whose limit the repeat does not change, moves as the first event moves it; in LIST the
selection moves with it (R164). The clock is log 2. -/
def Obligations.HeldArrowRepeats : Prop :=
  ∀ (k : Key) (due : Moment) (s : State), s.running = true → s.stc.power = .run →
    k = .up ∨ k = .down → s.cns.scanner = .held k true due →
    ∃ t, exec .keyRepeat s = .next t ∧ t.now = max s.now due ∧
      t.cns.scanner = .held k true (due + 150) ∧ t.cns.keyPrefix = none ∧
      (∀ v, viewShown s = some v → s.cns.shown = some v → v ≠ .list →
        s.cns.pointers.get v ≤ pointerLimit s v → pointerLimit t v = pointerLimit s v →
        t.cns.pointers.get v =
          if k = .up then s.cns.pointers.get v - 1
          else min (pointerLimit s v) (s.cns.pointers.get v + 1)) ∧
      (StoreWf s → viewShown s = some .list → s.cns.shown = some .list →
        s.cns.pointers.list ≤ pointerLimit s .list →
        t.cns.pointers.list =
          (if k = .up then s.cns.pointers.list - 1
           else min (s.messageList.length - 1) (s.cns.pointers.list + 1)) ∧
        t.cns.selection = (s.messageList[t.cns.pointers.list]?).map (·.entry)) ∧
      t.dtc = s.dtc ∧ t.fmr = s.fmr ∧ t.mst = s.mst ∧ t.emu = s.emu

/-- In PARK with the display dark an accepted key only wakes it: the status row on row 0, rows 1 to 7 blank,
the night level, the wake timer from this moment, and no click (R168, R176); the timer's end darkens it again.
The clock is log 2. -/
def Obligations.DarkDisplayWakesOnAnyKey : Prop :=
  ∀ s : State, s.running = true → s.stc.power = .park →
    (∀ k, canAccept k s = true → s.cns.wakeSince = none →
      ∃ t, exec (keyCommand k) s = .next t ∧
        t.cns.wakeSince = some t.now ∧ t.cns.level = t.consoleConfig.nightLevel ∧
        t.cns.display = statusRow t :: List.replicate 7 emptyRow ∧
        t.cns.scanner = .held k true (t.now + 500) ∧ t.cns.buzzer = s.cns.buzzer ∧ t.stc.power = .park ∧
        t.dtc = s.dtc ∧ t.fre = s.fre ∧ t.nbt = s.nbt ∧ t.ocu = s.ocu ∧ t.fmr = s.fmr ∧ t.tlu = s.tlu ∧
        t.mst = s.mst ∧ t.emu = s.emu ∧ t.cau.queue = s.cau.queue) ∧
    (∀ since, s.cns.wakeSince = some since →
      ∃ t, exec .wakeTimerExpiry s = .next t ∧ t.now = max s.now (since + 30000) ∧
        t.cns.wakeSince = none ∧ t.cns.level = 0 ∧ t.cns.display = blankDisplay ∧
        t.dtc = s.dtc ∧ t.mst = s.mst ∧ t.emu = s.emu)

/-- A duty key or prefix key that is not available in the duty state is refused, ACCEPT where no emergency
routes it to the EMU: the prefix is dropped and ERROR is requested, and nothing else follows (R14, R15, R16).
The key clicks where key click is enabled. In RUN outside an emergency ERROR then plays from the key's moment,
unless ALARM_NEAR, OFFER or ERROR was playing, which runs on; elsewhere the buzzer stays as it was (R171, R175,
R176). -/
def Obligations.UnavailableKeyIsRefused : Prop :=
  ∀ (k : Key) (s : State), keyTaken k s = true → keyAvailable k s.dtc.duty = false →
    (k = .accept → s.emu.state = .idle) →
    ∃ u t, KeyHeard k none s u ∧ exec (keyCommand k) s = .next t ∧ Settled (refused u) t ∧
      (s.stc.power = .run → s.emu.state = .idle →
        t.cns.buzzer = match s.cns.buzzer with
          | some (.alarmNear, since) => some (.alarmNear, since)
          | some (.offer, since) => some (.offer, since)
          | some (.error, since) => some (.error, since)
          | some (.message, _) | some (.click, _) | none => some (.error, t.now)) ∧
      (s.stc.power = .park ∨ s.emu.state ≠ .idle → t.cns.buzzer = s.cns.buzzer)

/-- SHIFT in OFF_SHIFT starts a shift: VACANT, the totals at 0, the shift's start minute. SHIFT in VACANT
ends it with a SHIFT record of the totals and counters, the counters zeroed in the same act, unless all 64
records are unreported. Every start zeroes the counters too (R2, R8, R9, R41, R134, R137, R138). -/
def Obligations.ShiftKeyStartsAndEndsTheShift : Prop :=
  (∀ s : State, keyTaken .shift s = true → s.dtc.duty = .offShift →
    ∃ t, exec .shift s = .next t ∧ EntersVacant s t ∧
      t.tlu.totals = ⟨0, 0, 0, 0, 0, 0⟩ ∧ t.tlu.implausible = 0 ∧ t.tlu.shiftStart = s.minute ∧
      t.tlu.log = s.tlu.log ∧ t.stc.power = .run ∧ t.fre = s.fre ∧ t.nbt = s.nbt ∧ t.ocu = s.ocu ∧
      t.fmr = s.fmr ∧ t.emu = s.emu ∧ t.dtc.job = s.dtc.job) ∧
  (∀ (i : StartInput) (s : State), startArises i.event s = true → powered (startLine i.event s) = true →
    ∃ t, exec (.start i) s = .next t ∧ t.fre.counters = ⟨0, 0, 0, 0, 0⟩) ∧
  ∀ s : State, keyTaken .shift s = true → s.dtc.duty = .vacant → s.tlu.log.length ≤ 64 →
    (unreported s < 64 →
      ∃ t, exec .shift s = .next t ∧ t.dtc = { s.dtc with duty := .offShift } ∧
        (∃ r ∈ t.tlu.log, r.number = s.tlu.nextRecord ∧ r.body = .shift
          { startMinute := s.tlu.shiftStart, endMinute := s.minute, totals := s.tlu.totals,
            counters := s.fre.counters, implausible := s.tlu.implausible }) ∧
        t.fre = { s.fre with counters := ⟨0, 0, 0, 0, 0⟩ } ∧ t.tlu.totals = s.tlu.totals ∧
        t.tlu.implausible = s.tlu.implausible ∧ AppliesPendingSet s t ∧ NoContestRuns t ∧
        t.fmr = s.fmr ∧ t.emu = { s.emu with clearDue := t.emu.clearDue }) ∧
    (¬unreported s < 64 →
      ∃ t, exec .shift s = .next t ∧ t.dtc = s.dtc ∧ t.fre = s.fre ∧ t.tlu = s.tlu ∧ t.ocu = s.ocu ∧
        t.fmr = s.fmr ∧ t.nbt = s.nbt ∧ t.emu = s.emu ∧
        (hasPlace s = true → ∃ e ∈ t.mst.entries, e.name = .notice .logFull ∧ e.state = .unread))

/-- HIRE opens a hire in VACANT and ASSIGNED, with the flag fall as its fare and the job's offer id only from
ASSIGNED. In FAULT it is refused. With 63 or more records unreported it opens nothing, and the notice LOG
FULL stands in the store where the store has a place (R3, R16, R107, R134). -/
def Obligations.HireOpensNewHireOrIsRefused : Prop :=
  (∀ s : State, keyTaken .hire s = true → s.dtc.duty = .vacant ∨ s.dtc.duty = .assigned →
    (s.stc.fault = true →
      ∃ u t, KeyHeard .hire none s u ∧ exec .hire s = .next t ∧ Settled (refused u) t) ∧
    (s.stc.fault = false → ¬unreported s < 63 →
      ∃ t, exec .hire s = .next t ∧ t.dtc = s.dtc ∧ t.fmr = s.fmr ∧ t.tlu = s.tlu ∧ t.ocu = s.ocu ∧
        t.fre = s.fre ∧ t.nbt = s.nbt ∧ t.emu = s.emu ∧
        (hasPlace s = true → ∃ e ∈ t.mst.entries, e.name = .notice .logFull ∧ e.state = .unread))) ∧
  ∀ (s : State) (a : TariffSet), keyTaken .hire s = true → s.dtc.duty = .vacant ∨ s.dtc.duty = .assigned →
    s.stc.fault = false → unreported s < 63 → s.tlu.active = some a →
    ∃ t h, exec .hire s = .next t ∧ t.fmr.hire = some h ∧ t.dtc = { s.dtc with duty := .hired } ∧
      h.state = .opened ∧ h.startTime = s.time ∧ h.endTime = none ∧
      h.offerId = (if s.dtc.duty = .assigned then s.dtc.job.map (·.id) else none) ∧
      h.closed = [] ∧ h.current.tariffId = firstTariff a s.minute ∧
      h.current.ad = 0 ∧ h.current.at_ = 0 ∧ h.current.nd = 0 ∧ h.current.nt = 0 ∧
      h.current.distanceCounter = h.current.rates.d0 + h.current.rates.ud ∧
      h.current.timeCounter = h.current.rates.t0 + h.current.rates.ut ∧
      (∀ r, a.enabledRates (firstTariff a s.minute) = some r → h.current.rates = r) ∧
      h.extras = [] ∧ h.extrasTable = a.extras ∧ h.pulsesPerKm = s.stc.config.pulsesPerKm ∧
      h.mmax = s.stc.config.mmax ∧ h.rounding = s.stc.config.rounding ∧
      h.intervalMetres = 0 ∧ h.residue = 0 ∧ h.totalMetres = 0 ∧
      h.flags = ⟨false, false, false, false⟩ ∧ h.fare = h.current.rates.f ∧ h.payable = none ∧
      t.fmr.intervalSince = some t.now ∧ (s.dtc.duty = .vacant → NoContestRuns t) ∧
      (s.dtc.duty = .assigned → t.ocu = s.ocu) ∧ t.fre = s.fre ∧ t.lines = s.lines ∧
      t.emu = { s.emu with clearDue := t.emu.clearDue }

/-- PAY stops the meter with a partial interval that earns no second, its metres counted through the distance
counter, and HIRE in PAYING resumes the hire (R113, R115, R116, R117, R123). What a start goes back to between
a resume and the first interval end is log 38. -/
def Obligations.PayStopsAndHireResumesMeter : Prop :=
  ∀ (s : State) (h : HireRecord), s.fmr.hire = some h →
    (keyTaken .pay s = true → s.dtc.duty = .hired → s.stc.fault = false →
      ∃ t p, exec .pay s = .next t ∧ t.fmr.hire = some p ∧ t.dtc = { s.dtc with duty := .paying } ∧
        t.fmr.intervalSince = none ∧ p.payable = some (payableOf h.rounding p.fare) ∧
        p.totalMetres = h.totalMetres + min (min h.intervalMetres h.mmax) (999999 - h.totalMetres) ∧
        p.waiting = h.waiting ∧ p.residue = h.residue ∧ p.intervalMetres = 0 ∧
        p.fare = min 999999 p.fareSum ∧ p.extras = h.extras ∧ p.closed = h.closed ∧
        p.current.nt = h.current.nt ∧
        (timeMode h.current.rates (min h.intervalMetres h.mmax) = true → p.current = h.current) ∧
        (timeMode h.current.rates (min h.intervalMetres h.mmax) = false →
          p.current = addMetres (p.totalMetres - h.totalMetres) h.current) ∧
        t.fre = s.fre ∧ t.ocu = s.ocu ∧ t.mst = s.mst ∧ t.emu = s.emu ∧ t.nbt = s.nbt ∧
        t.tlu.log = s.tlu.log ∧ t.tlu.totals = s.tlu.totals) ∧
    (keyTaken .pay s = true → s.dtc.duty = .hired → s.stc.fault = true →
      ∃ u t, KeyHeard .pay none s u ∧ exec .pay s = .next t ∧ Settled { u with
        dtc := { u.dtc with duty := .paying }
        fmr := { u.fmr with
          hire := some { h with intervalMetres := 0, payable := some (payableOf h.rounding h.fare) }
          intervalSince := none } } t) ∧
    (keyTaken .hire s = true → s.dtc.duty = .paying →
      ∃ u t, KeyHeard .hire none s u ∧ exec .hire s = .next t ∧ Settled { u with
        dtc := { u.dtc with duty := .hired }
        fmr := { hire := some { h with intervalMetres := 0, payable := none },
                 intervalSince := if s.stc.fault then none else some u.now
                 atInterval := some { h with intervalMetres := 0, payable := none } } } t)

/-- VACANT in PAYING ends the hire: its HIRE record is appended, the totals are increased, the job record
is cleared with its TAKEN entry, and VACANT is entered (R4, R118, R132, R133, R137, R12). With home dispatch
reachable, nothing IN_FLIGHT and no hold, the oldest UNSENT record, the new one where there is none older, goes
IN_FLIGHT with a FARE asked for; otherwise the new record is UNSENT (R135). -/
def Obligations.VacantEndsHireAndAppendsRecord : Prop :=
  ∀ (s : State) (h : HireRecord), keyTaken .vacant s = true → s.dtc.duty = .paying →
    s.fmr.hire = some h → unreported s ≤ 63 → s.tlu.log.length ≤ 64 →
    ∃ t, exec .vacant s = .next t ∧ EntersVacant s t ∧ t.fmr.hire = none ∧ t.fmr.intervalSince = none ∧
      t.dtc.job = none ∧
      (∀ j, s.dtc.job = some j → ∀ e ∈ t.ocu.offers, ¬(e.id = j.id ∧ e.state = .taken)) ∧
      t.tlu.totals.hires = (if s.tlu.totals.hires ≥ 9999 then 0 else s.tlu.totals.hires + 1) ∧
      t.tlu.totals.payableSum = min 99999999 (s.tlu.totals.payableSum + h.payable.getD 0) ∧
      t.tlu.totals.extrasSum = min 99999999 (s.tlu.totals.extrasSum + h.extrasSum) ∧
      t.tlu.totals.totalMetres = min 99999999 (s.tlu.totals.totalMetres + h.totalMetres) ∧
      t.tlu.totals.paidMetres = min 99999999 (s.tlu.totals.paidMetres + h.paidMetres) ∧
      t.tlu.totals.waiting = min 99999999 (s.tlu.totals.waiting + h.waiting) ∧
      (∃ r ∈ t.tlu.log, r.number = s.tlu.nextRecord ∧ r.body = .hire
        { hireNumber := t.tlu.totals.hires, startMinute := h.startTime.map (· / 60),
          endMinute := s.minute,
          flags := { h.flags with conflict := (s.dtc.job.map (·.conflict)).getD false },
          offerId := h.offerId,
          segments := h.segments.map fun g => ⟨g.tariffId, g.nd, g.nt⟩,
          extras := h.extras, totalMetres := h.totalMetres, paidMetres := h.paidMetres,
          waiting := h.waiting, fare := h.fare, payable := h.payable.getD 0 }) ∧
      (s.homeReachable = true → (∀ x ∈ s.tlu.log, x.state ≠ .inFlight) → s.tlu.hold = none → QueueWf s →
        s.cau.queue.length < 16 → (∀ q ∈ s.cau.queue, q.req.kind ≠ .fare) →
        ∃ x ∈ t.tlu.log, x.state = .inFlight ∧
          x.number = (match s.tlu.log.find? (·.state = .unsent) with
            | some r => r.number
            | none => s.tlu.nextRecord) ∧
          ∃ q ∈ t.cau.queue, q.req = ⟨.fare, s.stc.config.home, 3, true, 0, .fareRecord x.number⟩) ∧
      (s.homeReachable = false ∨ (∃ x ∈ s.tlu.log, x.state = .inFlight) ∨ s.tlu.hold.isSome = true →
        t.tlu.hold = s.tlu.hold ∧ ∃ x ∈ t.tlu.log, x.number = s.tlu.nextRecord ∧ x.state = .unsent) ∧
      t.lines = s.lines ∧ t.fre = s.fre ∧ t.emu = { s.emu with clearDue := t.emu.clearDue }

/-- BREAK in VACANT begins a break and abandons the contests, BREAK in BREAK ends it (R5, R8, R9). -/
def Obligations.BreakKeyBeginsAndEndsBreak : Prop :=
  ∀ s : State, keyTaken .onBreak s = true →
    (s.dtc.duty = .vacant →
      ∃ t, exec .onBreak s = .next t ∧ t.dtc = { s.dtc with duty := .onBreak } ∧ AppliesPendingSet s t ∧
        NoContestRuns t ∧ t.fmr = s.fmr ∧ t.fre = s.fre ∧ t.lines = s.lines ∧
        t.tlu.totals = s.tlu.totals ∧ t.emu = { s.emu with clearDue := t.emu.clearDue }) ∧
    (s.dtc.duty = .onBreak →
      ∃ t, exec .onBreak s = .next t ∧ EntersVacant s t ∧ t.stc.power = .run ∧ t.dtc.job = s.dtc.job ∧
        t.tlu.log = s.tlu.log ∧ t.tlu.totals = s.tlu.totals ∧ t.fmr = s.fmr ∧ t.fre = s.fre ∧
        t.nbt = s.nbt ∧ t.ocu = s.ocu ∧ t.emu = s.emu)

/-- ACCEPT in PENDING takes the won offer: the entry is TAKEN with tCONFIRM running, the job record is made
from it, the duty state is ASSIGNED, and a TAKE is asked for, which stands in a queue that had room (R6, R12,
R97). -/
def Obligations.AcceptTakesTheWonOffer : Prop :=
  ∀ (s : State) (e : OfferEntry), keyTaken .accept s = true → s.emu.state = .idle →
    s.dtc.duty = .pending → s.wonOffer? = some e →
    ∃ t, exec .accept s = .next t ∧
      t.dtc = { s.dtc with
        duty := .assigned
        job := some { id := e.id, pickup := e.pickup, text := e.text, confirm := .unconfirmed,
                      confirmWait := true, conflict := false, acceptTime := s.time } } ∧
      (∃ f ∈ t.ocu.offers, f.id = e.id ∧ f.state = .taken ∧
        f.jobTimer = some (t.now + 1000 * s.stc.config.tConfirm)) ∧
      (s.cau.queue.length < 16 → ∃ q ∈ t.cau.queue, q.req.kind = .take ∧ q.req.tag = .offer e.id) ∧
      t.fre = s.fre ∧ t.fmr = s.fmr ∧ t.lines = s.lines ∧ t.emu = { s.emu with clearDue := t.emu.clearDue }

/-- DECLINE gives up the won offer in PENDING and the job in ASSIGNED, and VACANT is entered; tACCEPT's end
does the same to the won offer; in a well-formed queue with room a RELEASE stands (R6, R7, R10, R44, R98,
R101). The clock is log 2. -/
def Obligations.DeclineAndTAcceptReleaseTheOffer : Prop :=
  ∀ s : State,
    (∀ e, s.dtc.duty = .pending → s.wonOffer? = some e → ∀ c,
      (c = .decline ∧ keyTaken .decline s = true) ∨
        (c = .tAcceptExpiry ∧ s.running = true ∧ e.jobTimer.isSome = true) →
      ∃ t, exec c s = .next t ∧ EntersVacant s t ∧ t.dtc.job = s.dtc.job ∧
        (∃ f ∈ t.ocu.offers, f.id = e.id ∧ f.state = .declined ∧ f.jobTimer = none) ∧
        (QueueWf s → s.cau.queue.length < 16 → t.nbt = s.nbt ∧ t.emu = s.emu ∧
          ∃ q ∈ t.cau.queue, q.req.kind = .release ∧ q.req.tag = .offer e.id) ∧
        (∀ deadline, c = .tAcceptExpiry → e.jobTimer = some deadline → t.now = max s.now deadline) ∧
        t.fre = s.fre ∧ t.fmr = s.fmr ∧ t.nbt = { s.nbt with relays := t.nbt.relays } ∧
        t.emu = { s.emu with clearDue := t.emu.clearDue } ∧ t.lines = s.lines) ∧
    (∀ j, s.dtc.duty = .assigned → s.dtc.job = some j → keyTaken .decline s = true →
      ∃ t, exec .decline s = .next t ∧ EntersVacant s t ∧ t.dtc.job = none ∧
        (QueueWf s → s.cau.queue.length < 16 → t.nbt = s.nbt ∧ t.emu = s.emu ∧
          ∃ q ∈ t.cau.queue, q.req.kind = .release ∧ q.req.tag = .offer j.id) ∧
        (∀ e ∈ t.ocu.offers, ¬(e.id = j.id ∧ e.state = .taken)) ∧
        t.fre = s.fre ∧ t.fmr = s.fmr ∧ t.nbt = { s.nbt with relays := t.nbt.relays } ∧
        t.emu = { s.emu with clearDue := t.emu.clearDue } ∧ t.lines = s.lines)

/-- EXTRA and TARIFF hold a prefix where they are available; a digit after a prefix adds one of the extra
or opens a segment, or is refused. One more of an extra raises its count by one, or joins it to the list
with count 1, and the fare is the capped sum again (R114, R116, R119, R120, R171). -/
def Obligations.PrefixDigitChargesExtraOrTariff : Prop :=
  (∀ s : State,
    (keyTaken .extra s = true → keyAvailable .extra s.dtc.duty = true →
      ∃ u t, KeyHeard .extra none s u ∧ exec .extra s = .next t ∧
        Settled { u with cns := { u.cns with keyPrefix := some .extra } } t) ∧
    (keyTaken .tariff s = true → keyAvailable .tariff s.dtc.duty = true →
      ∃ u t, KeyHeard .tariff none s u ∧ exec .tariffKey s = .next t ∧
        Settled { u with cns := { u.cns with keyPrefix := some .tariff } } t) ∧
    (∀ (d : Fin 10) (h : HireRecord), keyTaken (.digit d) s = true → s.emu.state = .idle →
      s.fmr.hire = some h →
      (s.cns.keyPrefix = some .extra → s.dtc.duty = .hired ∨ s.dtc.duty = .paying →
        ∃ u t, KeyHeard (.digit d) s.cns.keyPrefix s u ∧ exec (.digit d) s = .next t ∧
          Settled
            (if 1 ≤ d.val ∧ d.val ≤ 4 ∧ h.amountOf d.val ≠ 0 ∧ h.extraLeft d.val = true ∧
                s.stc.fault = false then
              { u with
                fmr := { u.fmr with hire := some (h.withExtra d.val) }
                cns := { u.cns with keyPrefix := none } }
             else refused u) t) ∧
      (s.cns.keyPrefix = some .tariff → s.dtc.duty = .hired → ∀ a, s.tlu.active = some a →
        ∃ u t, KeyHeard (.digit d) s.cns.keyPrefix s u ∧ exec (.digit d) s = .next t ∧
          Settled
            (match a.enabledRates d.val with
              | some r =>
                if h.current.tariffId ≠ d.val ∧ h.segments.length < 4 ∧ s.stc.fault = false then
                  let g : Segment :=
                    { tariffId := d.val, rates := r, ad := 0, at_ := 0, nd := 0, nt := 0,
                      distanceCounter := r.ud, timeCounter := r.ut }
                  { u with
                    fmr := { u.fmr with
                      hire := some { h with closed := h.closed ++ [h.current], current := g } }
                    cns := { u.cns with keyPrefix := none } }
                else refused u
              | none => refused u) t))) ∧
  ∀ (h : HireRecord) (id : Nat),
    (h.withExtra id).countOf id = h.countOf id + 1 ∧
    (∀ j, j ≠ id → (h.withExtra id).countOf j = h.countOf j) ∧
    (h.withExtra id).fare = min 999999 (h.withExtra id).fareSum ∧
    (h.withExtra id).flags.cap = (h.flags.cap || decide (999999 < (h.withExtra id).fareSum)) ∧
    (h.withExtra id).payable = h.payable.map (fun _ => payableOf h.rounding (h.withExtra id).fare) ∧
    (h.withExtra id).closed = h.closed ∧ (h.withExtra id).current = h.current ∧
    (h.withExtra id).totalMetres = h.totalMetres

/-- In RUN, READ opens the list, from the list the entry under the pointer, which becomes READ, and leads
back to the list from MESSAGE and MENU; CLEAR without an emergency leads from LIST to no driver view, from
MESSAGE and MENU to LIST, taking the pin of an unexpired open entry; UP and DOWN move the pointer of the view
shown by one within its limit, in LIST with the selection, and change no other block. While LIST stays shown,
its pointer follows the selected entry to its new line, or keeps its number, clamped, when the entry has left
the list (R148, R149, R161, R164). -/
def Obligations.ViewKeysMoveThroughViews : Prop :=
  (∀ s : State,
    (keyTakenInRun .read s = true →
      (s.cns.view = .none → ∃ u t, KeyHeard .read none s u ∧ exec .read s = .next t ∧
        Settled { u with cns := { u.cns with view := .list } } t) ∧
      (s.cns.view = .list → ∀ n, listEntryAt s s.cns.pointers.list = some n →
        ∃ u t, KeyHeard .read none s u ∧ exec .read s = .next t ∧
          Settled { u with
            mst := { u.mst with
              entries := u.mst.entries.map fun e =>
                if e.entry = n then { e with state := if e.state = .unread then .read else e.state } else e
              openEntry := some n }
            cns := { u.cns with view := .message } } t) ∧
      (s.cns.view = .list → listEntryAt s s.cns.pointers.list = none →
        ∃ u t, KeyHeard .read none s u ∧ exec .read s = .next t ∧ Settled u t) ∧
      (s.cns.view = .message ∨ s.cns.view = .menu →
        ∃ t, exec .read s = .next t ∧ t.cns.view = .list ∧ t.mst.openEntry = none ∧
          t.dtc = s.dtc ∧ t.fmr = s.fmr ∧ t.emu = s.emu)) ∧
    (keyTakenInRun .clear s = true → s.emu.state = .idle →
      (s.cns.view = .none → ∃ u t, KeyHeard .clear none s u ∧ exec .clear s = .next t ∧ Settled u t) ∧
      (s.cns.view = .list → ∃ u t, KeyHeard .clear none s u ∧ exec .clear s = .next t ∧
        Settled { u with cns := { u.cns with view := .none } } t) ∧
      (∀ n e, s.cns.view = .message → s.mst.openEntry = some n → s.msg? n = some e → e.expired = false →
        ∃ u t, KeyHeard .clear none s u ∧ exec .clear s = .next t ∧
          Settled { u with
            mst := { u.mst with
              entries := u.mst.entries.map fun x => if x.entry = n then { x with pin := false } else x
              openEntry := none }
            cns := { u.cns with view := .list } } t) ∧
      (s.cns.view = .menu → ∃ t, exec .clear s = .next t ∧ t.cns.view = .list ∧ t.mst.openEntry = none ∧
        t.dtc = s.dtc ∧ t.fmr = s.fmr ∧ t.emu = s.emu)) ∧
    (∀ k, k = .up ∨ k = .down → keyTakenInRun k s = true →
      ∃ t, exec (keyCommand k) s = .next t ∧
        (∀ v, viewShown s = some v → s.cns.shown = some v → v ≠ .list →
          s.cns.pointers.get v ≤ pointerLimit s v → pointerLimit t v = pointerLimit s v →
          t.cns.pointers.get v =
            if k = .up then s.cns.pointers.get v - 1
            else min (pointerLimit s v) (s.cns.pointers.get v + 1)) ∧
        (StoreWf s → s.cns.view = .list → s.cns.shown = some .list →
          s.cns.pointers.list ≤ pointerLimit s .list →
          t.cns.pointers.list =
            (if k = .up then s.cns.pointers.list - 1
             else min (s.messageList.length - 1) (s.cns.pointers.list + 1)) ∧
          t.cns.selection = (s.messageList[t.cns.pointers.list]?).map (·.entry)) ∧
        t.cns.view = s.cns.view ∧ t.dtc = s.dtc ∧ t.fmr = s.fmr ∧ t.mst = s.mst ∧ t.emu = s.emu)) ∧
  ∀ (c : Instr) (s : State), c ≠ .up → c ≠ .down → c ≠ .keyRepeat → s.running = true → ViewFollows s →
    StoreWf s → viewShown s = some .list →
    ∃ t, exec c s = .next t ∧
      (t.running = true → viewShown t = some .list →
        (∀ n line, s.cns.selection = some n → t.messageList.findIdx? (·.entry = n) = some line →
          t.cns.pointers.list = line) ∧
        ((∀ n, s.cns.selection = some n → ∀ m ∈ t.messageList, m.entry ≠ n) →
          t.cns.pointers.list = min s.cns.pointers.list (t.messageList.length - 1)))

/-- REPLY opens the phrase menu for an open DIRECT message with no reply on its way, and a digit that
names a phrase makes the reply (R153, R154). -/
def Obligations.ReplyMenuMakesReply : Prop :=
  ∀ (s : State) (e : MsgEntry), s.openMsg = some e →
    (keyTakenInRun .reply s = true → s.cns.view = .message →
      ∃ u t, KeyHeard .reply none s u ∧ exec .reply s = .next t ∧
        Settled
          (if e.kind = .direct ∧ e.replyPending = false then { u with cns := { u.cns with view := .menu } }
           else refused u) t) ∧
    (∀ (d : Fin 10) (p : List Byte), keyTakenInRun (.digit d) s = true → s.emu.state = .idle →
      s.cns.view = .menu → s.cns.keyPrefix = none → phraseOf s d.val = some p →
      s.cau.queue.length < 16 → (∀ q ∈ s.cau.queue, q.req.tag ≠ .reply e.entry) →
      ∃ t, exec (.digit d) s = .next t ∧ t.cns.view = .message ∧ t.mst.openEntry = s.mst.openEntry ∧
        t.mst.replyCounter = s.mst.replyCounter + 1 ∧
        (∀ x ∈ t.mst.entries, x.entry = e.entry →
          x.reply = some { phrase := d.val, number := s.mst.replyCounter + 1, state := .queued }) ∧
        (∃ q ∈ t.cau.queue, q.req =
          { kind := .msg, dest := e.name.source, cls := 2, ackReq := true, hop := 0,
            tag := .reply e.entry }) ∧
        t.dtc = s.dtc ∧ t.fre = s.fre ∧ t.fmr = s.fmr ∧ t.emu = s.emu) ∧
    (∀ d : Fin 10, keyTakenInRun (.digit d) s = true → s.emu.state = .idle → s.cns.view = .menu →
      s.cns.keyPrefix = none → phraseOf s d.val = none →
      ∃ u t, KeyHeard (.digit d) none s u ∧ exec (.digit d) s = .next t ∧ Settled (refused u) t)

/-- The code keys of an emergency (R171, R186 to R188): a digit joins the buffer of four, CLEAR empties it,
and ACCEPT submits it. The cancel code enters CLEARING with an ALARM_CLEAR, the slow period kept for a return
to ACTIVE (R181, R185); the duress code enters COVERT with an ALARM, each in a queue with room and no own
alarm frame; anything else is a wrong attempt, and the third starts the lockout. -/
def Obligations.EmergencyCodeKeys : Prop :=
  ∀ s : State, s.stc.fault = false → s.emu.state.takesCode = true →
    (∀ d : Fin 10, keyTaken (.digit d) s = true → s.cns.keyPrefix = none → viewShown s ≠ some .menu →
      ∃ u t, KeyHeard (.digit d) none s u ∧ exec (.digit d) s = .next t ∧
        Settled { u with emu := { u.emu with
          code := (s.emu.code ++ [d]).drop (s.emu.code.length + 1 - 4) } } t) ∧
    (keyTakenInRun .clear s = true →
      ∃ t, exec .clear s = .next t ∧ t.emu = { s.emu with code := [] } ∧ t.dtc = s.dtc ∧
        t.fmr = s.fmr ∧ t.fre = s.fre ∧ t.ocu = s.ocu) ∧
    (keyTaken .accept s = true → s.emu.lockout.isSome = true ∨ s.emu.state = .clearing →
      ∃ u t, KeyHeard .accept none s u ∧ exec .accept s = .next t ∧
        Settled { u with emu := { u.emu with code := [] } } t) ∧
    (keyTaken .accept s = true → s.emu.lockout = none → s.emu.state ≠ .clearing →
      (s.emu.code = codeDigits s.stc.config.cancelCode →
        ∃ t, exec .accept s = .next t ∧ t.emu.state = .clearing ∧ t.emu.attempts = 0 ∧
          t.emu.schedule = none ∧ (∀ c, s.emu.schedule = some c → t.emu.keptPeriod = c.period) ∧
          t.emu.clearsSent = 0 ∧ t.emu.code = [] ∧
          t.emu.duress = s.emu.duress ∧ t.cau.mask = s.cau.mask ∧
          (s.cau.queue.length < 16 → (∀ q ∈ s.cau.queue, isOwnAlarm q.req = false) →
            ∃ q ∈ t.cau.queue, q.req = ⟨.alarmClear, 0, 0, false, 0, .ownAlarm⟩) ∧
          t.dtc = s.dtc ∧ t.fre = s.fre ∧ t.fmr = s.fmr) ∧
      (∀ d, s.emu.code ≠ codeDigits s.stc.config.cancelCode → s.stc.config.duressCode = some d →
        s.emu.code = codeDigits d →
        (s.emu.state ≠ .covert → ∃ t, exec .accept s = .next t ∧ t.emu.state = .covert ∧
          t.emu.attempts = 0 ∧ t.emu.duress = true ∧ t.emu.seen = s.emu.seen ∧ t.emu.code = [] ∧
          t.emu.schedule = some ⟨.slow, 30000, t.now + 30000⟩ ∧
          (s.cau.queue.length < 16 → (∀ q ∈ s.cau.queue, isOwnAlarm q.req = false) →
            ∃ q ∈ t.cau.queue, q.req = ⟨.alarm, 0, 0, false, 0, .ownAlarm⟩) ∧
          t.dtc = s.dtc ∧ t.fre = s.fre ∧ t.fmr = s.fmr) ∧
        (s.emu.state = .covert → ∃ u t, KeyHeard .accept none s u ∧ exec .accept s = .next t ∧
          Settled { u with emu := { u.emu with attempts := 0, code := [] } } t)) ∧
      (s.emu.code ≠ codeDigits s.stc.config.cancelCode →
        (∀ d, s.stc.config.duressCode = some d → s.emu.code ≠ codeDigits d) →
        ∃ u t, KeyHeard .accept none s u ∧ exec .accept s = .next t ∧
          Settled { u with emu := { u.emu with
            attempts := min 3 (s.emu.attempts + 1)
            lockout := if 2 ≤ s.emu.attempts then some (.running (u.now + 300000)) else none
            code := [] } } t))

/-! ## The meter -/

/-- Pulses and intervals (R109 to R114): a pulse in HIRED outside FAULT adds 1,000 to the residue and a
metre for each K in it; any other is ignored. An interval's end charges its clamped metres by distance or
its second by time, through the step counters, and makes the fare the capped sum; the record it leaves is kept
for a start (R124). The clock is log 2. -/
def Obligations.PulsesAndIntervalsCharge : Prop :=
  ∀ (s : State) (h : HireRecord), s.running = true → s.fmr.hire = some h →
    (s.dtc.duty ≠ .hired ∨ s.stc.fault = true → Gives .odoPulse s s) ∧
    (s.dtc.duty = .hired → s.stc.fault = false →
      Gives .odoPulse s { s with fmr := { s.fmr with hire := some { h with
        residue := (h.residue + 1000) % h.pulsesPerKm
        intervalMetres := h.intervalMetres + (h.residue + 1000) / h.pulsesPerKm } } } ∧
      ∀ since, s.fmr.intervalSince = some since →
        ∃ t p, exec .intervalEnd s = .next t ∧ t.fmr = ⟨some p, some (since + 1000), some p⟩ ∧
          t.now = max s.now (since + 1000) ∧ p.intervalMetres = 0 ∧ p.residue = h.residue ∧
          p.totalMetres = h.totalMetres + min (min h.intervalMetres h.mmax) (999999 - h.totalMetres) ∧
          p.closed = h.closed ∧ p.extras = h.extras ∧ p.payable = h.payable ∧
          (min h.intervalMetres h.mmax * h.current.rates.cd * h.current.rates.ut <
              h.current.rates.ct * h.current.rates.ud →
            p.current.at_ = h.current.at_ + (if h.waiting < 359999 then 1 else 0) ∧
            p.current.ad = h.current.ad ∧ p.current.nd = h.current.nd ∧
            p.current = if h.waiting < 359999 then addSecond h.current else h.current) ∧
          (¬min h.intervalMetres h.mmax * h.current.rates.cd * h.current.rates.ut <
              h.current.rates.ct * h.current.rates.ud →
            p.current.ad = h.current.ad + (p.totalMetres - h.totalMetres) ∧
            p.current.at_ = h.current.at_ ∧ p.current.nt = h.current.nt ∧
            p.current = addMetres (p.totalMetres - h.totalMetres) h.current) ∧
          p.flags = { h.flags with
            implausible := h.flags.implausible || h.mmax < h.intervalMetres
            cap := h.flags.cap || 999999 < p.fareSum } ∧
          p.fare = min 999999 p.fareSum ∧
          t.tlu = { s.tlu with implausible :=
            if h.mmax < h.intervalMetres then min 255 (s.tlu.implausible + 1) else s.tlu.implausible } ∧
          t.dtc = s.dtc ∧ t.fre = s.fre ∧ t.nbt = s.nbt ∧ t.ocu = s.ocu ∧ t.mst = s.mst ∧ t.emu = s.emu)

/-- The step counters (R113): a metre and a second lower their counters and reload them at 0 with a step,
an interval adds one second at most, and over a segment the steps are the units completed: in the first
segment of a hire after its allowances, in a later one from the start. -/
def Obligations.StepsCountCompletedUnits : Prop :=
  (∀ (id : Nat) (r : Rates) (n : Nat), 1 ≤ r.ud → 1 ≤ r.ut →
    (openSegment id r true).distanceCounter = r.d0 + r.ud ∧
    (openSegment id r true).timeCounter = r.t0 + r.ut ∧
    (openSegment id r false).distanceCounter = r.ud ∧ (openSegment id r false).timeCounter = r.ut ∧
    (addMetres n (openSegment id r true)).ad = n ∧
    (addMetres n (openSegment id r true)).nd = (n - r.d0) / r.ud ∧
    (addMetres n (openSegment id r false)).nd = n / r.ud ∧
    (addSecond^[n] (openSegment id r true)).at_ = n ∧
    (addSecond^[n] (openSegment id r true)).nt = (n - r.t0) / r.ut ∧
    (addSecond^[n] (openSegment id r false)).nt = n / r.ut) ∧
  (∀ g : Segment, 1 ≤ g.distanceCounter →
    addMetre g =
      if g.distanceCounter = 1 then
        { g with ad := g.ad + 1, nd := g.nd + 1, distanceCounter := g.rates.ud }
      else { g with ad := g.ad + 1, distanceCounter := g.distanceCounter - 1 }) ∧
  (∀ g : Segment, 1 ≤ g.timeCounter →
    addSecond g =
      if g.timeCounter = 1 then { g with at_ := g.at_ + 1, nt := g.nt + 1, timeCounter := g.rates.ut }
      else { g with at_ := g.at_ + 1, timeCounter := g.timeCounter - 1 }) ∧
  ∀ h : HireRecord, (chargeSegment true h).at_ ≤ h.current.at_ + 1 ∧
    (chargeSegment true h).nt ≤ h.current.nt + 1

/-- The payable amount (R116): the fare rounded to the nearest multiple of R, halves up, and below the cap;
a multiple of R that differs from the fare by less than R. PAY computes it, and so does each extra taken in
PAYING. -/
def Obligations.PayableIsTheRoundedFare : Prop :=
  (∀ r fare : Nat, r = 1 ∨ r = 5 ∨ r = 10 → fare ≤ 999999 →
    payableOf r fare =
      (if 999999 < (2 * fare + r) / (2 * r) * r then 999999 / r * r else (2 * fare + r) / (2 * r) * r) ∧
    payableOf r fare % r = 0 ∧ payableOf r fare ≤ 999999 ∧
    payableOf r fare < fare + r ∧ fare < payableOf r fare + r) ∧
  (∀ (s : State) (h : HireRecord), s.fmr.hire = some h → keyTaken .pay s = true → s.dtc.duty = .hired →
    ∃ t p, exec .pay s = .next t ∧ t.dtc.duty = .paying ∧ t.fmr.hire = some p ∧
      p.payable = some (payableOf h.rounding p.fare)) ∧
  ∀ (s : State) (h : HireRecord) (d : Fin 10), s.fmr.hire = some h → h.payable.isSome = true →
    keyTaken (.digit d) s = true → s.emu.state = .idle → s.cns.keyPrefix = some .extra →
    s.dtc.duty = .paying → s.stc.fault = false → h.extraLeft d.val = true →
    ∃ t p, exec (.digit d) s = .next t ∧ t.dtc.duty = .paying ∧ t.fmr.hire = some p ∧
      p.payable = some (payableOf h.rounding p.fare)

/-! ## The receive path -/

/-- The receive engine's states and the length test (R29, R30): a sync word in HUNT leads to HEADER, the 13th
header byte with a length of 0 to 64 to BODY with the kind, header and length of the frame gathered, and a
greater one, whatever the rest of the header says, counts a bad CRC and returns to HUNT. -/
def Obligations.LengthTestLeadsToBodyOrHunt : Prop :=
  ∀ s : State, s.running = true →
    (∀ window : BitVec 16, s.fre.rx = .hunt → Gives (.syncWordMatched window) s
      (if window = 0xB34E#16 then { s with fre := { s.fre with rx := .header, window := 0 } }
       else { s with fre := { s.fre with window := window } })) ∧
    (∀ (h : FrameHead) (length : Nat), s.fre.rx = .header → Gives (.headerComplete h length) s
      (if length ≤ 64 then
        { s with fre := { s.fre with rx := .body, window := 0, gathering := some (h, length) } }
       else huntingAfter (fun c => { c with badCrc := min 255 (c.badCrc + 1) }) s)) ∧
    (∀ length : Nat, 64 < length → s.fre.rx = .header →
      Gives (.badLength length) s (huntingAfter (fun c => { c with badCrc := min 255 (c.badCrc + 1) }) s))

/-- Frames of which no payload is used (R29, R31, R32): a CRC mismatch counts a bad CRC, another fleet's frame
counts as foreign, one of this station or of source 0, and any in FAULT, counts as good alone. A frame ends
from BODY alone, and is the one gathered, of the kind, header and length that its 13 header bytes gave: any
other, as before the lamp test's end, in HUNT, HEADER and SUSPENDED, changes nothing (log 8; a row that cannot
arise, log 1). -/
def Obligations.DiscardedFramesAreCounted : Prop :=
  ∀ (k : FrameKind) (f : AirFrame) (s : State),
    (s.running = false ∨ s.fre.rx ≠ .body ∨ s.fre.gathering ≠ some (⟨kindCode k, f.header⟩, f.payload.length) →
      GivesSame (frameCommand k f) s) ∧
    (s.running = true → Gives .crcMismatch s
      (if s.fre.rx = .body then huntingAfter (fun c => { c with badCrc := min 255 (c.badCrc + 1) }) s
       else s)) ∧
    (s.running = true → s.fre.rx = .body → s.fre.gathering = some (⟨kindCode k, f.header⟩, f.payload.length) →
      (s.stc.config.fleet = 0 ∨ f.header.fleet ≠ s.stc.config.fleet →
        Gives (frameCommand k f) s
          (huntingAfter (fun c => { c with foreign := min 255 (c.foreign + 1) }) s)) ∧
      (s.stc.config.fleet ≠ 0 → f.header.fleet = s.stc.config.fleet →
        f.header.source = 0 ∨ f.header.source = s.own ∨ s.stc.fault = true →
        Gives (frameCommand k f) s
          (huntingAfter (fun c => { c with good := if 9999 ≤ c.good then 0 else c.good + 1 })
            { s with cns := { s.cns with stretchSince := some s.now } })))

/-- The status header of a heard frame refreshes or makes its source's entry, and BEACON, FARE and the
unassigned kinds of a source other than home dispatch change nothing of contests, log, messages, emergency,
queue and relays beside it (R32, R33, R35, R68). The header of home dispatch makes it reachable, and the report
test is taken when it was not, or when it clears a hold of an earlier tick (R72, R73, R135, R136): with nothing
IN_FLIGHT the oldest UNSENT record goes IN_FLIGHT with a FARE asked for, or the hold is set where the queue has
no place; in a queue that holds each frame in the class of its kind, no contest is touched. -/
def Obligations.HeaderRefreshesTheNeighbour : Prop :=
  ∀ (c : Instr) (kind : Nat) (f : AirFrame) (s : State),
    (c, kind) ∈ [(Instr.beacon f, 0), (Instr.fare f, 9), (Instr.unassignedKind 14 f, 14),
      (Instr.unassignedKind 15 f, 15)] →
    Heard kind f s →
    ∃ t, exec c s = .next t ∧
      t.fre = { s.fre with
        rx := .hunt, window := 0, gathering := none
        counters := { s.fre.counters with
          good := if 9999 ≤ s.fre.counters.good then 0 else s.fre.counters.good + 1 } } ∧
      t.cns.stretchSince = some s.now ∧
      (∃ n ∈ t.nbt.neighbours, n =
        { station := f.header.source, duty := f.header.duty, emergency := f.header.emergency,
          position := if f.header.fixValid then some f.header.position else none,
          lastHeard := s.nbt.ticks,
          framesHeard := match s.neighbour f.header.source with
            | some old => if f.header.cause = 0 then min 255 (old.framesHeard + 1) else 1
            | none => 1 }) ∧
      (f.header.source = s.stc.config.home → t.nbt.homeLevel = true) ∧
      (f.header.source = s.stc.config.home → 1 ≤ s.stc.config.tReach →
        (ClassesByKind s → t.ocu = s.ocu) ∧
        ((s.tlu.hold = none → s.homeReachable = true) → (∀ h, s.tlu.hold = some h → s.nbt.ticks ≤ h) →
          t.tlu = s.tlu ∧ t.cau.queue = s.cau.queue) ∧
        (s.tlu.hold = none ∧ s.homeReachable = false ∨ (∃ h, s.tlu.hold = some h ∧ h < s.nbt.ticks) →
          ((∃ x ∈ s.tlu.log, x.state = .inFlight) ∨ (∀ x ∈ s.tlu.log, x.state ≠ .unsent) →
            t.tlu = { s.tlu with hold := none } ∧ t.cau.queue = s.cau.queue) ∧
          ∀ r, (∀ x ∈ s.tlu.log, x.state ≠ .inFlight) → s.tlu.log.find? (·.state = .unsent) = some r →
            (∀ q ∈ s.cau.queue, q.req.kind ≠ .fare) →
            (s.cau.queue.length < 16 →
              t.tlu = { s.tlu with
                hold := none
                log := s.tlu.log.map fun x => if x.number = r.number then { x with state := .inFlight } else x } ∧
              ∃ q ∈ t.cau.queue, q.req =
                ⟨.fare, s.stc.config.home, 3, true, 0, .fareRecord r.number⟩) ∧
            (16 ≤ s.cau.queue.length → (∀ q ∈ s.cau.queue, q.req.cls ≤ 3) →
              t.tlu = { s.tlu with hold := some s.nbt.ticks } ∧ t.cau.queue = s.cau.queue))) ∧
      (f.header.source ≠ s.stc.config.home →
        t.ocu = s.ocu ∧ t.tlu = s.tlu ∧ t.mst = s.mst ∧ t.emu = s.emu ∧ t.cau.queue = s.cau.queue ∧
        t.nbt.relays = s.nbt.relays) ∧
      t.nbt.dups = s.nbt.dups ∧ t.nbt.ticks = s.nbt.ticks ∧ t.dtc = s.dtc ∧ t.fmr = s.fmr ∧
      t.lines = s.lines ∧ t.stc.config = s.stc.config ∧ t.now = s.now

/-! ## The contest -/

/-- A delivered OFFER with a new id takes an entry of a table with a free or spent one (R86 to R89):
contested when it is eligible, with the score 8d − Wv·v, at least 0 and at most 32,767, and the delay
floor(score × W / 32768); passed otherwise. A known id leaves every entry's state and deadlines as they were.
-/
def Obligations.OfferMakesAnEntry : Prop :=
  ∀ (f : AirFrame) (p : OfferPayload) (s : State), Delivered .offer f s → parseOffer f.payload = some p →
    (s.offer? ⟨f.header.source, p.serial⟩ = none →
      s.ocu.offers.length < 8 ∨ s.ocu.offers.length = 8 ∧ (∃ o ∈ s.ocu.offers, o.state.spent = true) →
      ∃ t, ∃ e ∈ t.ocu.offers, exec (.offer f) s = .next t ∧
        e.id = ⟨f.header.source, p.serial⟩ ∧ e.arrival = s.now ∧ e.pickup = p.pickup ∧
        e.radius = p.radius ∧ e.text = p.text ∧ e.windowEnd = s.now + 100 * p.window ∧
        e.bidFrame = .none ∧ e.jobTimer = none ∧ e.heard = [] ∧
        (eligible p s = true →
          ∃ score, e.state = .waiting ∧ e.ownScore = some score ∧
            score = min 32767 (8 * (match s.position with
              | some q => min 4095 (gridDistance q p.pickup)
              | none => 4095) - s.stc.config.wv * (s.dtc.vacantSeconds / 60)) ∧
            e.ownVacant = some (s.dtc.vacantSeconds / 60) ∧
            e.delayDeadline = some (s.now + score * (100 * p.window) / 32768)) ∧
        (eligible p s = false →
          e.state = .passed ∧ e.ownScore = none ∧ e.ownVacant = none ∧ e.delayDeadline = none) ∧
        t.dtc = s.dtc ∧ t.fmr = s.fmr ∧ t.lines = s.lines ∧ t.emu.state = s.emu.state) ∧
    ((s.offer? ⟨f.header.source, p.serial⟩).isSome = true →
      ∃ t, exec (.offer f) s = .next t ∧
        t.ocu.offers.map (fun e => (e.id, e.state, e.windowEnd, e.delayDeadline)) =
          s.ocu.offers.map (fun e => (e.id, e.state, e.windowEnd, e.delayDeadline)) ∧
        t.dtc = s.dtc ∧ t.fmr = s.fmr ∧ t.lines = s.lines ∧ t.emu.state = s.emu.state)

/-- Rank is a strict order of bids in which bids of different stations never tie: the lower score, then
more vacant minutes, then the lower station (R85). -/
def Obligations.RankOrdersBids : Prop :=
  (∀ a b : BidRank, better a b = true ↔
    a.score < b.score ∨ a.score = b.score ∧
      (b.vacant < a.vacant ∨ a.vacant = b.vacant ∧ a.station < b.station)) ∧
  (∀ a b : BidRank, a.station ≠ b.station → better a b = true ∨ better b a = true) ∧
  (∀ a b : BidRank, ¬(better a b = true ∧ better b a = true)) ∧
  (∀ a b c : BidRank, better a b = true → better b c = true → better a c = true)

/-- A heard BID, WITHDRAW or RELEASE of a cab changes the entry's heard-bid list, and with it the contest
(R84, R90, R93, R94): a better bid makes WAITING and BID yield, a change of the list that leaves none returns
YIELDED, and a list that did not change moves nothing (one left YIELDED without a better bid is log 31). After
the window end the state stays, and a BID or WITHDRAW leaves the list as it was. -/
def Obligations.HeardBidsMoveTheContest : Prop :=
  ∀ (f : AirFrame) (e : OfferEntry) (s : State), f.header.source ≠ s.stc.config.home →
    ∀ (c : Instr) (id : OfferId) (l : List HeardBid),
      ((∃ p, c = .bid f ∧ Delivered .bid f s ∧ parseBid f.payload = some p ∧ id = p.id ∧
          l = hearBid false ⟨p.score, p.vacant, f.header.source⟩ e.heard) ∨
        c = .withdraw f ∧ Delivered .withdraw f s ∧ parseOfferId f.payload = some id ∧
          l = withdrawBid f.header.source e.heard ∨
        c = .release f ∧ Delivered .release f s ∧ parseOfferId f.payload = some id ∧
          l = withdrawBid f.header.source e.heard) →
      s.offer? id = some e →
      (e.ended s.now = false →
        ∃ t o, exec c s = .next t ∧ t.offer? id = some o ∧ o.heard = l ∧
          (c ≠ .bid f → e.state ≠ .yielded → o.state = e.state) ∧
          (e.state = .waiting → betterKnown s.own o = false → o.state = .waiting) ∧
          (c = .bid f → e.state = .waiting → betterKnown s.own o = true →
            o.state = .yielded ∧ o.delayDeadline = none) ∧
          (e.state = .bid → betterKnown s.own o = false → o.state = .bid ∧ o.bidFrame = e.bidFrame) ∧
          (c = .bid f → e.state = .bid → betterKnown s.own o = true →
            o.state = .yielded ∧ o.bidFrame = if e.bidFrame = .inQueue then .none else e.bidFrame) ∧
          (e.state = .yielded → betterKnown s.own o = true → o.state = .yielded) ∧
          (e.state = .yielded → l = e.heard → o = e) ∧
          (e.state = .yielded → l ≠ e.heard → betterKnown s.own o = false →
            if e.bidFrame = .sent then o.state = .bid
            else o.state = .waiting ∧ o.delayDeadline =
              some (s.now + e.ownScore.getD 0 * (e.windowEnd - s.now) / 32768)) ∧
          (e.state.running = false → o.state = e.state) ∧
          t.dtc = s.dtc ∧ t.fmr = s.fmr ∧ t.tlu = s.tlu ∧ t.mst = s.mst ∧ t.emu = s.emu ∧
          t.lines = s.lines) ∧
      (e.ended s.now = true →
        ∃ t o, exec c s = .next t ∧ t.offer? id = some o ∧ o.state = e.state ∧
          (o.heard = if c = .release f then l else e.heard) ∧ t.dtc = s.dtc ∧ t.fmr = s.fmr ∧
          t.tlu = s.tlu ∧ t.mst = s.mst ∧ t.emu = s.emu ∧ t.lines = s.lines)

/-- A heard TAKE of a cab enters its list and, where it ranks better, makes a contest yield and ends a win:
the WON entry becomes LOST, or is freed past its hold, VACANT is entered, and the notice JOB GONE stands in a
store with a place (R7, R90, R99, R104). That a worse TAKE leaves a YIELDED entry as it is, is log 31. -/
def Obligations.BetterTakeEndsTheWin : Prop :=
  ∀ (f : AirFrame) (p : BidPayload) (e : OfferEntry) (s : State), Delivered .take f s →
    parseBid f.payload = some p → f.header.source ≠ s.stc.config.home → s.offer? p.id = some e →
    (∀ r, e.state = .won → s.dtc.duty = .pending → e.ownRank s.own = some r →
      (better ⟨p.score, p.vacant, f.header.source⟩ r = true →
        ∃ t, exec (.take f) s = .next t ∧ EntersVacant s t ∧ t.dtc.job = s.dtc.job ∧
          (s.now < e.windowEnd + 60000 → ∃ o, t.offer? p.id = some o ∧ o.state = .lost ∧
            o.jobTimer = none) ∧
          (e.windowEnd + 60000 ≤ s.now → t.offer? p.id = none) ∧
          (hasPlace s = true → ∃ m ∈ t.mst.entries, m.name = .notice .jobGone ∧ m.state = .unread) ∧
          t.fmr = s.fmr ∧ t.emu = s.emu ∧ t.lines = s.lines) ∧
      (better ⟨p.score, p.vacant, f.header.source⟩ r = false →
        ∃ t o, exec (.take f) s = .next t ∧ t.dtc = s.dtc ∧ t.offer? p.id = some o ∧ o.state = .won ∧
          o.jobTimer = e.jobTimer ∧ t.mst = s.mst ∧ t.fmr = s.fmr ∧ t.emu = s.emu ∧
          t.lines = s.lines)) ∧
    (e.state ≠ .won →
      ∃ t o, exec (.take f) s = .next t ∧ t.offer? p.id = some o ∧
        o.heard = hearBid true ⟨p.score, p.vacant, f.header.source⟩ e.heard ∧
        o.state = (if (e.state = .waiting ∨ e.state = .bid) ∧ e.ended s.now = false ∧
          betterKnown s.own o = true then .yielded else e.state) ∧
        t.dtc = s.dtc ∧ t.mst = s.mst ∧ t.fmr = s.fmr ∧ t.emu = s.emu ∧ t.lines = s.lines)

/-- CONFIRM (R12, R13, R100, R101, R104): for the TAKEN job it confirms this station's job, or names another,
which gives the job up in ASSIGNED and marks a conflict in a hire; naming another it closes a win, with VACANT
entered and the notice JOB GONE in a store with a place, and any contest not yet lost. Of an offer that has no
entry it acts on the job record that holds its id in the same way, and where there is none it moves no offer,
keeps duty state and job, and raises no notice. -/
def Obligations.ConfirmSettlesTheOffer : Prop :=
  ∀ (f : AirFrame) (p : ConfirmPayload) (s : State), Delivered .confirm f s →
    parseConfirm f.payload = some p →
  (∀ e : OfferEntry, s.offer? ⟨f.header.source, p.serial⟩ = some e →
    (∀ j, e.state = .taken → s.dtc.job = some j → j.id = e.id →
      (p.winner = s.own → ∃ t o, exec (.confirm f) s = .next t ∧ t.offer? e.id = some o ∧
        o.state = .taken ∧ o.jobTimer = none ∧
        (t.dtc = { s.dtc with job := t.dtc.job }) ∧
        t.dtc.job = some (if j.conflict then j else { j with confirm := .confirmed, confirmWait := false }) ∧
        t.fmr = s.fmr ∧ t.lines = s.lines ∧ t.emu.state = s.emu.state) ∧
      (p.winner ≠ s.own → s.dtc.duty = .assigned →
        ∃ t, exec (.confirm f) s = .next t ∧ EntersVacant s t ∧ t.dtc.job = none ∧
          (∀ o, t.offer? e.id = some o → o.state = .lost ∧ o.jobTimer = none) ∧
          (hasPlace s = true → ∃ m ∈ t.mst.entries, m.name = .notice .jobGone ∧ m.state = .unread) ∧
          t.fmr = s.fmr ∧ t.lines = s.lines ∧ t.emu.state = s.emu.state) ∧
      (p.winner ≠ s.own → s.dtc.duty = .hired ∨ s.dtc.duty = .paying →
        ∃ t, exec (.confirm f) s = .next t ∧
          t.dtc = { s.dtc with job := some { j with conflict := true, confirmWait := false } } ∧
          (∀ o, t.offer? e.id = some o → o.state = .lost) ∧ t.fmr = s.fmr ∧ t.lines = s.lines ∧
          t.emu.state = s.emu.state)) ∧
    (e.state ≠ .taken → p.winner = s.own ∨ e.state = .lost ∨ e.state = .closed →
      ∃ t o, exec (.confirm f) s = .next t ∧ t.offer? e.id = some o ∧ o.state = e.state ∧
        t.dtc = s.dtc ∧ t.fmr = s.fmr ∧ t.lines = s.lines ∧ t.emu.state = s.emu.state) ∧
    (p.winner ≠ s.own → e.state = .won → s.dtc.duty = .pending →
      ∃ t, exec (.confirm f) s = .next t ∧ EntersVacant s t ∧ t.dtc.job = s.dtc.job ∧
        (∀ o, t.offer? e.id = some o → o.state = .closed ∧ o.jobTimer = none) ∧
        (s.now < e.windowEnd + 60000 → (t.offer? e.id).isSome = true) ∧
        (hasPlace s = true → ∃ m ∈ t.mst.entries, m.name = .notice .jobGone ∧ m.state = .unread) ∧
        t.fmr = s.fmr ∧ t.lines = s.lines ∧ t.emu.state = s.emu.state) ∧
    (p.winner ≠ s.own →
      e.state.running = true ∨ e.state = .passed ∨ e.state = .late ∨ e.state = .declined →
      ∃ t, exec (.confirm f) s = .next t ∧
        (∀ o, t.offer? e.id = some o → o.state = .closed ∧ o.delayDeadline = none) ∧
        (s.now < e.windowEnd + 60000 → (t.offer? e.id).isSome = true) ∧
        t.dtc = s.dtc ∧ t.fmr = s.fmr ∧ t.lines = s.lines ∧ t.emu.state = s.emu.state)) ∧
  (s.offer? ⟨f.header.source, p.serial⟩ = none →
    (∀ j, s.dtc.job = some j → j.id = ⟨f.header.source, p.serial⟩ →
      (p.winner = s.own → ∃ t, exec (.confirm f) s = .next t ∧ t.offer? j.id = none ∧
        t.dtc = { s.dtc with
          job := some (if j.conflict then j else { j with confirm := .confirmed, confirmWait := false }) } ∧
        t.fmr = s.fmr ∧ t.lines = s.lines ∧ t.emu.state = s.emu.state) ∧
      (p.winner ≠ s.own → s.dtc.duty = .assigned →
        ∃ t, exec (.confirm f) s = .next t ∧ EntersVacant s t ∧ t.dtc.job = none ∧ t.offer? j.id = none ∧
          (hasPlace s = true → ∃ m ∈ t.mst.entries, m.name = .notice .jobGone ∧ m.state = .unread) ∧
          t.fmr = s.fmr ∧ t.lines = s.lines ∧ t.emu.state = s.emu.state) ∧
      (p.winner ≠ s.own → s.dtc.duty = .hired ∨ s.dtc.duty = .paying →
        ∃ t, exec (.confirm f) s = .next t ∧ t.offer? j.id = none ∧
          t.dtc = { s.dtc with job := some { j with conflict := true, confirmWait := false } } ∧
          t.fmr = s.fmr ∧ t.lines = s.lines ∧ t.emu.state = s.emu.state)) ∧
    ((∀ j, s.dtc.job = some j → j.id ≠ ⟨f.header.source, p.serial⟩) →
      ∃ t, exec (.confirm f) s = .next t ∧ t.dtc = s.dtc ∧
        t.ocu.offers.map (fun o => (o.id, o.state)) = s.ocu.offers.map (fun o => (o.id, o.state)) ∧
        t.mst.entries.map (·.name) = s.mst.entries.map (·.name) ∧
        t.fmr = s.fmr ∧ t.lines = s.lines ∧ t.emu.state = s.emu.state))

/-! ## Messages, acknowledgements and tariff sets -/

/-- A delivered MSG segment (R142 to R145, R147, R156): a first one makes an entry where there is a place, or
where the complete message of its number is older than 600 s; a further one joins an entry that is
ASSEMBLING; a whole entry goes to the head of the list as UNREAD with the MESSAGE tone; anything else changes
no entry's state or segments. -/
def Obligations.MsgSegmentsBuildTheEntry : Prop :=
  ∀ (f : AirFrame) (p : MsgPayload) (s : State), StoreWf s → Delivered .msg f s →
    parseMsg f.payload = some p → ∀ name, name = MsgName.message f.header.source p.number →
    (s.msgNamed name = none ∧ hasPlace s = true ∨
        (∃ e, s.msgNamed name = some e ∧ e.state ≠ .assembling ∧ 600 < e.listAge) →
      ∃ t, ∃ m ∈ t.mst.entries, exec (.msg f) s = .next t ∧ m.name = name ∧
        m.kind = (if f.header.dest = s.own then .direct else .broadcast) ∧ m.pin = p.pin ∧
        m.replyWanted = p.replyWanted ∧ m.count = p.count ∧ m.segments = [(p.index, p.text)] ∧
        m.expired = false ∧ m.reply = none ∧ m.state = (if p.count = 1 then .unread else .assembling) ∧
        m.validityLeft = (if p.count = 1 ∧ p.validity ≠ 0 then some (p.validity * 60) else none) ∧
        (p.count = 1 → t.mst.entries.head? = some m ∧ t.cns.buzzer = buzzerAfter .message s) ∧
        t.dtc = s.dtc ∧ t.fmr = s.fmr ∧ t.lines = s.lines ∧ t.emu.state = s.emu.state) ∧
    (∀ e, s.msgNamed name = some e → e.state = .assembling → p.count = e.count →
      (∀ g ∈ e.segments, g.1 ≠ p.index) →
      ∃ t, ∃ m ∈ t.mst.entries, exec (.msg f) s = .next t ∧ m.entry = e.entry ∧ m.name = name ∧
        m.segments = e.segments ++ [(p.index, p.text)] ∧ m.pin = e.pin ∧
        m.state = (if m.whole then .unread else .assembling) ∧
        (m.whole = true → t.mst.entries.head? = some m ∧ m.listAge = 0 ∧
          m.validityLeft = (if e.validityMinutes = 0 then none else some (e.validityMinutes * 60)) ∧
          t.cns.buzzer = buzzerAfter .message s) ∧
        t.dtc = s.dtc ∧ t.fmr = s.fmr ∧ t.lines = s.lines ∧ t.emu.state = s.emu.state) ∧
    (s.msgNamed name = none ∧ hasPlace s = false ∨
        (∃ e, s.msgNamed name = some e ∧
          if e.state = .assembling then p.count ≠ e.count ∨ (∃ g ∈ e.segments, g.1 = p.index)
          else e.listAge ≤ 600) →
      ∃ t, exec (.msg f) s = .next t ∧
        t.mst.entries.map (fun x => (x.entry, x.state, x.segments, x.pin)) =
          s.mst.entries.map (fun x => (x.entry, x.state, x.segments, x.pin)) ∧
        t.cns.buzzer = s.cns.buzzer ∧ t.dtc = s.dtc ∧ t.fmr = s.fmr ∧ t.lines = s.lines ∧
        t.emu.state = s.emu.state)

/-- An acknowledged frame and an ACK (R36 to R38): a frame that asks for an acknowledgement and is a repeat,
or is taken by its owner, leaves its key and a pending ACK due 10 ms later; at that moment the ACK is keyed
if the channel is clear, nothing inhibits, no loopback runs and the engine hunts, and is given up if not.
The clock is log 2. -/
def Obligations.AcknowledgementsArePreparedAndKeyed : Prop :=
  (∀ (k : FrameKind) (f : AirFrame) (s : State), Heard (kindCode k) f s → payloadWellFormed k f.payload = true →
    sourceAccepted k f.header.source = true → asksAck k f.header s = true →
    hasKey (frameKey k f.header) s = true ∨ ownerTakes k f s = true →
    ∃ t, exec (frameCommand k f) s = .next t ∧ hasKey (frameKey k f.header) t = true ∧
      t.fre.pendingAck = some { dest := f.header.source, kind := k, seq := f.header.seq,
                                due := s.now + 10 } ∧
      (hasKey (frameKey k f.header) s = true → t.dtc = s.dtc ∧ t.fmr = s.fmr ∧ t.lines = s.lines)) ∧
  (∀ (f : AirFrame) (s : State), Heard 7 f s → payloadWellFormed .msg f.payload = true →
    sourceAccepted .msg f.header.source = true → asksAck .msg f.header s = true →
    hasKey (frameKey .msg f.header) s = false → ownerTakes .msg f s = false →
    ∃ t, exec (.msg f) s = .next t ∧ hasKey (frameKey .msg f.header) t = false ∧
      t.fre.pendingAck = s.fre.pendingAck) ∧
  ∀ (a : PendingAck) (s : State), s.running = true → s.fre.pendingAck = some a →
    ∃ t, exec .ackGapEnd s = .next t ∧ t.fre.pendingAck = none ∧ t.now = max s.now a.due ∧
      (s.lines.cd = false ∧ s.txKey = false ∧ s.lines.quiet = false ∧ s.stc.supply = .normal ∧
          s.stc.fault = false ∧ s.stc.loopback = false ∧ s.fre.rx = .hunt →
        t.fre.ackTx = some { record := a, sent := false, since := t.now } ∧ t.fre.rx = .suspended ∧
        t.txKey = true) ∧
      (¬(s.lines.cd = false ∧ s.txKey = false ∧ s.lines.quiet = false ∧ s.stc.supply = .normal ∧
          s.stc.fault = false ∧ s.stc.loopback = false ∧ s.fre.rx = .hunt) →
        t.fre = { s.fre with pendingAck := none }) ∧
      t.dtc = s.dtc ∧ t.cau.queue = s.cau.queue ∧ t.nbt = s.nbt ∧ t.mst = s.mst ∧ t.fmr = s.fmr

/-- The ACK wait (R60, R61, R63, R136, R155): a matching ACK delivers the frame, another leaves the wait as
it is; at its end the frame waits again with one retry more, or fails after the fifth transmission or when
its removal was deferred. A QUEUED or SENT reply becomes DELIVERED on the ACK and FAILED at the end, and the
fare record of the frame follows. The procedure returns to DEFER, or to INHIBITED under an inhibit (R52,
R59). The clock is log 2. -/
def Obligations.AckOrExpiryEndsTheWait : Prop :=
  ∀ (r : InService) (e : QueueEntry) (s : State), s.running = true → s.cau.inService = some r →
    s.serviceEntry = some e → r.phase = .ackWait → e.number < s.cau.nextEntry →
    (∀ (f : AirFrame) (p : AckPayload), Delivered .ack f s → parseAck f.payload = some p →
      f.header.dest = s.own →
      (e.req.dest = f.header.source ∧ kindCode e.req.kind = p.kind ∧ e.seq = some p.seq →
        ∃ t, exec (.ack f) s = .next t ∧ t.cau.inService = none ∧ ReturnedToDefer t ∧
          (∀ q ∈ t.cau.queue, q.number ≠ e.number) ∧
          (∀ n x y, e.req.tag = .reply n → x ∈ s.mst.entries → x.entry = n → x.reply = some y →
            y.state = .queued ∨ y.state = .sent →
            (∀ q ∈ s.cau.queue, q.req.tag = e.req.tag → q.number = e.number) →
            { x with reply := some { y with state := .delivered } } ∈ t.mst.entries) ∧
          (∀ n, e.req.tag = .fareRecord n → recordInFlight n s = true →
            ∃ x ∈ t.tlu.log, x.number = n ∧ x.state = .reported) ∧
          t.dtc = s.dtc ∧ t.fmr = s.fmr ∧ t.lines = s.lines) ∧
      (¬(e.req.dest = f.header.source ∧ kindCode e.req.kind = p.kind ∧ e.seq = some p.seq) →
        ∃ t, exec (.ack f) s = .next t ∧ t.cau.inService = some r ∧ e ∈ t.cau.queue ∧ t.dtc = s.dtc ∧
          t.fmr = s.fmr ∧ t.lines = s.lines)) ∧
    (e.retries < 4 → r.deferred = false →
      ∃ t, exec .ackWaitExpiry s = .next t ∧ t.cau.inService = none ∧ ReturnedToDefer t ∧
        t.now = max s.now (r.since + 80) ∧
        { e with retries := e.retries + 1, backoff := none } ∈ t.cau.queue ∧
        t.cau.queue.length = s.cau.queue.length ∧ t.fre = s.fre ∧ t.dtc = s.dtc ∧ t.nbt = s.nbt ∧
        t.mst = s.mst ∧ t.tlu = s.tlu ∧ t.emu = s.emu ∧ t.ocu = s.ocu) ∧
    (¬(e.retries < 4 ∧ r.deferred = false) →
      ∃ t, exec .ackWaitExpiry s = .next t ∧ t.cau.inService = none ∧ ReturnedToDefer t ∧
        t.now = max s.now (r.since + 80) ∧
        (∀ q ∈ t.cau.queue, q.number ≠ e.number) ∧
        t.fre = { s.fre with counters := { s.fre.counters with
          txFailures := min 255 (s.fre.counters.txFailures + if e.retries < 4 then 0 else 1) } } ∧
        (∀ n x y, e.req.tag = .reply n → x ∈ s.mst.entries → x.entry = n → x.reply = some y →
          y.state = .queued ∨ y.state = .sent →
          { x with reply := some { y with state := .failed } } ∈ t.mst.entries) ∧
        (∀ n, e.req.tag = .fareRecord n → recordInFlight n s = true →
          t.tlu.hold = some s.nbt.ticks ∧ ∃ x ∈ t.tlu.log, x.number = n ∧ x.state = .unsent) ∧
        t.dtc = s.dtc ∧ t.fmr = s.fmr ∧ t.lines = s.lines)

/-- A delivered TARIFF segment (R128, R129): one of a newer version is staged, afresh or beside the parts
of its set; a set with every part is checked, the buffer emptied, and a good set becomes pending. -/
def Obligations.TariffSegmentsMakeThePendingSet : Prop :=
  ∀ (f : AirFrame) (p : TariffPayload) (s : State), Delivered .tariff f s →
    parseTariff f.payload = some p →
    (newerVersion p.version s = false ∨
        (∃ g, s.tlu.staging = some g ∧ g.version = p.version ∧ ¬(g.count = p.count ∧ g.setCrc = p.setCrc)) →
      ∃ t, exec (.tariff f) s = .next t ∧ t.tlu.staging = s.tlu.staging ∧
        t.tlu.pendingSet = s.tlu.pendingSet ∧ t.tlu.active = s.tlu.active ∧ t.dtc = s.dtc ∧
        t.fmr = s.fmr ∧ t.lines = s.lines) ∧
    (∀ g : Staging, newerVersion p.version s = true →
      ((∀ old, s.tlu.staging = some old → old.version ≠ p.version) ∧
          g = ⟨p.version, p.count, p.setCrc, [(p.index, p.bytes)], s.now + 60000⟩ ∨
        ∃ old, s.tlu.staging = some old ∧ old.version = p.version ∧ old.count = p.count ∧
          old.setCrc = p.setCrc ∧
          g = { old with segments := old.segments.filter (·.1 ≠ p.index) ++ [(p.index, p.bytes)] }) →
      ∃ t, exec (.tariff f) s = .next t ∧
        t.tlu.staging = (if g.isComplete then none else some g) ∧
        t.tlu.pendingSet =
          (if g.isComplete && g.checks then some (decodeSet g.bytes) else s.tlu.pendingSet) ∧
        t.tlu.active = s.tlu.active ∧ t.dtc = s.dtc ∧ t.fmr = s.fmr ∧ t.lines = s.lines)

/-! ## Other cabs' alarms -/

/-- ALARM, ALARM_CLEAR and ALARM_SEEN of other cabs (R74, R77, R78, R80, R184, R190, R191). A first copy of an
ALARM or ALARM_CLEAR leaves its key and is scheduled for relay where the conditions hold, with its delay by
the distance; a copy of a greater hop cancels a record not ON_AIR, any other copy leaves the relays. An ALARM
enters or refreshes the alarm list, with the ALARM_NEAR tone for a new origin; a newer clear ends the entry.
An overheard acknowledgement marks it SEEN and cancels its relays; one for this station's own call
acknowledges it. For a copy from home dispatch each queued frame stands in the class of its kind. That the
scheduler takes a copy before the EMU is log 35. -/
def Obligations.AlarmFramesKeepListAndRelays : Prop :=
  ∀ (f : AirFrame) (s : State),
    (∀ (kind : AlarmKind) (c : Instr) (p : AlarmPayload),
      kind = .alarm ∧ c = .alarm f ∨ kind = .clear ∧ c = .alarmClear f →
      Delivered (alarmFrameKind kind) f s → parseAlarm f.payload = some p →
      (f.header.source = s.stc.config.home → ClassesByKind s) →
      ∃ t, exec c s = .next t ∧
        (p.origin = s.own → t.nbt.relays = s.nbt.relays ∧ t.nbt.dups = s.nbt.dups) ∧
        (p.origin ≠ s.own →
          (s.relay? ⟨p.origin, kind, p.serial⟩ = none →
            hasKey ⟨p.origin, alarmFrameKind kind, p.serial⟩ s = false →
            hasKey ⟨p.origin, alarmFrameKind kind, p.serial⟩ t = true ∧
            (MayRelay ⟨p.origin, kind, p.serial⟩ f.header.hop s →
              { key := ⟨p.origin, kind, p.serial⟩, heardHop := f.header.hop, payload := f.payload,
                slotsLeft := 8 - min 7 (heardDistance f.header s / 50), state := .delay } ∈ t.nbt.relays) ∧
            (¬MayRelay ⟨p.origin, kind, p.serial⟩ f.header.hop s → t.nbt.relays = s.nbt.relays)) ∧
          (s.relay? ⟨p.origin, kind, p.serial⟩ = none →
            hasKey ⟨p.origin, alarmFrameKind kind, p.serial⟩ s = true →
            t.nbt.relays = s.nbt.relays ∧ t.nbt.dups = s.nbt.dups) ∧
          ∀ r, s.relay? ⟨p.origin, kind, p.serial⟩ = some r →
            (r.heardHop < f.header.hop → r.state ≠ .onAir →
              t.relay? ⟨p.origin, kind, p.serial⟩ = none) ∧
            (f.header.hop ≤ r.heardHop ∨ r.state = .onAir → t.nbt.relays = s.nbt.relays)) ∧
        (p.origin = s.own ∨ isCab p.origin = false → t.emu.alarms = s.emu.alarms) ∧
        (kind = .alarm → isCab p.origin = true → p.origin ≠ s.own → s.alarmEntry p.origin = none →
          { origin := p.origin, lastSerial := p.serial, lastRelayed := none, seen := p.seen,
            lastHeard := s.now } ∈ t.emu.alarms ∧
          t.cns.buzzer = buzzerAfter .alarmNear s ∧
          (StoreWf s → hasPlace s = true →
            ∃ m ∈ t.mst.entries,
              m.name = .notice (.alarmNear p.origin) ∧ m.state = .unread ∧ m.pin = true)) ∧
        (∀ a, kind = .alarm → isCab p.origin = true → p.origin ≠ s.own → s.alarmEntry p.origin = some a →
          { a with
            lastHeard := s.now
            lastSerial := if newerSerial p.serial a.lastSerial then p.serial else a.lastSerial
            seen := a.seen || (newerSerial p.serial a.lastSerial && p.seen) } ∈ t.emu.alarms) ∧
        (kind = .clear → s.alarmEntry p.origin = none → t.emu.alarms = s.emu.alarms) ∧
        (∀ a, kind = .clear → isCab p.origin = true → p.origin ≠ s.own → s.alarmEntry p.origin = some a →
          (newerSerial p.serial a.lastSerial = true → t.alarmEntry p.origin = none) ∧
          (newerSerial p.serial a.lastSerial = false → t.emu.alarms = s.emu.alarms)) ∧
        (f.header.source ≠ s.stc.config.home → t.tlu = s.tlu) ∧
        t.emu.state = s.emu.state ∧ t.dtc = s.dtc ∧ t.fmr = s.fmr ∧ t.ocu = s.ocu ∧ t.lines = s.lines) ∧
    (∀ n, Delivered .alarmSeen f s → parseAlarmSeen f.payload = some n →
      (f.header.dest ≠ s.own →
        ∃ t, exec (.alarmSeen f) s = .next t ∧
          t.emu.alarms = s.emu.alarms.map (fun a =>
            if a.origin = f.header.dest then { a with seen := true } else a) ∧
          hasKey ⟨f.header.dest, .alarmSeen, n⟩ t = true ∧
          (∀ k r, s.relay? ⟨f.header.dest, k, n⟩ = some r → r.state ≠ .onAir →
            t.relay? ⟨f.header.dest, k, n⟩ = none) ∧
          t.emu.state = s.emu.state ∧ t.dtc = s.dtc ∧ t.fmr = s.fmr ∧ t.lines = s.lines) ∧
      (f.header.dest = s.own → seenMatches n s = true →
        ∃ t, exec (.alarmSeen f) s = .next t ∧
          (s.emu.state = .active → t.emu.state = .acknowledged) ∧
          (s.emu.state ≠ .active → t.emu.state = s.emu.state) ∧
          (s.emu.state = .active ∨ s.emu.state = .covert →
            t.emu.seen = true ∧ t.emu.schedule = some ⟨.slow, 60000, s.now + 60000⟩) ∧
          (s.emu.state ≠ .active → s.emu.state ≠ .covert →
            t.emu.seen = s.emu.seen ∧ t.emu.schedule = s.emu.schedule) ∧
          t.dtc = s.dtc ∧ t.fmr = s.fmr ∧ t.lines = s.lines))

/-! ## The channel -/

/-- The access procedure for the best unmasked frame (R51 to R56, R58): a carrier defers it, the clear channel
begins its class gap, the gap's end draws the backoff where there is none, each clear slot takes one off, and
at 0 it is keyed (or, in loopback, sent at once), unless CD is asserted at that very moment: then it goes back
to DEFER with the count it has, 0 too. At its first entry into service its originator is told (R50): a bid is
SENT, with a WITHDRAW asked for where the contest is given up (R92), a QUEUED reply is SENT (R155), a relay is
ON_AIR and its serial the last relayed of its origin where it is newer (R81); a retry tells nothing. The clock
is log 2, the moment of CD log 39. -/
def Obligations.CarrierGapAndBackoffLeadToService : Prop :=
  ∀ (e : QueueEntry) (s : State), s.running = true → s.cau.inService = none → bestEntry s = some e →
    s.inhibited = false →
    (∃ t, exec .cdAsserted s = .next t ∧ t.lines = { s.lines with cd := true } ∧
      t.cau.access.phase = .defer ∧ t.cau.access.candidate = some e.number ∧
      t.cau.inService = none ∧ t.fre = s.fre ∧ t.dtc = s.dtc ∧ t.fmr = s.fmr ∧
      ((∀ q : QueueEntry, s.channelBusy = false → s.cau.access.candidate = some q.number →
          s.entry? q.number = some q →
          (s.cau.access.phase = .gap → s.now < s.cau.access.since + (q.req.cls + 2) * 20) ∧
          (s.cau.access.phase = .backoff → s.now < s.cau.access.since + 20)) →
        Settled { s with lines := { s.lines with cd := true } } t)) ∧
    (s.fre.ackTx = none →
      ∃ t, exec .cdClear s = .next t ∧ Settled { s with lines := { s.lines with cd := false } } t ∧
        (s.cau.access.phase = .defer → t.cau.access = ⟨.gap, some e.number, s.now⟩)) ∧
    (∀ (phase : AccessPhase) (c : Instr) (count length : Nat),
      (phase = .gap ∧ c = .gapEnd ∧ length = (e.req.cls + 2) * 20 ∧
        count = (match e.backoff with
          | some n => n
          | none => s.cau.rng.toNat % contentionWindow e.req.cls e.retries s.activeNeighbours) ∨
        phase = .backoff ∧ c = .backoffSlotEnd ∧ length = 20 ∧ e.backoff = some (count + 1)) →
      s.cau.access.phase = phase → s.cau.access.candidate = some e.number → s.channelBusy = false →
      s.entry? e.number = some e →
      (∃ t, exec c s = .next t ∧ t.now = max s.now (s.cau.access.since + length) ∧
        (∃ q ∈ t.cau.queue, q.number = e.number ∧ q.backoff = some count ∧ q.req = e.req) ∧
        (count ≠ 0 → t.cau.access = ⟨.backoff, some e.number, t.now⟩ ∧ t.cau.inService = none ∧
          t.fre = s.fre) ∧
        (count = 0 → s.stc.loopback = false →
          t.cau.inService = some ⟨e.number, .keyup, t.now, none, false⟩ ∧ t.fre.rx = .suspended ∧
          t.txKey = true) ∧
        (count = 0 → s.stc.loopback = true →
          t.cau.inService = some ⟨e.number, .sending, t.now, none, false⟩ ∧ t.fre.onAir.isSome = true) ∧
        (count = 0 → InServiceTold e s t) ∧
        (count ≠ 0 → t.ocu = s.ocu ∧ t.mst = s.mst ∧ t.nbt = s.nbt ∧ t.emu = s.emu) ∧
        t.dtc = s.dtc ∧ t.fmr = s.fmr ∧ t.lines = s.lines ∧ t.emu.state = s.emu.state) ∧
      (s.cau.access.since + length ≤ s.now →
        ∃ t, exec .cdAsserted s = .next t ∧ t.now = s.now ∧
          t.cau.access = ⟨.defer, some e.number, s.now⟩ ∧ t.cau.inService = none ∧
          (∃ q ∈ t.cau.queue, q.number = e.number ∧ q.backoff = some count ∧ q.req = e.req)))

/-- The first bit of a frame (R22, R24, R25, R27, R28, R38, R40, R58, R79, R91, R97, R135, R154, R173, R182):
tKEYUP after keying, the frame is built from the state of that moment, with the status header, the next
sequence number unless a retry keeps its own, and the payload of its originator, field by field; its bits go
out on TXD from the preamble on; the start cause is handed over, the transmission counted. The clock is log
2, the bit of TXD at a millisecond log 40. -/
def Obligations.KeyupEndBuildsTheFrame : Prop :=
  ∀ s : State, s.running = true →
    (∀ (r : InService) (e : QueueEntry), s.fre.ackTx = none → s.cau.inService = some r →
      s.serviceEntry = some e → r.phase = .keyup →
      ∃ t x, exec .keyupEnd s = .next t ∧ t.fre.onAir = some x ∧ x.kind = e.req.kind ∧
        x.frame.header =
          { fleet := s.stc.config.fleet, hop := e.req.hop, ackReq := e.req.ackReq, source := s.own,
            dest := e.req.dest, seq := e.seq.getD (s.fre.seq + 1), duty := dutyCode s.dtc.duty,
            emergency := s.emergencyFlag, fixValid := s.dtc.fixValid,
            cause := causeCode s.stc.pendingCause, position := s.position.getD ⟨0, 0⟩ } ∧
        x.frame.payload = (payloadOf e.req s).1 ∧ PayloadByRule e.req s x.frame.payload ∧
        SentOnTxd x s ∧
        (s.stc.loopback = false → ∀ d : Nat, ({ t with now := t.now + d } : State).txd =
          (x.txd[d * 9600 / 1000]?).getD true) ∧
        (∀ id o, e.req.tag = .offer id → e.req.kind = .bid → s.offer? id = some o → o.ownScore.isSome = true →
          t.offer? id = some { o with ownVacant := some (s.dtc.vacantSeconds / 60) }) ∧
        t.fre.seq = (if e.seq.isSome then s.fre.seq else s.fre.seq + 1) ∧
        t.cau.inService = some { r with phase := .sending, since := t.now } ∧
        (∃ q ∈ t.cau.queue, q.number = e.number ∧ q.seq = some x.frame.header.seq) ∧
        (e.req.tag = .ownAlarm → t.emu = { s.emu with
          ownSerial := s.emu.ownSerial + 1
          firstSerial := if e.req.kind = .alarm ∧ s.emu.firstSerial = none then some (s.emu.ownSerial + 1)
            else s.emu.firstSerial }) ∧
        (e.req.tag ≠ .ownAlarm → t.emu = s.emu) ∧
        t.fre.counters = { s.fre.counters with
          transmissions := if 9999 ≤ s.fre.counters.transmissions then 0
            else s.fre.counters.transmissions + 1 } ∧
        t.stc.pendingCause = none ∧ t.cns.stretchSince = some t.now ∧
        t.now = max s.now (r.since + 5) ∧ t.dtc = s.dtc ∧ t.fmr = s.fmr ∧ t.tlu = s.tlu ∧
        t.mst = s.mst ∧ t.nbt = s.nbt ∧ t.lines = s.lines) ∧
    (∀ a : AckTx, s.fre.ackTx = some a → a.sent = false →
      ∃ t x, exec .keyupEnd s = .next t ∧ t.fre.onAir = some x ∧ x.kind = .ack ∧
        x.frame.header.dest = a.record.dest ∧ x.frame.header.source = s.own ∧
        x.frame.header.seq = s.fre.seq + 1 ∧ x.frame.header.ackReq = false ∧ x.frame.header.hop = 0 ∧
        x.frame.payload = [byte (kindCode a.record.kind), a.record.seq] ∧ SentOnTxd x s ∧ t.fre.seq = s.fre.seq + 1 ∧
        t.fre.ackTx = some { a with sent := true, since := t.now } ∧ t.now = max s.now (a.since + 5) ∧
        t.stc.pendingCause = none ∧ t.dtc = s.dtc ∧ t.fmr = s.fmr ∧ t.tlu = s.tlu ∧ t.mst = s.mst ∧
        t.nbt = s.nbt ∧ t.emu = s.emu ∧ t.lines = s.lines ∧ t.cau.queue = s.cau.queue)

/-- The last bit of a frame (R24, R29, R38, R42, R46, R58, R60, R62, R64, R81): TXKEY is released, TXD stands
at 1, as it does whenever TXKEY is released or no frame is on the air, the engine hunts and the beacon timer
reloads; a frame that asked for an acknowledgement waits for it, any other leaves the queue SENT: a relay's
record is freed, a contest frame changes no entry, and an own ALARM lets the own request that was held behind
it into the queue. At that end, and at a looped frame's, the procedure returns to DEFER, or to INHIBITED under
an inhibit (R52, R59). A looped frame counts as a good one and leaves the queue. Its header reaches no
neighbour, its payload no duplicate key and no relay scheduler: a looped ALARM enters or refreshes the alarm
list and a newer ALARM_CLEAR ends the entry, the own frames of the contest change no entry, and one that asked
for an acknowledgement is DELIVERED, its reply and its fare record with it. The clock is log 2, the airtime
rounded up to milliseconds log 25, the reload while QUIET is asserted log 34, the level of TXD in the keyup
log 40. -/
def Obligations.LastBitReleasesTheChannel : Prop :=
  (∀ s : State, s.txKey = false ∨ s.fre.onAir = none → s.txd = true) ∧
  ∀ s : State, s.running = true →
    (∀ (r : InService) (e : QueueEntry), s.fre.ackTx = none → s.cau.inService = some r →
      s.serviceEntry = some e → r.phase = .sending → s.stc.loopback = false →
      e.number < s.cau.nextEntry →
      ∃ t, exec .transmissionEnd s = .next t ∧ t.now = max s.now (r.since + airtimeNow s) ∧
        t.fre = { s.fre with onAir := none, rx := .hunt, window := 0, gathering := none } ∧
        t.txKey = false ∧ t.txd = true ∧ t.cau.beaconCount = beaconReload s ∧ t.cau.beaconLoaded = true ∧
        (e.req.ackReq = true →
          t.cau.inService = some { r with phase := .ackWait, since := t.now, endTime := some t.now } ∧
          t.cau.queue = s.cau.queue) ∧
        (e.req.ackReq = false →
          t.cau.inService = none ∧ ReturnedToDefer t ∧ (∀ q ∈ t.cau.queue, q.number ≠ e.number) ∧
          (∀ k, e.req.tag = .relay k.origin k.serial → e.req.kind = alarmFrameKind k.kind →
            t.nbt = { s.nbt with relays := s.nbt.relays.filter (·.key ≠ k) } ∧ t.emu = s.emu) ∧
          (∀ id, e.req.tag = .offer id → t.ocu = s.ocu) ∧
          (e.req.tag = .beacon →
            t.ocu = s.ocu ∧ t.mst = s.mst ∧ t.nbt = s.nbt ∧ t.tlu = s.tlu ∧ t.emu = s.emu) ∧
          (∀ q kind, e.req.tag = .ownAlarm → e.req.kind = .alarm → s.cau.held = some q →
            kind ∈ [FrameKind.alarm, .alarmClear] → q = ⟨kind, 0, 0, false, 0, .ownAlarm⟩ →
            s.cau.queue.length ≤ 16 →
            (∀ x ∈ s.cau.queue, x.number ≠ e.number → isOwnAlarm x.req = false) →
            t.cau.held = none ∧ ∃ x ∈ t.cau.queue, x.req = q ∧ x.enqueued = t.now)) ∧
        t.dtc = s.dtc ∧ t.fmr = s.fmr ∧ t.lines = s.lines) ∧
    (∀ a : AckTx, s.fre.ackTx = some a → a.sent = true →
      ∃ t, exec .transmissionEnd s = .next t ∧ t.now = max s.now (a.since + airtimeNow s) ∧
        t.fre = { s.fre with onAir := none, ackTx := none, rx := .hunt, window := 0, gathering := none } ∧
        t.cau.beaconCount = beaconReload s ∧ t.cau.queue = s.cau.queue ∧ t.dtc = s.dtc ∧
        t.fmr = s.fmr ∧ t.lines = s.lines ∧ t.emu = s.emu ∧ t.mst = s.mst) ∧
    (∀ (r : InService) (e : QueueEntry) (x : TxFrame), s.cau.inService = some r →
      s.serviceEntry = some e → s.fre.onAir = some x → r.phase = .sending → s.stc.loopback = true →
      e.number < s.cau.nextEntry →
      ∃ t, exec .loopedFrameEnd s = .next t ∧ t.now = max s.now (r.since + airtimeNow s) ∧
        t.fre.onAir = none ∧
        t.fre.counters.good = (if 9999 ≤ s.fre.counters.good then 0 else s.fre.counters.good + 1) ∧
        t.cau.inService = none ∧ ReturnedToDefer t ∧ (∀ q ∈ t.cau.queue, q.number ≠ e.number) ∧
        t.cau.beaconCount = beaconReload s ∧ LoopedAtOwner e x s t ∧ t.fmr = s.fmr ∧ t.lines = s.lines)

/-- The CAU's answers (R45 to R48), by the operation that takes a request and by two timers that make one. A
WITHDRAW cancels the waiting BID of its offer and queues behind one in service; a FARE merges with one of its
record and is refused beside another. The beacon timer's end asks for a BEACON, where none waits, and reloads
with jitter (R64); a full queue refuses it. A relay's delay ends in a request for the relay, one hop further, in
a queue with room, in its merging with the same relay, or in the end of its record (R76, R79). In a full queue
the relay takes the place of the newest frame of the worst class not in service, which the queue's order puts
last, and whose originator is told DROPPED (R62), or is refused where none is of a worse class. Rows of timers
counted in ticks act once the count is reached (log 3). -/
def Obligations.BeaconAndRelayTimersAskForFrames : Prop :=
  (∀ (id : OfferId) (s : State),
    (∀ x ∈ s.cau.queue, x.req.tag = .offer id → x.req.kind ≠ .withdraw) →
    (∀ b ∈ s.cau.queue, b.req.tag = .offer id → b.req.kind = .bid → s.isInService b = false →
      (∀ x ∈ s.cau.queue, x.req.tag = .offer id → x.req.kind = .bid → s.isInService x = false → x = b) →
      requestFrame ⟨.withdraw, 0, 1, false, 0, .offer id⟩ s =
        ({ s with cau := { s.cau with queue := s.cau.queue.filter (·.number ≠ b.number) } }, .cancelled)) ∧
    ((∀ b ∈ s.cau.queue, b.req.tag = .offer id → b.req.kind = .bid → s.isInService b = true) →
      s.cau.queue.length < 16 →
      (requestFrame ⟨.withdraw, 0, 1, false, 0, .offer id⟩ s).2 = .queued ∧
      ∃ x ∈ (requestFrame ⟨.withdraw, 0, 1, false, 0, .offer id⟩ s).1.cau.queue,
        x.req = ⟨.withdraw, 0, 1, false, 0, .offer id⟩)) ∧
  (∀ (q : Request) (x : QueueEntry) (s : State), q.kind = .fare →
    s.cau.queue.find? (·.req.kind = .fare) = some x →
    requestFrame q s = (s, if x.req.tag = q.tag then .merged else .dropped)) ∧
  ∀ s : State, s.running = true →
    (s.cau.beaconCount = 0 → s.cau.beaconLoaded = true → s.lines.quiet = false → s.stc.fault = false →
      ∃ t, exec .beaconTimerExpiry s = .next t ∧
        t.cau.beaconCount =
          (if s.stc.power = .park then 4 * s.stc.config.tBeacon else s.stc.config.tBeacon) +
            s.cau.rng.toNat % (s.stc.config.tBeacon / 4 + 1) ∧
        ((∃ q ∈ s.cau.queue, q.req.kind = .beacon) → t.cau.queue = s.cau.queue) ∧
        ((∀ q ∈ s.cau.queue, q.req.kind ≠ .beacon) → s.cau.queue.length < 16 →
          ∃ q ∈ t.cau.queue, q.req = ⟨.beacon, 0, 4, false, 0, .beacon⟩) ∧
        (16 ≤ s.cau.queue.length → (∀ q ∈ s.cau.queue, q.req.cls ≤ 4) → t.cau.queue = s.cau.queue) ∧
        t.dtc = s.dtc ∧ t.fre = s.fre ∧ t.fmr = s.fmr ∧ t.lines = s.lines) ∧
    (∀ (k : RelayKey) (r : Relay), s.relay? k = some r → r.state = .delay → r.slotsLeft = 0 →
      (s.lines.quiet = true ∨ serialNewer k s = false →
        Gives (.relayDelayEnd k) s
          { s with nbt := { s.nbt with relays := s.nbt.relays.filter (·.key ≠ k) } }) ∧
      (s.lines.quiet = false → serialNewer k s = true → s.cau.queue.length < 16 →
        (∀ q ∈ s.cau.queue, q.req.tag = .relay k.origin k.serial → q.req.kind ≠ alarmFrameKind k.kind) →
        ∃ t, exec (.relayDelayEnd k) s = .next t ∧ t.relay? k = some { r with state := .queued } ∧
          (∃ q ∈ t.cau.queue, q.req = ⟨alarmFrameKind k.kind, 0, 0, false, r.heardHop + 1,
            .relay k.origin k.serial⟩) ∧
          t.dtc = s.dtc ∧ t.fre = s.fre ∧ t.fmr = s.fmr ∧ t.emu = s.emu ∧ t.mst = s.mst ∧
          t.lines = s.lines) ∧
      (s.lines.quiet = false → serialNewer k s = true →
        (∃ q ∈ s.cau.queue, q.req.tag = .relay k.origin k.serial ∧ q.req.kind = alarmFrameKind k.kind) →
        Gives (.relayDelayEnd k) s { s with nbt := { s.nbt with
          relays := s.nbt.relays.map fun x => if x.key = k then { x with state := .queued } else x } }) ∧
      (∀ w, s.lines.quiet = false → serialNewer k s = true → ClassesByKind s → WouldBeDisplaced w s →
        (∀ q ∈ s.cau.queue, q.req.tag = .relay k.origin k.serial → q.req.kind ≠ alarmFrameKind k.kind) →
        (0 < w.req.cls →
          ∃ t, exec (.relayDelayEnd k) s = .next t ∧ t.relay? k = some { r with state := .queued } ∧
            TakesThePlaceOf w ⟨alarmFrameKind k.kind, 0, 0, false, r.heardHop + 1,
              .relay k.origin k.serial⟩ s t ∧
            t.dtc = s.dtc ∧ t.fre = s.fre ∧ t.fmr = s.fmr ∧ t.emu = s.emu ∧ t.lines = s.lines) ∧
        (w.req.cls = 0 →
          Gives (.relayDelayEnd k) s
            { s with nbt := { s.nbt with relays := s.nbt.relays.filter (·.key ≠ k) } })))

/-! ## Ages and deadlines -/

/-- What ends by its age or deadline (R70, R72, R74, R130, R146, R150): a neighbour at tNBAGE, home's
reachability, a duplicate key at tDUPAGE, the staging buffer, an ASSEMBLING entry at tASSEMBLE, and an entry
whose validity has run out, which stays with its expired flag while it has PIN or is open. The clock is log
2, rows counted in ticks log 3, a row that cannot arise log 1. -/
def Obligations.AgesAndDeadlinesEndEntries : Prop :=
  ∀ s : State, s.running = true →
    (∀ (n : Station) (e : Neighbour), s.neighbour n = some e →
      Gives (.neighbourAgeOut n) s
        (if s.stc.config.tNbAge ≤ s.nbt.ticks - e.lastHeard then
          { s with nbt := { s.nbt with
            neighbours := s.nbt.neighbours.filter (·.station ≠ n)
            homeLevel := if n = s.stc.config.home then false else s.nbt.homeLevel } }
         else s)) ∧
    Gives .homeReachExpiry s
      (if s.homeReachable then s else { s with nbt := { s.nbt with homeLevel := false } }) ∧
    (∀ k : DupName, Gives (.duplicateKeyAgeOut k) s { s with nbt := { s.nbt with
      dups := s.nbt.dups.filter fun d => ¬(d.name = k ∧ 60 ≤ s.nbt.ticks - d.entered) } }) ∧
    (∀ g, s.tlu.staging = some g → Gives .stagingDeadline s
      { s with now := max s.now g.deadline, tlu := { s.tlu with staging := none } }) ∧
    (∀ (n : Station) (k : Serial) (e : MsgEntry), StoreWf s → s.msgNamed (.message n k) = some e →
      (e.state = .assembling → 30 ≤ e.assemblyAge →
        ∃ t, exec (.assemblyTimeout n k) s = .next t ∧
          t.mst.entries = s.mst.entries.filter (·.entry ≠ e.entry) ∧ t.dtc = s.dtc ∧ t.fmr = s.fmr ∧
          t.tlu = s.tlu ∧ t.nbt = s.nbt ∧ t.emu = s.emu ∧ t.ocu = s.ocu ∧ t.fre = s.fre) ∧
      (¬(e.state = .assembling ∧ 30 ≤ e.assemblyAge) → Gives (.assemblyTimeout n k) s s) ∧
      (e.state ≠ .assembling → e.validityLeft = some 0 →
        ∃ t, exec (.validityExpiry n k) s = .next t ∧
          t.mst.entries =
            (if e.pin = true ∨ s.mst.openEntry = some e.entry then
              s.mst.entries.map fun x =>
                if x.entry = e.entry then { x with expired := true, validityLeft := none } else x
             else s.mst.entries.filter (·.entry ≠ e.entry)) ∧
          t.mst.openEntry = s.mst.openEntry ∧ t.dtc = s.dtc ∧ t.fmr = s.fmr ∧ t.tlu = s.tlu ∧
          t.nbt = s.nbt ∧ t.emu = s.emu ∧ t.ocu = s.ocu ∧ t.fre = s.fre) ∧
      (¬(e.state ≠ .assembling ∧ e.validityLeft = some 0) → Gives (.validityExpiry n k) s s))

/-- The contest's deadlines (R48, R91, R95, R96, R97, R102, R104, R172): the bid delay's end asks for the BID,
which a full queue takes for its worst frame or refuses, the window's end wins or settles, tCONFIRM's end stops
the wait, LED_OFFER blinks in tACCEPT's last five seconds, and tOFFERHOLD frees. That a win needs the duty state
VACANT is log 26. The clock is log 2, a YIELDED entry at the window end log 21. -/
def Obligations.ContestDeadlinesAct : Prop :=
  ∀ (e : OfferEntry) (s : State), s.running = true → s.offer? e.id = some e →
    (∀ d, e.state = .waiting → e.delayDeadline = some d →
      ∃ t o, exec (.bidDelayEnd e.id) s = .next t ∧ t.offer? e.id = some o ∧ o.state = .bid ∧
        o.delayDeadline = none ∧ t.now = max s.now d ∧
        (s.cau.queue.length < 16 → (∀ q ∈ s.cau.queue, q.req.tag ≠ .offer e.id) →
          o.bidFrame = .inQueue ∧ ∃ q ∈ t.cau.queue, q.req = ⟨.bid, 0, 1, false, 0, .offer e.id⟩) ∧
        (∀ w, WouldBeDisplaced w s → ClassesByKind s → (∀ q ∈ s.cau.queue, q.req.tag ≠ .offer e.id) →
          (1 < w.req.cls → o.bidFrame = .inQueue ∧
            TakesThePlaceOf w ⟨.bid, 0, 1, false, 0, .offer e.id⟩ s t) ∧
          (w.req.cls ≤ 1 → o.bidFrame = .none ∧ t.cau.queue = s.cau.queue)) ∧
        t.dtc = s.dtc ∧ t.fre = s.fre ∧ t.fmr = s.fmr ∧ t.lines = s.lines) ∧
    (e.windowTaken = false → e.state = .bid → e.bidFrame = .sent → betterKnown s.own e = false →
      s.dtc.duty = .vacant →
      ∃ t o, exec (.windowEnd e.id) s = .next t ∧ t.dtc = { s.dtc with duty := .pending } ∧
        t.offer? e.id = some o ∧ o.state = .won ∧ o.windowTaken = true ∧
        o.jobTimer = some (t.now + 1000 * s.stc.config.tAccept) ∧ NoContestRuns t ∧
        t.now = max s.now e.windowEnd ∧ t.cns.view = .none ∧
        t.cns.buzzer = buzzerAfter .offer { s with now := t.now } ∧ t.fre = s.fre ∧ t.fmr = s.fmr ∧
        t.lines = s.lines) ∧
    (e.windowTaken = false →
      ¬(e.state = .bid ∧ e.bidFrame = .sent ∧ betterKnown s.own e = false ∧ s.dtc.duty = .vacant) →
      ∃ t o, exec (.windowEnd e.id) s = .next t ∧ t.offer? e.id = some o ∧ o.windowTaken = true ∧
        o.state = (match e.state with
          | .bid => if e.bidFrame = .sent then .passed else .late
          | .waiting => .passed
          | .yielded => .passed
          | st => st) ∧
        (e.state = .bid → e.bidFrame = .inQueue → o.bidFrame = .none) ∧
        t.now = max s.now e.windowEnd ∧ t.dtc = s.dtc ∧ t.fre = s.fre ∧ t.fmr = s.fmr ∧
        t.mst = s.mst ∧ t.emu = s.emu ∧ t.lines = s.lines) ∧
    (∀ d, confirmingOffer s = some e → e.jobTimer = some d →
      Gives .tConfirmExpiry s { s with
        now := max s.now d
        ocu := { offers := s.ocu.offers.map fun o => if o.id = e.id then { o with jobTimer := none } else o }
        dtc := { s.dtc with job := s.dtc.job.map fun j =>
          if j.id = e.id then { j with confirmWait := false } else j } }) ∧
    (∀ d, s.wonOffer? = some e → e.jobTimer = some d →
      ∃ t, exec .tAcceptLastFiveSeconds s = .next t ∧
        Settled { s with now := max s.now (d - 5000) } t ∧
        (s.stc.power = .run → s.dtc.duty = .pending →
          ∃ on since, t.cns.lamps.ledOffer = .blink on since)) ∧
    Gives (.offerHoldExpiry e.id) s
      (if e.state = .taken ∨ e.state = .won then s
       else { s with
        now := max s.now (e.windowEnd + 60000)
        ocu := { offers := s.ocu.offers.filter (·.id ≠ e.id) } })

/-- The console's timers (R158, R167, R172, R173, R175): the refresh gives the display module the display
memory, a dimming step moves the level by 1 and stops at the target, the activity stretch and the buzzer
pattern end, a blink changes its phase. While a pattern plays, BUZZ drives its tones and gaps, and else it is
silent. The clock is log 2, the sounds of BUZZ log 43. -/
def Obligations.ConsoleTimersAct : Prop :=
  (∀ s : State, s.cns.buzzer = none → s.buzz = .silent) ∧
  (∀ (s : State) (tone : Tone) (since : Moment), s.cns.buzzer = some (tone, since) →
    let ms := s.now - since
    s.buzz = match tone with
      | .alarmNear => if ms < 1800 ∧ ms % 400 < 200 then .tone else .silent
      | .offer => if ms < 650 ∧ ms % 250 < 150 then .tone else .silent
      | .error => if ms < 400 then .lowTone else .silent
      | .message => if ms < 300 ∧ ms % 200 < 100 then .tone else .silent
      | .click => if ms < 15 then .tick else .silent) ∧
  ∀ s : State, s.running = true →
    exec .displayRefresh s = .next { s with cns := { s.cns with module := s.cns.display } } ∧
    (∀ since, s.cns.dimSince = some since → ∃ level,
      level = (if s.cns.level < s.cns.target then s.cns.level + 1
        else if s.cns.target < s.cns.level then s.cns.level - 1 else s.cns.level) ∧
      Gives .dimStepEnd s { s with
        now := max s.now (since + 100)
        cns := { s.cns with
          level := level
          dimSince := if level = s.cns.target then none else some (max s.now (since + 100)) } }) ∧
    (∀ since, s.cns.stretchSince = some since →
      Gives .activityStretchEnd s
        { s with now := max s.now (since + 100), cns := { s.cns with stretchSince := none } }) ∧
    (∀ lamp on since, s.cns.lamps.get lamp = .blink on since → lampRule lamp s = .blinking →
      ∃ t, exec (.blinkPhaseEnd lamp) s = .next t ∧
        t.now = max s.now (since + match lamp with
          | .roofAlarm => 250
          | .ledMsg => 500
          | .ledOffer => 125
          | .roofVacant => 0
          | .ledRadio => 0) ∧
        t.cns.lamps.get lamp = .blink (!on) t.now ∧ Settled { s with now := t.now } t) ∧
    (∀ tone since, s.cns.buzzer = some (tone, since) →
      Gives .buzzerPatternEnd s
        { s with
          now := max s.now (since + match tone with
            | .alarmNear => 1800
            | .offer => 650
            | .error => 400
            | .message => 300
            | .click => 15)
          cns := { s.cns with buzzer := none } })

/-! ## The emergency call -/

/-- The ALARM button (R103, R179, R180, R181, R185, R188): a press in IDLE arms, a release in ARMING returns,
and a hold of tHOLD acts once: it makes the call ACTIVE, with the contests given up and the fast phase begun,
restarts the fast phase of a running call, or takes a CLEARING call back to ACTIVE with the slow period it
had. The clock is log 2. -/
def Obligations.AlarmButtonRaisesTheCall : Prop :=
  ∀ s : State, s.running = true → s.stc.fault = false →
    (s.lines.alarmPressed = false → Gives .alarmPressed s
      (if s.emu.state = .idle then { s with
        lines := { s.lines with alarmPressed := true }
        emu := { s.emu with state := .arming, holdTimer := some ⟨s.now, false⟩ }
        cau := { s.cau with mask := 1 }
        cns := { s.cns with buzzer := none } }
       else { s with
        lines := { s.lines with alarmPressed := true }
        emu := { s.emu with holdTimer := some ⟨s.now, false⟩ } })) ∧
    (s.lines.alarmPressed = true → s.emu.state = .arming →
      ∃ t, exec .alarmReleased s = .next t ∧ t.lines = { s.lines with alarmPressed := false } ∧
        t.emu.state = .idle ∧ t.emu.holdTimer = none ∧ t.emu.seen = false ∧ t.emu.duress = false ∧
        t.emu.code = [] ∧ t.emu.attempts = 0 ∧ t.emu.lockout = none ∧ t.emu.schedule = none ∧
        t.emu.ownSerial = s.emu.ownSerial ∧ t.emu.alarms = s.emu.alarms ∧ t.cau.mask = 4 ∧
        t.dtc = s.dtc ∧ t.ocu = s.ocu ∧ t.fre = s.fre) ∧
    (s.lines.alarmPressed = true → s.emu.state ≠ .arming →
      Gives .alarmReleased s { s with
        lines := { s.lines with alarmPressed := false }
        emu := { s.emu with holdTimer := none } }) ∧
    (∀ h, s.emu.holdTimer = some h → h.acted = true → Gives .holdTimerExpiry s s) ∧
    (∀ h, s.emu.holdTimer = some h → h.acted = false →
      (s.emu.state = .arming → PendingWf s →
        ∃ t, exec .holdTimerExpiry s = .next t ∧ t.now = max s.now (h.since + s.stc.config.tHoldMs) ∧
          t.emu.state = .active ∧ t.emu.holdTimer = some ⟨h.since, true⟩ ∧ t.emu.elapsed = 0 ∧
          t.emu.seen = false ∧ t.emu.duress = false ∧ t.emu.firstSerial = none ∧ t.emu.code = [] ∧
          t.emu.schedule = some ⟨.fast 5, 30000, t.now + 5000⟩ ∧ t.stc.power = .run ∧
          NoContestRuns t ∧ (∀ o ∈ t.ocu.offers, o.state ≠ .won) ∧
          t.dtc.duty = (if s.dtc.duty = .pending then .vacant else s.dtc.duty) ∧
          (s.cau.queue = [] → (∀ o ∈ s.ocu.offers, o.state.running = false ∧ o.state ≠ .won) →
            ∃ q ∈ t.cau.queue, q.req = ⟨.alarm, 0, 0, false, 0, .ownAlarm⟩) ∧
          t.fre = s.fre ∧ t.fmr = s.fmr ∧ t.lines = s.lines) ∧
      (∀ c, s.emu.schedule = some c →
        s.emu.state = .active ∨ s.emu.state = .acknowledged ∨ s.emu.state = .covert →
        ∃ t, exec .holdTimerExpiry s = .next t ∧ t.now = max s.now (h.since + s.stc.config.tHoldMs) ∧
          t.emu.state = s.emu.state ∧ t.emu.seen = s.emu.seen ∧ t.emu.duress = s.emu.duress ∧
          t.emu.schedule = some ⟨.fast 5, c.period, t.now + 5000⟩ ∧ t.dtc = s.dtc ∧ t.fre = s.fre) ∧
      (s.emu.state = .clearing →
        ∃ t, exec .holdTimerExpiry s = .next t ∧ t.now = max s.now (h.since + s.stc.config.tHoldMs) ∧
          t.emu.state = .active ∧ t.emu.clearsSent = 0 ∧ t.emu.seen = false ∧ t.emu.duress = false ∧
          t.emu.elapsed = s.emu.elapsed ∧ t.emu.firstSerial = s.emu.firstSerial ∧
          t.emu.schedule = some ⟨.fast 5, s.emu.keptPeriod, t.now + 5000⟩ ∧ t.cau.mask = s.cau.mask ∧
          t.dtc = s.dtc ∧ t.ocu.offers.map (fun o => (o.id, o.state)) =
            s.ocu.offers.map (fun o => (o.id, o.state)) ∧ t.fre = s.fre))

/-- The emergency's clocks (R46, R48, R62, R181, R187, R188, R191): a due time asks for an ALARM and moves the
schedule on, a clear's due time asks for the next ALARM_CLEAR, the third one sent returns the call to IDLE,
the lockout and an alarm list entry end. The request for ALARM or ALARM_CLEAR enters a queue with room, takes
the place of the newest frame of the worst class in a full one, or is refused, upon which a clear is asked for
again tCLEAR later. It merges with an own frame of its kind that waits, replaces one of the other kind in its
place, and is held behind one in service; what it replaces is told DROPPED. The clock is log 2; that the wait
after a clear sent replaces an earlier one is log 42. -/
def Obligations.EmergencyTimersAct : Prop :=
  ∀ s : State, s.running = true →
    (∀ c, s.stc.fault = false → s.emu.schedule = some c →
      ∃ t, exec .alarmDue s = .next t ∧ t.now = max s.now c.due ∧
        t.emu.schedule = some (match c.phase with
          | .fast left =>
            if left ≤ 1 then ⟨.slow, c.period, t.now + c.period⟩
            else ⟨.fast (left - 1), c.period, t.now + 5000⟩
          | .slow => ⟨.slow, c.period, t.now + c.period⟩) ∧
        (s.cau.queue.length < 16 → (∀ q ∈ s.cau.queue, isOwnAlarm q.req = false) →
          ∃ q ∈ t.cau.queue, q.req = ⟨.alarm, 0, 0, false, 0, .ownAlarm⟩) ∧
        (∀ w, WouldBeDisplaced w s → (∀ q ∈ s.cau.queue, isOwnAlarm q.req = false) →
          (0 < w.req.cls → TakesThePlaceOf w ⟨.alarm, 0, 0, false, 0, .ownAlarm⟩ s t) ∧
          (w.req.cls = 0 → t.cau.queue = s.cau.queue)) ∧
        (∀ x, s.cau.queue.find? (fun q => isOwnAlarm q.req) = some x → MeetsOwnAlarm .alarm x s t) ∧
        t.emu.state = s.emu.state ∧ t.dtc = s.dtc ∧ t.fre = s.fre ∧ t.fmr = s.fmr) ∧
    (∀ d, s.stc.fault = false → s.emu.clearDue = some d →
      ∃ t, exec .clearDue s = .next t ∧ t.now = max s.now d ∧
        (s.cau.queue.length < 16 → (∀ q ∈ s.cau.queue, isOwnAlarm q.req = false) →
          t.emu = { s.emu with clearDue := none } ∧
          ∃ q ∈ t.cau.queue, q.req = ⟨.alarmClear, 0, 0, false, 0, .ownAlarm⟩) ∧
        (∀ w, WouldBeDisplaced w s → (∀ q ∈ s.cau.queue, isOwnAlarm q.req = false) →
          (0 < w.req.cls →
            t.emu.clearDue = none ∧ TakesThePlaceOf w ⟨.alarmClear, 0, 0, false, 0, .ownAlarm⟩ s t) ∧
          (w.req.cls = 0 → t.cau.queue = s.cau.queue ∧
            (s.emu.state = .clearing → t.emu.clearDue = some (t.now + 5000)))) ∧
        (∀ x, s.cau.queue.find? (fun q => isOwnAlarm q.req) = some x → MeetsOwnAlarm .alarmClear x s t) ∧
        t.emu = { s.emu with clearDue := t.emu.clearDue } ∧ t.dtc = s.dtc ∧ t.fre = s.fre ∧
        t.fmr = s.fmr) ∧
    (∀ (r : InService) (e : QueueEntry), s.fre.ackTx = none → s.cau.inService = some r →
      s.serviceEntry = some e → r.phase = .sending → s.stc.loopback = false →
      e.req = ⟨.alarmClear, 0, 0, false, 0, .ownAlarm⟩ → s.emu.state = .clearing →
      ∃ t, exec .transmissionEnd s = .next t ∧
        (s.emu.clearsSent < 2 → t.emu.state = .clearing ∧ t.emu.clearsSent = s.emu.clearsSent + 1 ∧
          t.emu.clearDue = some (t.now + 5000)) ∧
        (2 ≤ s.emu.clearsSent → s.lines.alarmPressed = false →
          t.emu.state = .idle ∧ t.cau.mask = 4 ∧ t.emu.code = [] ∧ t.emu.attempts = 0 ∧
          t.emu.lockout = none ∧ t.emu.seen = false ∧ t.emu.duress = false ∧ t.emu.clearDue = none) ∧
        (2 ≤ s.emu.clearsSent → s.lines.alarmPressed = true →
          t.emu.state = .arming ∧ t.cau.mask = 1 ∧ t.emu.holdTimer = some ⟨t.now, false⟩)) ∧
    (∀ d, s.stc.fault = false → s.emu.lockout = some (.running d) →
      Gives .lockoutExpiry s
        { s with now := max s.now d, emu := { s.emu with lockout := none, attempts := 0 } }) ∧
    (∀ (n : Station) (a : AlarmEntry), s.alarmEntry n = some a →
      ∃ t, exec (.alarmListExpiry n) s = .next t ∧ t.now = max s.now (a.lastHeard + 300000) ∧
        t.emu = { s.emu with alarms := s.emu.alarms.filter (·.origin ≠ n) } ∧ t.dtc = s.dtc ∧
        t.fre = s.fre ∧ t.fmr = s.fmr ∧ t.tlu = s.tlu)

/-! ## Encodings -/

/-- Frames decode as they are encoded (section 2.7, R25, R26): the header with every field at every value its
bits hold but the fleet code 0, which no image gives (`Header.wf` leaves it out), the payloads that the 4120
both sends and receives, and the fare reports pass the form test of FARE. The CRC gives 0x29B1 over
"123456789". -/
def Obligations.FramesDecodeAsEncoded : Prop :=
  (∀ (kind length : Nat) (h : Header), kind ≤ 15 → length ≤ 255 → h.wf = true →
    decodeHeader (encodeHeader kind h length) = some (kind, h, length)) ∧
  (∀ k : FrameKind, kindOfCode (kindCode k) = some k ∧ kindCode k ≤ 13) ∧
  (∀ i : OfferId, i.dispatch ≤ 4095 → parseOfferId (encodeOfferId i) = some i) ∧
  (∀ p : BidPayload, p.id.dispatch ≤ 4095 → p.score ≤ 32767 → p.vacant ≤ 255 →
    parseBid (encodeBid p) = some p) ∧
  (∀ p : MsgPayload, 1 ≤ p.index → p.index ≤ p.count → p.count ≤ 8 → p.validity ≤ 65535 →
    p.phrase ≤ 255 → p.text.length ≤ 40 → parseMsg (encodeMsg p) = some p) ∧
  (∀ p : AckPayload, p.kind ≤ 15 → parseAck (encodeAck p) = some p) ∧
  (∀ p : AlarmPayload, p.origin ≤ 4095 → p.duty ≤ 7 → p.elapsed ≤ 65535 → p.position.wf = true →
    (∀ i, p.job = some i → i.dispatch ≤ 4095) → parseAlarm (encodeAlarm p) = some p) ∧
  (∀ (n : Nat) (r : HireReport), 1 ≤ r.segments.length → r.segments.length ≤ 4 → r.extras.length ≤ 4 →
    fareWellFormed (encodeHireReport n r) = true) ∧
  (∀ (n : Nat) (r : ShiftReport), fareWellFormed (encodeShiftReport n r) = true) ∧
  crc16 (codes "123456789") = 0x29B1#16

/-! ## Invariants -/

/-- The state before the first start has every property that the statements below say steps keep: of the
display and what follows, the access procedure, the queue, the mask, the tables, the records, the meter, the
log, the store, the alarm list, the schedule and the counters. -/
def Obligations.InvariantsHoldAtReset : Prop :=
  DisplayWf State.reset ∧ ConsoleFollows State.reset ∧ ViewFollows State.reset ∧ AccessFollows State.reset ∧
  QueueWf State.reset ∧ ClassesByKind State.reset ∧ MaskWf State.reset ∧ NbtWf State.reset ∧ OffersWf State.reset ∧
  PendingWf State.reset ∧ RecordsWf State.reset ∧ NoContestInEmergency State.reset ∧
  MeterWf State.reset ∧ LogWf State.reset ∧ StoreWf State.reset ∧ StoreKeysOnce State.reset ∧
  AlarmsWf State.reset ∧ ScheduleWf State.reset ∧ CountersWf State.reset

/-- Every step keeps the display well formed, and the display, the lamps, the park timer and the view shown
with its pointer following the state (R158, R164, R172, R199). Where they follow, with the meter and the
counters in bounds, the display in RUN shows the status row, the pinned rows, the lines of the view and the
legend that R159, R160, R162 and R165 give, and the lamps are lit, blink or are dark by R172 and R173. The
separators of the lines are log 15, the rounding of their sums log 16, the park timer in PARK log 41. -/
def Obligations.StepsKeepTheConsole : Prop :=
  KeptByStep DisplayWf ∧ KeptByStep ConsoleFollows ∧ KeptByStep ViewFollows ∧
  ∀ s : State, s.running = true → ConsoleFollows s →
    LampsShow s ∧ (s.stc.power = .run → MeterWf s → CountersWf s → DisplayShows s)

/-- Every step keeps the outbound queue in order and within its limits, each frame in the class of its kind,
the class mask as the emergency state asks, and the access procedure where queue, mask, inhibits and carrier
put it (R44, R46, R51, R52). -/
def Obligations.StepsKeepTheQueue : Prop :=
  KeptByStep QueueWf ∧ KeptByStep ClassesByKind ∧ KeptByStep MaskWf ∧ KeptByStep AccessFollows

/-- Every step keeps the tables within their capacities with each key once (R67, R74, R75, R83, R84, R133,
R140, R141, R190): in the offer table one heard bid per station and entry, in the store one entry per source and
message number and one notice per key. -/
def Obligations.StepsKeepTheTables : Prop :=
  KeptByStep NbtWf ∧ KeptByStep OffersWf ∧ KeptByStep AlarmsWf ∧ KeptByStep StoreWf ∧
  KeptByStep (fun s => StoreWf s ∧ StoreKeysOnce s) ∧ KeptByStep LogWf

/-- Every step keeps one WON entry exactly in PENDING, the job and hire records with their duty states, no
contest in an armed emergency, and the alarm schedule to its states (R6, R12, R103, R106, R181). -/
def Obligations.StepsKeepTheRecords : Prop :=
  KeptByStep PendingWf ∧ KeptByStep RecordsWf ∧
  KeptByStep (fun s => PendingWf s ∧ NoContestInEmergency s) ∧ KeptByStep ScheduleWf

/-- Every step keeps the hire's fare the capped sum, its payable amount the rounded fare, its metres and
seconds in bounds, and the counters in their ranges (R1, R19, R40, R106, R112, R114, R116, R137, R178). -/
def Obligations.StepsKeepTheMeter : Prop := KeptByStep MeterWf ∧ KeptByStep CountersWf
end

