-- ==== Sys2Proof/Laws/Air.lean ====
section
/-! SUPPORT. The bits of a frame on the air: how many there are, and which byte each belongs to. -/

namespace Sys2Proof.Machine

@[simp] theorem be16_length (n : Nat) : (be16 n).length = 2 := rfl

@[simp] theorem byteBits_length (b : Byte) : (byteBits b).length = 8 := rfl

@[simp] theorem frameLead_length : frameLead.length = 6 := rfl

@[simp] theorem encodeHeader_length (kind : Nat) (h : Header) (length : Nat) :
    (encodeHeader kind h length).length = 13 := rfl

@[simp] theorem frameBytes_length (kind : Nat) (f : AirFrame) :
    (frameBytes kind f).length = 15 + f.payload.length := by
  simp [frameBytes]; omega

/-- A byte's bits, numbered from the most significant one (R24). -/
theorem byteBits_getElem (b : Byte) (i : Nat) (h : i < 8) : (byteBits b)[i]? = some (b.getLsbD (7 - i)) := by
  interval_cases i <;> simp [byteBits, BitVec.getMsbD]

/-- The bits of bytes in order: bit `i` of byte `j` stands at `8 * j + i`. -/
theorem bits_getElem (l : List Byte) (j i : Nat) (h : i < 8) :
    (l.flatMap byteBits)[8 * j + i]? = l[j]?.map fun b => b.getLsbD (7 - i) := by
  induction l generalizing j with
  | nil => rfl
  | cons b l ih =>
    cases j with
    | zero =>
      rw [List.flatMap_cons, Nat.mul_zero, Nat.zero_add, List.getElem?_append_left (by simpa using h),
        byteBits_getElem b i h]
      rfl
    | succ j =>
      have e : 8 * (j + 1) + i = 8 + (8 * j + i) := by ring
      rw [List.flatMap_cons, List.getElem?_append_right (by simp; omega), byteBits_length, e,
        Nat.add_sub_cancel_left, ih, List.getElem?_cons_succ]

/-- A frame is as long on the air as its airtime says (R25). -/
theorem airBits_length (kind : Nat) (f : AirFrame) :
    (airBits kind f).length = airtimeBits f.payload.length := by
  simp [airBits, airtimeBits, List.length_flatMap]; ring

/-- Which bit of which byte stands where in a frame on the air (R24, R25). -/
theorem airBits_getElem (kind : Nat) (f : AirFrame) (j i : Nat) (h : i < 8) :
    (airBits kind f)[8 * j + i]? =
      (frameLead ++ frameBytes kind f)[j]?.map fun b => b.getLsbD (7 - i) :=
  bits_getElem _ j i h

end Sys2Proof.Machine
end

