-- ==== Sys2Proof/Laws/State.lean ====
section
/-! SUPPORT. What a change of the state leaves: for each plain update one theorem that names every part
of State it does not touch, each part true by rfl. -/

namespace Sys2Proof.Machine

open Sys2Proof

@[simp] theorem State.reach_frame (t : Moment) (s : State) :
    (State.reach t s).lines = s.lines ∧ (State.reach t s).stc = s.stc ∧ (State.reach t s).dtc = s.dtc ∧
    (State.reach t s).fre = s.fre ∧ (State.reach t s).cau = s.cau ∧ (State.reach t s).nbt = s.nbt ∧
    (State.reach t s).ocu = s.ocu ∧ (State.reach t s).fmr = s.fmr ∧ (State.reach t s).tlu = s.tlu ∧
    (State.reach t s).mst = s.mst ∧ (State.reach t s).cns = s.cns ∧ (State.reach t s).emu = s.emu ∧
    (State.reach t s).tickAt = s.tickAt ∧ (State.reach t s).slotAt = s.slotAt ∧
    (State.reach t s).free = s.free ∧ (State.reach t s).pending = s.pending := by
  exact ⟨rfl, rfl, rfl, rfl, rfl, rfl, rfl, rfl, rfl, rfl, rfl, rfl, rfl, rfl, rfl, rfl⟩

@[simp] theorem State.nextFree_frame (s : State) :
    (State.nextFree s).lines = s.lines ∧ (State.nextFree s).stc = s.stc ∧
    (State.nextFree s).dtc = s.dtc ∧ (State.nextFree s).fre = s.fre ∧ (State.nextFree s).cau = s.cau ∧
    (State.nextFree s).nbt = s.nbt ∧ (State.nextFree s).ocu = s.ocu ∧ (State.nextFree s).fmr = s.fmr ∧
    (State.nextFree s).tlu = s.tlu ∧ (State.nextFree s).mst = s.mst ∧ (State.nextFree s).cns = s.cns ∧
    (State.nextFree s).emu = s.emu ∧ (State.nextFree s).now = s.now ∧
    (State.nextFree s).tickAt = s.tickAt ∧ (State.nextFree s).slotAt = s.slotAt ∧
    (State.nextFree s).pending = s.pending := by
  exact ⟨rfl, rfl, rfl, rfl, rfl, rfl, rfl, rfl, rfl, rfl, rfl, rfl, rfl, rfl, rfl, rfl⟩

@[simp] theorem State.updOffer_frame (id : OfferId) (f : OfferEntry → OfferEntry) (s : State) :
    (State.updOffer id f s).lines = s.lines ∧ (State.updOffer id f s).stc = s.stc ∧
    (State.updOffer id f s).dtc = s.dtc ∧ (State.updOffer id f s).fre = s.fre ∧
    (State.updOffer id f s).cau = s.cau ∧ (State.updOffer id f s).nbt = s.nbt ∧
    (State.updOffer id f s).fmr = s.fmr ∧ (State.updOffer id f s).tlu = s.tlu ∧
    (State.updOffer id f s).mst = s.mst ∧ (State.updOffer id f s).cns = s.cns ∧
    (State.updOffer id f s).emu = s.emu ∧ (State.updOffer id f s).now = s.now ∧
    (State.updOffer id f s).tickAt = s.tickAt ∧ (State.updOffer id f s).slotAt = s.slotAt ∧
    (State.updOffer id f s).free = s.free ∧ (State.updOffer id f s).pending = s.pending := by
  exact ⟨rfl, rfl, rfl, rfl, rfl, rfl, rfl, rfl, rfl, rfl, rfl, rfl, rfl, rfl, rfl, rfl⟩

@[simp] theorem State.freeOffer_frame (id : OfferId) (s : State) :
    (State.freeOffer id s).lines = s.lines ∧ (State.freeOffer id s).stc = s.stc ∧
    (State.freeOffer id s).dtc = s.dtc ∧ (State.freeOffer id s).fre = s.fre ∧
    (State.freeOffer id s).cau = s.cau ∧ (State.freeOffer id s).nbt = s.nbt ∧
    (State.freeOffer id s).fmr = s.fmr ∧ (State.freeOffer id s).tlu = s.tlu ∧
    (State.freeOffer id s).mst = s.mst ∧ (State.freeOffer id s).cns = s.cns ∧
    (State.freeOffer id s).emu = s.emu ∧ (State.freeOffer id s).now = s.now ∧
    (State.freeOffer id s).tickAt = s.tickAt ∧ (State.freeOffer id s).slotAt = s.slotAt ∧
    (State.freeOffer id s).free = s.free ∧ (State.freeOffer id s).pending = s.pending := by
  exact ⟨rfl, rfl, rfl, rfl, rfl, rfl, rfl, rfl, rfl, rfl, rfl, rfl, rfl, rfl, rfl, rfl⟩

@[simp] theorem State.updMsg_frame (n : Nat) (f : MsgEntry → MsgEntry) (s : State) :
    (State.updMsg n f s).lines = s.lines ∧ (State.updMsg n f s).stc = s.stc ∧
    (State.updMsg n f s).dtc = s.dtc ∧ (State.updMsg n f s).fre = s.fre ∧
    (State.updMsg n f s).cau = s.cau ∧ (State.updMsg n f s).nbt = s.nbt ∧
    (State.updMsg n f s).ocu = s.ocu ∧ (State.updMsg n f s).fmr = s.fmr ∧
    (State.updMsg n f s).tlu = s.tlu ∧ (State.updMsg n f s).cns = s.cns ∧
    (State.updMsg n f s).emu = s.emu ∧ (State.updMsg n f s).now = s.now ∧
    (State.updMsg n f s).tickAt = s.tickAt ∧ (State.updMsg n f s).slotAt = s.slotAt ∧
    (State.updMsg n f s).free = s.free ∧ (State.updMsg n f s).pending = s.pending := by
  exact ⟨rfl, rfl, rfl, rfl, rfl, rfl, rfl, rfl, rfl, rfl, rfl, rfl, rfl, rfl, rfl, rfl⟩

@[simp] theorem State.setReport_frame (n : Nat) (r : ReportState) (s : State) :
    (State.setReport n r s).lines = s.lines ∧ (State.setReport n r s).stc = s.stc ∧
    (State.setReport n r s).dtc = s.dtc ∧ (State.setReport n r s).fre = s.fre ∧
    (State.setReport n r s).cau = s.cau ∧ (State.setReport n r s).nbt = s.nbt ∧
    (State.setReport n r s).ocu = s.ocu ∧ (State.setReport n r s).fmr = s.fmr ∧
    (State.setReport n r s).mst = s.mst ∧ (State.setReport n r s).cns = s.cns ∧
    (State.setReport n r s).emu = s.emu ∧ (State.setReport n r s).now = s.now ∧
    (State.setReport n r s).tickAt = s.tickAt ∧ (State.setReport n r s).slotAt = s.slotAt ∧
    (State.setReport n r s).free = s.free ∧ (State.setReport n r s).pending = s.pending := by
  exact ⟨rfl, rfl, rfl, rfl, rfl, rfl, rfl, rfl, rfl, rfl, rfl, rfl, rfl, rfl, rfl, rfl⟩

@[simp] theorem State.updRelay_frame (k : RelayKey) (f : Relay → Relay) (s : State) :
    (State.updRelay k f s).lines = s.lines ∧ (State.updRelay k f s).stc = s.stc ∧
    (State.updRelay k f s).dtc = s.dtc ∧ (State.updRelay k f s).fre = s.fre ∧
    (State.updRelay k f s).cau = s.cau ∧ (State.updRelay k f s).ocu = s.ocu ∧
    (State.updRelay k f s).fmr = s.fmr ∧ (State.updRelay k f s).tlu = s.tlu ∧
    (State.updRelay k f s).mst = s.mst ∧ (State.updRelay k f s).cns = s.cns ∧
    (State.updRelay k f s).emu = s.emu ∧ (State.updRelay k f s).now = s.now ∧
    (State.updRelay k f s).tickAt = s.tickAt ∧ (State.updRelay k f s).slotAt = s.slotAt ∧
    (State.updRelay k f s).free = s.free ∧ (State.updRelay k f s).pending = s.pending := by
  exact ⟨rfl, rfl, rfl, rfl, rfl, rfl, rfl, rfl, rfl, rfl, rfl, rfl, rfl, rfl, rfl, rfl⟩

@[simp] theorem State.freeRelay_frame (k : RelayKey) (s : State) :
    (State.freeRelay k s).lines = s.lines ∧ (State.freeRelay k s).stc = s.stc ∧
    (State.freeRelay k s).dtc = s.dtc ∧ (State.freeRelay k s).fre = s.fre ∧
    (State.freeRelay k s).cau = s.cau ∧ (State.freeRelay k s).ocu = s.ocu ∧
    (State.freeRelay k s).fmr = s.fmr ∧ (State.freeRelay k s).tlu = s.tlu ∧
    (State.freeRelay k s).mst = s.mst ∧ (State.freeRelay k s).cns = s.cns ∧
    (State.freeRelay k s).emu = s.emu ∧ (State.freeRelay k s).now = s.now ∧
    (State.freeRelay k s).tickAt = s.tickAt ∧ (State.freeRelay k s).slotAt = s.slotAt ∧
    (State.freeRelay k s).free = s.free ∧ (State.freeRelay k s).pending = s.pending := by
  exact ⟨rfl, rfl, rfl, rfl, rfl, rfl, rfl, rfl, rfl, rfl, rfl, rfl, rfl, rfl, rfl, rfl⟩

@[simp] theorem State.updEntry_frame (n : Nat) (f : QueueEntry → QueueEntry) (s : State) :
    (State.updEntry n f s).lines = s.lines ∧ (State.updEntry n f s).stc = s.stc ∧
    (State.updEntry n f s).dtc = s.dtc ∧ (State.updEntry n f s).fre = s.fre ∧
    (State.updEntry n f s).nbt = s.nbt ∧ (State.updEntry n f s).ocu = s.ocu ∧
    (State.updEntry n f s).fmr = s.fmr ∧ (State.updEntry n f s).tlu = s.tlu ∧
    (State.updEntry n f s).mst = s.mst ∧ (State.updEntry n f s).cns = s.cns ∧
    (State.updEntry n f s).emu = s.emu ∧ (State.updEntry n f s).now = s.now ∧
    (State.updEntry n f s).tickAt = s.tickAt ∧ (State.updEntry n f s).slotAt = s.slotAt ∧
    (State.updEntry n f s).free = s.free ∧ (State.updEntry n f s).pending = s.pending := by
  exact ⟨rfl, rfl, rfl, rfl, rfl, rfl, rfl, rfl, rfl, rfl, rfl, rfl, rfl, rfl, rfl, rfl⟩

@[simp] theorem dequeue_frame (n : Nat) (s : State) :
    (dequeue n s).lines = s.lines ∧ (dequeue n s).stc = s.stc ∧ (dequeue n s).dtc = s.dtc ∧
    (dequeue n s).fre = s.fre ∧ (dequeue n s).nbt = s.nbt ∧ (dequeue n s).ocu = s.ocu ∧
    (dequeue n s).fmr = s.fmr ∧ (dequeue n s).tlu = s.tlu ∧ (dequeue n s).mst = s.mst ∧
    (dequeue n s).cns = s.cns ∧ (dequeue n s).emu = s.emu ∧ (dequeue n s).now = s.now ∧
    (dequeue n s).tickAt = s.tickAt ∧ (dequeue n s).slotAt = s.slotAt ∧ (dequeue n s).free = s.free ∧
    (dequeue n s).pending = s.pending := by
  exact ⟨rfl, rfl, rfl, rfl, rfl, rfl, rfl, rfl, rfl, rfl, rfl, rfl, rfl, rfl, rfl, rfl⟩

@[simp] theorem admitEntry_frame (q : Request) (s : State) :
    (admitEntry q s).lines = s.lines ∧ (admitEntry q s).stc = s.stc ∧ (admitEntry q s).dtc = s.dtc ∧
    (admitEntry q s).fre = s.fre ∧ (admitEntry q s).nbt = s.nbt ∧ (admitEntry q s).ocu = s.ocu ∧
    (admitEntry q s).fmr = s.fmr ∧ (admitEntry q s).tlu = s.tlu ∧ (admitEntry q s).mst = s.mst ∧
    (admitEntry q s).cns = s.cns ∧ (admitEntry q s).emu = s.emu ∧ (admitEntry q s).now = s.now ∧
    (admitEntry q s).tickAt = s.tickAt ∧ (admitEntry q s).slotAt = s.slotAt ∧ (admitEntry q s).free = s.free ∧
    (admitEntry q s).pending = s.pending := by
  exact ⟨rfl, rfl, rfl, rfl, rfl, rfl, rfl, rfl, rfl, rfl, rfl, rfl, rfl, rfl, rfl, rfl⟩

@[simp] theorem setLevel_frame (l : Nat) (s : State) :
    (setLevel l s).lines = s.lines ∧ (setLevel l s).stc = s.stc ∧ (setLevel l s).dtc = s.dtc ∧
    (setLevel l s).fre = s.fre ∧ (setLevel l s).cau = s.cau ∧ (setLevel l s).nbt = s.nbt ∧
    (setLevel l s).ocu = s.ocu ∧ (setLevel l s).fmr = s.fmr ∧ (setLevel l s).tlu = s.tlu ∧
    (setLevel l s).mst = s.mst ∧ (setLevel l s).emu = s.emu ∧ (setLevel l s).now = s.now ∧
    (setLevel l s).tickAt = s.tickAt ∧ (setLevel l s).slotAt = s.slotAt ∧ (setLevel l s).free = s.free ∧
    (setLevel l s).pending = s.pending := by
  exact ⟨rfl, rfl, rfl, rfl, rfl, rfl, rfl, rfl, rfl, rfl, rfl, rfl, rfl, rfl, rfl, rfl⟩

@[simp] theorem signalActivity_frame (s : State) :
    (signalActivity s).lines = s.lines ∧ (signalActivity s).stc = s.stc ∧
    (signalActivity s).dtc = s.dtc ∧ (signalActivity s).fre = s.fre ∧ (signalActivity s).cau = s.cau ∧
    (signalActivity s).nbt = s.nbt ∧ (signalActivity s).ocu = s.ocu ∧ (signalActivity s).fmr = s.fmr ∧
    (signalActivity s).tlu = s.tlu ∧ (signalActivity s).mst = s.mst ∧ (signalActivity s).emu = s.emu ∧
    (signalActivity s).now = s.now ∧ (signalActivity s).tickAt = s.tickAt ∧
    (signalActivity s).slotAt = s.slotAt ∧ (signalActivity s).free = s.free ∧
    (signalActivity s).pending = s.pending := by
  exact ⟨rfl, rfl, rfl, rfl, rfl, rfl, rfl, rfl, rfl, rfl, rfl, rfl, rfl, rfl, rfl, rfl⟩

@[simp] theorem silence_frame (s : State) :
    (silence s).lines = s.lines ∧ (silence s).stc = s.stc ∧ (silence s).dtc = s.dtc ∧
    (silence s).fre = s.fre ∧ (silence s).cau = s.cau ∧ (silence s).nbt = s.nbt ∧
    (silence s).ocu = s.ocu ∧ (silence s).fmr = s.fmr ∧ (silence s).tlu = s.tlu ∧
    (silence s).mst = s.mst ∧ (silence s).emu = s.emu ∧ (silence s).now = s.now ∧
    (silence s).tickAt = s.tickAt ∧ (silence s).slotAt = s.slotAt ∧ (silence s).free = s.free ∧
    (silence s).pending = s.pending := by
  exact ⟨rfl, rfl, rfl, rfl, rfl, rfl, rfl, rfl, rfl, rfl, rfl, rfl, rfl, rfl, rfl, rfl⟩

@[simp] theorem settleAccess_frame (s : State) :
    (settleAccess s).lines = s.lines ∧ (settleAccess s).stc = s.stc ∧ (settleAccess s).dtc = s.dtc ∧
    (settleAccess s).fre = s.fre ∧ (settleAccess s).nbt = s.nbt ∧ (settleAccess s).ocu = s.ocu ∧
    (settleAccess s).fmr = s.fmr ∧ (settleAccess s).tlu = s.tlu ∧ (settleAccess s).mst = s.mst ∧
    (settleAccess s).cns = s.cns ∧ (settleAccess s).emu = s.emu ∧ (settleAccess s).now = s.now ∧
    (settleAccess s).tickAt = s.tickAt ∧ (settleAccess s).slotAt = s.slotAt ∧
    (settleAccess s).free = s.free ∧ (settleAccess s).pending = s.pending := by
  exact ⟨rfl, rfl, rfl, rfl, rfl, rfl, rfl, rfl, rfl, rfl, rfl, rfl, rfl, rfl, rfl, rfl⟩

@[simp] theorem reloadBeacon_frame (s : State) :
    (reloadBeacon s).lines = s.lines ∧ (reloadBeacon s).stc = s.stc ∧ (reloadBeacon s).dtc = s.dtc ∧
    (reloadBeacon s).fre = s.fre ∧ (reloadBeacon s).nbt = s.nbt ∧ (reloadBeacon s).ocu = s.ocu ∧
    (reloadBeacon s).fmr = s.fmr ∧ (reloadBeacon s).tlu = s.tlu ∧ (reloadBeacon s).mst = s.mst ∧
    (reloadBeacon s).cns = s.cns ∧ (reloadBeacon s).emu = s.emu ∧ (reloadBeacon s).now = s.now ∧
    (reloadBeacon s).tickAt = s.tickAt ∧ (reloadBeacon s).slotAt = s.slotAt ∧
    (reloadBeacon s).free = s.free ∧ (reloadBeacon s).pending = s.pending := by
  exact ⟨rfl, rfl, rfl, rfl, rfl, rfl, rfl, rfl, rfl, rfl, rfl, rfl, rfl, rfl, rfl, rfl⟩

@[simp] theorem layOut_frame (s : State) :
    (layOut s).lines = s.lines ∧ (layOut s).stc = s.stc ∧ (layOut s).dtc = s.dtc ∧
    (layOut s).fre = s.fre ∧ (layOut s).cau = s.cau ∧ (layOut s).nbt = s.nbt ∧ (layOut s).ocu = s.ocu ∧
    (layOut s).fmr = s.fmr ∧ (layOut s).tlu = s.tlu ∧ (layOut s).mst = s.mst ∧ (layOut s).emu = s.emu ∧
    (layOut s).now = s.now ∧ (layOut s).tickAt = s.tickAt ∧ (layOut s).slotAt = s.slotAt ∧
    (layOut s).free = s.free ∧ (layOut s).pending = s.pending := by
  exact ⟨rfl, rfl, rfl, rfl, rfl, rfl, rfl, rfl, rfl, rfl, rfl, rfl, rfl, rfl, rfl, rfl⟩

@[simp] theorem followLamps_frame (s : State) :
    (followLamps s).lines = s.lines ∧ (followLamps s).stc = s.stc ∧ (followLamps s).dtc = s.dtc ∧
    (followLamps s).fre = s.fre ∧ (followLamps s).cau = s.cau ∧ (followLamps s).nbt = s.nbt ∧
    (followLamps s).ocu = s.ocu ∧ (followLamps s).fmr = s.fmr ∧ (followLamps s).tlu = s.tlu ∧
    (followLamps s).mst = s.mst ∧ (followLamps s).emu = s.emu ∧ (followLamps s).now = s.now ∧
    (followLamps s).tickAt = s.tickAt ∧ (followLamps s).slotAt = s.slotAt ∧
    (followLamps s).free = s.free ∧ (followLamps s).pending = s.pending := by
  exact ⟨rfl, rfl, rfl, rfl, rfl, rfl, rfl, rfl, rfl, rfl, rfl, rfl, rfl, rfl, rfl, rfl⟩

@[simp] theorem addMsg_frame (e : MsgEntry) (s : State) :
    (addMsg e s).lines = s.lines ∧ (addMsg e s).stc = s.stc ∧ (addMsg e s).dtc = s.dtc ∧
    (addMsg e s).fre = s.fre ∧ (addMsg e s).cau = s.cau ∧ (addMsg e s).nbt = s.nbt ∧
    (addMsg e s).ocu = s.ocu ∧ (addMsg e s).fmr = s.fmr ∧ (addMsg e s).tlu = s.tlu ∧
    (addMsg e s).cns = s.cns ∧ (addMsg e s).emu = s.emu ∧ (addMsg e s).now = s.now ∧
    (addMsg e s).tickAt = s.tickAt ∧ (addMsg e s).slotAt = s.slotAt ∧ (addMsg e s).free = s.free ∧
    (addMsg e s).pending = s.pending := by
  exact ⟨rfl, rfl, rfl, rfl, rfl, rfl, rfl, rfl, rfl, rfl, rfl, rfl, rfl, rfl, rfl, rfl⟩

@[simp] theorem beginShift_frame (s : State) :
    (beginShift s).lines = s.lines ∧ (beginShift s).stc = s.stc ∧ (beginShift s).dtc = s.dtc ∧
    (beginShift s).fre = s.fre ∧ (beginShift s).cau = s.cau ∧ (beginShift s).nbt = s.nbt ∧
    (beginShift s).ocu = s.ocu ∧ (beginShift s).fmr = s.fmr ∧ (beginShift s).mst = s.mst ∧
    (beginShift s).cns = s.cns ∧ (beginShift s).emu = s.emu ∧ (beginShift s).now = s.now ∧
    (beginShift s).tickAt = s.tickAt ∧ (beginShift s).slotAt = s.slotAt ∧ (beginShift s).free = s.free ∧
    (beginShift s).pending = s.pending := by
  exact ⟨rfl, rfl, rfl, rfl, rfl, rfl, rfl, rfl, rfl, rfl, rfl, rfl, rfl, rfl, rfl, rfl⟩

@[simp] theorem countImplausible_frame (s : State) :
    (countImplausible s).lines = s.lines ∧ (countImplausible s).stc = s.stc ∧
    (countImplausible s).dtc = s.dtc ∧ (countImplausible s).fre = s.fre ∧
    (countImplausible s).cau = s.cau ∧ (countImplausible s).nbt = s.nbt ∧
    (countImplausible s).ocu = s.ocu ∧ (countImplausible s).fmr = s.fmr ∧
    (countImplausible s).mst = s.mst ∧ (countImplausible s).cns = s.cns ∧
    (countImplausible s).emu = s.emu ∧ (countImplausible s).now = s.now ∧
    (countImplausible s).tickAt = s.tickAt ∧ (countImplausible s).slotAt = s.slotAt ∧
    (countImplausible s).free = s.free ∧ (countImplausible s).pending = s.pending := by
  exact ⟨rfl, rfl, rfl, rfl, rfl, rfl, rfl, rfl, rfl, rfl, rfl, rfl, rfl, rfl, rfl, rfl⟩

@[simp] theorem openHire_frame (t : TariffSet) (id : Option OfferId) (s : State) :
    (openHire t id s).lines = s.lines ∧ (openHire t id s).stc = s.stc ∧ (openHire t id s).dtc = s.dtc ∧
    (openHire t id s).fre = s.fre ∧ (openHire t id s).cau = s.cau ∧ (openHire t id s).nbt = s.nbt ∧
    (openHire t id s).ocu = s.ocu ∧ (openHire t id s).tlu = s.tlu ∧ (openHire t id s).mst = s.mst ∧
    (openHire t id s).cns = s.cns ∧ (openHire t id s).emu = s.emu ∧ (openHire t id s).now = s.now ∧
    (openHire t id s).tickAt = s.tickAt ∧ (openHire t id s).slotAt = s.slotAt ∧
    (openHire t id s).free = s.free ∧ (openHire t id s).pending = s.pending := by
  exact ⟨rfl, rfl, rfl, rfl, rfl, rfl, rfl, rfl, rfl, rfl, rfl, rfl, rfl, rfl, rfl, rfl⟩

@[simp] theorem ageStore_frame (s : State) :
    (ageStore s).lines = s.lines ∧ (ageStore s).stc = s.stc ∧ (ageStore s).dtc = s.dtc ∧
    (ageStore s).fre = s.fre ∧ (ageStore s).cau = s.cau ∧ (ageStore s).nbt = s.nbt ∧
    (ageStore s).ocu = s.ocu ∧ (ageStore s).fmr = s.fmr ∧ (ageStore s).tlu = s.tlu ∧
    (ageStore s).cns = s.cns ∧ (ageStore s).emu = s.emu ∧ (ageStore s).now = s.now ∧
    (ageStore s).tickAt = s.tickAt ∧ (ageStore s).slotAt = s.slotAt ∧ (ageStore s).free = s.free ∧
    (ageStore s).pending = s.pending := by
  exact ⟨rfl, rfl, rfl, rfl, rfl, rfl, rfl, rfl, rfl, rfl, rfl, rfl, rfl, rfl, rfl, rfl⟩

@[simp] theorem resumeMeter_frame (s : State) :
    (resumeMeter s).lines = s.lines ∧ (resumeMeter s).stc = s.stc ∧ (resumeMeter s).dtc = s.dtc ∧
    (resumeMeter s).fre = s.fre ∧ (resumeMeter s).cau = s.cau ∧ (resumeMeter s).nbt = s.nbt ∧
    (resumeMeter s).ocu = s.ocu ∧ (resumeMeter s).tlu = s.tlu ∧ (resumeMeter s).mst = s.mst ∧
    (resumeMeter s).cns = s.cns ∧ (resumeMeter s).emu = s.emu ∧ (resumeMeter s).now = s.now ∧
    (resumeMeter s).tickAt = s.tickAt ∧ (resumeMeter s).slotAt = s.slotAt ∧
    (resumeMeter s).free = s.free ∧ (resumeMeter s).pending = s.pending := by
  exact ⟨rfl, rfl, rfl, rfl, rfl, rfl, rfl, rfl, rfl, rfl, rfl, rfl, rfl, rfl, rfl, rfl⟩

@[simp] theorem setDuty_frame (d : DutyState) (s : State) :
    (setDuty d s).lines = s.lines ∧ (setDuty d s).stc = s.stc ∧ (setDuty d s).fre = s.fre ∧
    (setDuty d s).cau = s.cau ∧ (setDuty d s).nbt = s.nbt ∧ (setDuty d s).ocu = s.ocu ∧
    (setDuty d s).fmr = s.fmr ∧ (setDuty d s).tlu = s.tlu ∧ (setDuty d s).mst = s.mst ∧
    (setDuty d s).cns = s.cns ∧ (setDuty d s).emu = s.emu ∧ (setDuty d s).now = s.now ∧
    (setDuty d s).tickAt = s.tickAt ∧ (setDuty d s).slotAt = s.slotAt ∧ (setDuty d s).free = s.free ∧
    (setDuty d s).pending = s.pending := by
  exact ⟨rfl, rfl, rfl, rfl, rfl, rfl, rfl, rfl, rfl, rfl, rfl, rfl, rfl, rfl, rfl, rfl⟩

@[simp] theorem updJob_frame (id : OfferId) (f : JobRecord → JobRecord) (s : State) :
    (updJob id f s).lines = s.lines ∧ (updJob id f s).stc = s.stc ∧ (updJob id f s).fre = s.fre ∧
    (updJob id f s).cau = s.cau ∧ (updJob id f s).nbt = s.nbt ∧ (updJob id f s).ocu = s.ocu ∧
    (updJob id f s).fmr = s.fmr ∧ (updJob id f s).tlu = s.tlu ∧ (updJob id f s).mst = s.mst ∧
    (updJob id f s).cns = s.cns ∧ (updJob id f s).emu = s.emu ∧ (updJob id f s).now = s.now ∧
    (updJob id f s).tickAt = s.tickAt ∧ (updJob id f s).slotAt = s.slotAt ∧
    (updJob id f s).free = s.free ∧ (updJob id f s).pending = s.pending := by
  exact ⟨rfl, rfl, rfl, rfl, rfl, rfl, rfl, rfl, rfl, rfl, rfl, rfl, rfl, rfl, rfl, rfl⟩

@[simp] theorem updEmu_frame (f : Emu → Emu) (s : State) :
    (updEmu f s).lines = s.lines ∧ (updEmu f s).stc = s.stc ∧ (updEmu f s).dtc = s.dtc ∧
    (updEmu f s).fre = s.fre ∧ (updEmu f s).cau = s.cau ∧ (updEmu f s).nbt = s.nbt ∧
    (updEmu f s).ocu = s.ocu ∧ (updEmu f s).fmr = s.fmr ∧ (updEmu f s).tlu = s.tlu ∧
    (updEmu f s).mst = s.mst ∧ (updEmu f s).cns = s.cns ∧ (updEmu f s).now = s.now ∧
    (updEmu f s).tickAt = s.tickAt ∧ (updEmu f s).slotAt = s.slotAt ∧ (updEmu f s).free = s.free ∧
    (updEmu f s).pending = s.pending := by
  exact ⟨rfl, rfl, rfl, rfl, rfl, rfl, rfl, rfl, rfl, rfl, rfl, rfl, rfl, rfl, rfl, rfl⟩

@[simp] theorem setMask_frame (m : Nat) (s : State) :
    (setMask m s).lines = s.lines ∧ (setMask m s).stc = s.stc ∧ (setMask m s).dtc = s.dtc ∧
    (setMask m s).fre = s.fre ∧ (setMask m s).nbt = s.nbt ∧ (setMask m s).ocu = s.ocu ∧
    (setMask m s).fmr = s.fmr ∧ (setMask m s).tlu = s.tlu ∧ (setMask m s).mst = s.mst ∧
    (setMask m s).cns = s.cns ∧ (setMask m s).emu = s.emu ∧ (setMask m s).now = s.now ∧
    (setMask m s).tickAt = s.tickAt ∧ (setMask m s).slotAt = s.slotAt ∧ (setMask m s).free = s.free ∧
    (setMask m s).pending = s.pending := by
  exact ⟨rfl, rfl, rfl, rfl, rfl, rfl, rfl, rfl, rfl, rfl, rfl, rfl, rfl, rfl, rfl, rfl⟩

@[simp] theorem loseHome_frame (s : State) :
    (loseHome s).lines = s.lines ∧ (loseHome s).stc = s.stc ∧ (loseHome s).dtc = s.dtc ∧
    (loseHome s).fre = s.fre ∧ (loseHome s).cau = s.cau ∧ (loseHome s).ocu = s.ocu ∧
    (loseHome s).fmr = s.fmr ∧ (loseHome s).tlu = s.tlu ∧ (loseHome s).mst = s.mst ∧
    (loseHome s).cns = s.cns ∧ (loseHome s).emu = s.emu ∧ (loseHome s).now = s.now ∧
    (loseHome s).tickAt = s.tickAt ∧ (loseHome s).slotAt = s.slotAt ∧ (loseHome s).free = s.free ∧
    (loseHome s).pending = s.pending := by
  exact ⟨rfl, rfl, rfl, rfl, rfl, rfl, rfl, rfl, rfl, rfl, rfl, rfl, rfl, rfl, rfl, rfl⟩

@[simp] theorem tickRelays_frame (s : State) :
    (tickRelays s).lines = s.lines ∧ (tickRelays s).stc = s.stc ∧ (tickRelays s).dtc = s.dtc ∧
    (tickRelays s).fre = s.fre ∧ (tickRelays s).cau = s.cau ∧ (tickRelays s).ocu = s.ocu ∧
    (tickRelays s).fmr = s.fmr ∧ (tickRelays s).tlu = s.tlu ∧ (tickRelays s).mst = s.mst ∧
    (tickRelays s).cns = s.cns ∧ (tickRelays s).emu = s.emu ∧ (tickRelays s).now = s.now ∧
    (tickRelays s).tickAt = s.tickAt ∧ (tickRelays s).slotAt = s.slotAt ∧ (tickRelays s).free = s.free ∧
    (tickRelays s).pending = s.pending := by
  exact ⟨rfl, rfl, rfl, rfl, rfl, rfl, rfl, rfl, rfl, rfl, rfl, rfl, rfl, rfl, rfl, rfl⟩

@[simp] theorem scheduleRelay_frame (k : RelayKey) (h : Header) (p : List Byte) (s : State) :
    (scheduleRelay k h p s).lines = s.lines ∧ (scheduleRelay k h p s).stc = s.stc ∧
    (scheduleRelay k h p s).dtc = s.dtc ∧ (scheduleRelay k h p s).fre = s.fre ∧
    (scheduleRelay k h p s).cau = s.cau ∧ (scheduleRelay k h p s).ocu = s.ocu ∧
    (scheduleRelay k h p s).fmr = s.fmr ∧ (scheduleRelay k h p s).tlu = s.tlu ∧
    (scheduleRelay k h p s).mst = s.mst ∧ (scheduleRelay k h p s).cns = s.cns ∧
    (scheduleRelay k h p s).emu = s.emu ∧ (scheduleRelay k h p s).now = s.now ∧
    (scheduleRelay k h p s).tickAt = s.tickAt ∧ (scheduleRelay k h p s).slotAt = s.slotAt ∧
    (scheduleRelay k h p s).free = s.free ∧ (scheduleRelay k h p s).pending = s.pending := by
  exact ⟨rfl, rfl, rfl, rfl, rfl, rfl, rfl, rfl, rfl, rfl, rfl, rfl, rfl, rfl, rfl, rfl⟩

@[simp] theorem suspendReceive_frame (s : State) :
    (suspendReceive s).lines = s.lines ∧ (suspendReceive s).stc = s.stc ∧
    (suspendReceive s).dtc = s.dtc ∧ (suspendReceive s).cau = s.cau ∧ (suspendReceive s).nbt = s.nbt ∧
    (suspendReceive s).ocu = s.ocu ∧ (suspendReceive s).fmr = s.fmr ∧ (suspendReceive s).tlu = s.tlu ∧
    (suspendReceive s).mst = s.mst ∧ (suspendReceive s).cns = s.cns ∧ (suspendReceive s).emu = s.emu ∧
    (suspendReceive s).now = s.now ∧ (suspendReceive s).tickAt = s.tickAt ∧
    (suspendReceive s).slotAt = s.slotAt ∧ (suspendReceive s).free = s.free ∧
    (suspendReceive s).pending = s.pending := by
  exact ⟨rfl, rfl, rfl, rfl, rfl, rfl, rfl, rfl, rfl, rfl, rfl, rfl, rfl, rfl, rfl, rfl⟩

@[simp] theorem resumeReceive_frame (s : State) :
    (resumeReceive s).lines = s.lines ∧ (resumeReceive s).stc = s.stc ∧ (resumeReceive s).dtc = s.dtc ∧
    (resumeReceive s).cau = s.cau ∧ (resumeReceive s).nbt = s.nbt ∧ (resumeReceive s).ocu = s.ocu ∧
    (resumeReceive s).fmr = s.fmr ∧ (resumeReceive s).tlu = s.tlu ∧ (resumeReceive s).mst = s.mst ∧
    (resumeReceive s).cns = s.cns ∧ (resumeReceive s).emu = s.emu ∧ (resumeReceive s).now = s.now ∧
    (resumeReceive s).tickAt = s.tickAt ∧ (resumeReceive s).slotAt = s.slotAt ∧
    (resumeReceive s).free = s.free ∧ (resumeReceive s).pending = s.pending := by
  exact ⟨rfl, rfl, rfl, rfl, rfl, rfl, rfl, rfl, rfl, rfl, rfl, rfl, rfl, rfl, rfl, rfl⟩

@[simp] theorem beginTransmission_frame (t : TxFrame) (s : State) :
    (beginTransmission t s).lines = s.lines ∧ (beginTransmission t s).dtc = s.dtc ∧
    (beginTransmission t s).cau = s.cau ∧ (beginTransmission t s).nbt = s.nbt ∧
    (beginTransmission t s).ocu = s.ocu ∧ (beginTransmission t s).fmr = s.fmr ∧
    (beginTransmission t s).tlu = s.tlu ∧ (beginTransmission t s).mst = s.mst ∧
    (beginTransmission t s).emu = s.emu ∧ (beginTransmission t s).now = s.now ∧
    (beginTransmission t s).tickAt = s.tickAt ∧ (beginTransmission t s).slotAt = s.slotAt ∧
    (beginTransmission t s).free = s.free ∧ (beginTransmission t s).pending = s.pending := by
  exact ⟨rfl, rfl, rfl, rfl, rfl, rfl, rfl, rfl, rfl, rfl, rfl, rfl, rfl, rfl⟩

@[simp] theorem updCounters_frame (f : Counters → Counters) (s : State) :
    (updCounters f s).lines = s.lines ∧ (updCounters f s).stc = s.stc ∧ (updCounters f s).dtc = s.dtc ∧
    (updCounters f s).cau = s.cau ∧ (updCounters f s).nbt = s.nbt ∧ (updCounters f s).ocu = s.ocu ∧
    (updCounters f s).fmr = s.fmr ∧ (updCounters f s).tlu = s.tlu ∧ (updCounters f s).mst = s.mst ∧
    (updCounters f s).cns = s.cns ∧ (updCounters f s).emu = s.emu ∧ (updCounters f s).now = s.now ∧
    (updCounters f s).tickAt = s.tickAt ∧ (updCounters f s).slotAt = s.slotAt ∧
    (updCounters f s).free = s.free ∧ (updCounters f s).pending = s.pending := by
  exact ⟨rfl, rfl, rfl, rfl, rfl, rfl, rfl, rfl, rfl, rfl, rfl, rfl, rfl, rfl, rfl, rfl⟩

@[simp] theorem prepareAck_frame (k : FrameKind) (h : Header) (s : State) :
    (prepareAck k h s).lines = s.lines ∧ (prepareAck k h s).stc = s.stc ∧
    (prepareAck k h s).dtc = s.dtc ∧ (prepareAck k h s).cau = s.cau ∧ (prepareAck k h s).nbt = s.nbt ∧
    (prepareAck k h s).ocu = s.ocu ∧ (prepareAck k h s).fmr = s.fmr ∧ (prepareAck k h s).tlu = s.tlu ∧
    (prepareAck k h s).mst = s.mst ∧ (prepareAck k h s).cns = s.cns ∧ (prepareAck k h s).emu = s.emu ∧
    (prepareAck k h s).now = s.now ∧ (prepareAck k h s).tickAt = s.tickAt ∧
    (prepareAck k h s).slotAt = s.slotAt ∧ (prepareAck k h s).free = s.free ∧
    (prepareAck k h s).pending = s.pending := by
  exact ⟨rfl, rfl, rfl, rfl, rfl, rfl, rfl, rfl, rfl, rfl, rfl, rfl, rfl, rfl, rfl, rfl⟩

@[simp] theorem updHeard_frame (id : OfferId) (f : List HeardBid → List HeardBid) (s : State) :
    (updHeard id f s).lines = s.lines ∧ (updHeard id f s).stc = s.stc ∧ (updHeard id f s).dtc = s.dtc ∧
    (updHeard id f s).fre = s.fre ∧ (updHeard id f s).cau = s.cau ∧ (updHeard id f s).nbt = s.nbt ∧
    (updHeard id f s).fmr = s.fmr ∧ (updHeard id f s).tlu = s.tlu ∧ (updHeard id f s).mst = s.mst ∧
    (updHeard id f s).cns = s.cns ∧ (updHeard id f s).emu = s.emu ∧ (updHeard id f s).now = s.now ∧
    (updHeard id f s).tickAt = s.tickAt ∧ (updHeard id f s).slotAt = s.slotAt ∧
    (updHeard id f s).free = s.free ∧ (updHeard id f s).pending = s.pending := by
  exact ⟨rfl, rfl, rfl, rfl, rfl, rfl, rfl, rfl, rfl, rfl, rfl, rfl, rfl, rfl, rfl, rfl⟩

@[simp] theorem dropPrefix_frame (s : State) :
    (dropPrefix s).lines = s.lines ∧ (dropPrefix s).stc = s.stc ∧ (dropPrefix s).dtc = s.dtc ∧
    (dropPrefix s).fre = s.fre ∧ (dropPrefix s).cau = s.cau ∧ (dropPrefix s).nbt = s.nbt ∧
    (dropPrefix s).ocu = s.ocu ∧ (dropPrefix s).fmr = s.fmr ∧ (dropPrefix s).tlu = s.tlu ∧
    (dropPrefix s).mst = s.mst ∧ (dropPrefix s).emu = s.emu ∧ (dropPrefix s).now = s.now ∧
    (dropPrefix s).tickAt = s.tickAt ∧ (dropPrefix s).slotAt = s.slotAt ∧ (dropPrefix s).free = s.free ∧
    (dropPrefix s).pending = s.pending := by
  exact ⟨rfl, rfl, rfl, rfl, rfl, rfl, rfl, rfl, rfl, rfl, rfl, rfl, rfl, rfl, rfl, rfl⟩

@[simp] theorem setPrefix_frame (p : KeyPrefix) (s : State) :
    (setPrefix p s).lines = s.lines ∧ (setPrefix p s).stc = s.stc ∧ (setPrefix p s).dtc = s.dtc ∧
    (setPrefix p s).fre = s.fre ∧ (setPrefix p s).cau = s.cau ∧ (setPrefix p s).nbt = s.nbt ∧
    (setPrefix p s).ocu = s.ocu ∧ (setPrefix p s).fmr = s.fmr ∧ (setPrefix p s).tlu = s.tlu ∧
    (setPrefix p s).mst = s.mst ∧ (setPrefix p s).emu = s.emu ∧ (setPrefix p s).now = s.now ∧
    (setPrefix p s).tickAt = s.tickAt ∧ (setPrefix p s).slotAt = s.slotAt ∧
    (setPrefix p s).free = s.free ∧ (setPrefix p s).pending = s.pending := by
  exact ⟨rfl, rfl, rfl, rfl, rfl, rfl, rfl, rfl, rfl, rfl, rfl, rfl, rfl, rfl, rfl, rfl⟩

@[simp] theorem restartWake_frame (s : State) :
    (restartWake s).lines = s.lines ∧ (restartWake s).stc = s.stc ∧ (restartWake s).dtc = s.dtc ∧
    (restartWake s).fre = s.fre ∧ (restartWake s).cau = s.cau ∧ (restartWake s).nbt = s.nbt ∧
    (restartWake s).ocu = s.ocu ∧ (restartWake s).fmr = s.fmr ∧ (restartWake s).tlu = s.tlu ∧
    (restartWake s).mst = s.mst ∧ (restartWake s).emu = s.emu ∧ (restartWake s).now = s.now ∧
    (restartWake s).tickAt = s.tickAt ∧ (restartWake s).slotAt = s.slotAt ∧
    (restartWake s).free = s.free ∧ (restartWake s).pending = s.pending := by
  exact ⟨rfl, rfl, rfl, rfl, rfl, rfl, rfl, rfl, rfl, rfl, rfl, rfl, rfl, rfl, rfl, rfl⟩

@[simp] theorem wakeDisplay_frame (s : State) :
    (wakeDisplay s).lines = s.lines ∧ (wakeDisplay s).stc = s.stc ∧ (wakeDisplay s).dtc = s.dtc ∧
    (wakeDisplay s).fre = s.fre ∧ (wakeDisplay s).cau = s.cau ∧ (wakeDisplay s).nbt = s.nbt ∧
    (wakeDisplay s).ocu = s.ocu ∧ (wakeDisplay s).fmr = s.fmr ∧ (wakeDisplay s).tlu = s.tlu ∧
    (wakeDisplay s).mst = s.mst ∧ (wakeDisplay s).emu = s.emu ∧ (wakeDisplay s).now = s.now ∧
    (wakeDisplay s).tickAt = s.tickAt ∧ (wakeDisplay s).slotAt = s.slotAt ∧
    (wakeDisplay s).free = s.free ∧ (wakeDisplay s).pending = s.pending := by
  exact ⟨rfl, rfl, rfl, rfl, rfl, rfl, rfl, rfl, rfl, rfl, rfl, rfl, rfl, rfl, rfl, rfl⟩

@[simp] theorem addContact_frame (k : Key) (s : State) :
    (addContact k s).lines = s.lines ∧ (addContact k s).stc = s.stc ∧ (addContact k s).dtc = s.dtc ∧
    (addContact k s).fre = s.fre ∧ (addContact k s).cau = s.cau ∧ (addContact k s).nbt = s.nbt ∧
    (addContact k s).ocu = s.ocu ∧ (addContact k s).fmr = s.fmr ∧ (addContact k s).tlu = s.tlu ∧
    (addContact k s).mst = s.mst ∧ (addContact k s).emu = s.emu ∧ (addContact k s).now = s.now ∧
    (addContact k s).tickAt = s.tickAt ∧ (addContact k s).slotAt = s.slotAt ∧
    (addContact k s).free = s.free ∧ (addContact k s).pending = s.pending := by
  exact ⟨rfl, rfl, rfl, rfl, rfl, rfl, rfl, rfl, rfl, rfl, rfl, rfl, rfl, rfl, rfl, rfl⟩

@[simp] theorem dropContact_frame (k : Key) (s : State) :
    (dropContact k s).lines = s.lines ∧ (dropContact k s).stc = s.stc ∧ (dropContact k s).dtc = s.dtc ∧
    (dropContact k s).fre = s.fre ∧ (dropContact k s).cau = s.cau ∧ (dropContact k s).nbt = s.nbt ∧
    (dropContact k s).ocu = s.ocu ∧ (dropContact k s).fmr = s.fmr ∧ (dropContact k s).tlu = s.tlu ∧
    (dropContact k s).mst = s.mst ∧ (dropContact k s).emu = s.emu ∧ (dropContact k s).now = s.now ∧
    (dropContact k s).tickAt = s.tickAt ∧ (dropContact k s).slotAt = s.slotAt ∧
    (dropContact k s).free = s.free ∧ (dropContact k s).pending = s.pending := by
  exact ⟨rfl, rfl, rfl, rfl, rfl, rfl, rfl, rfl, rfl, rfl, rfl, rfl, rfl, rfl, rfl, rfl⟩

@[simp] theorem startSlow_frame (p : Nat) (s : State) :
    (startSlow p s).lines = s.lines ∧ (startSlow p s).stc = s.stc ∧ (startSlow p s).dtc = s.dtc ∧
    (startSlow p s).fre = s.fre ∧ (startSlow p s).cau = s.cau ∧ (startSlow p s).nbt = s.nbt ∧
    (startSlow p s).ocu = s.ocu ∧ (startSlow p s).fmr = s.fmr ∧ (startSlow p s).tlu = s.tlu ∧
    (startSlow p s).mst = s.mst ∧ (startSlow p s).cns = s.cns ∧ (startSlow p s).now = s.now ∧
    (startSlow p s).tickAt = s.tickAt ∧ (startSlow p s).slotAt = s.slotAt ∧
    (startSlow p s).free = s.free ∧ (startSlow p s).pending = s.pending := by
  exact ⟨rfl, rfl, rfl, rfl, rfl, rfl, rfl, rfl, rfl, rfl, rfl, rfl, rfl, rfl, rfl, rfl⟩

@[simp] theorem wrongAttempt_frame (s : State) :
    (wrongAttempt s).lines = s.lines ∧ (wrongAttempt s).stc = s.stc ∧ (wrongAttempt s).dtc = s.dtc ∧
    (wrongAttempt s).fre = s.fre ∧ (wrongAttempt s).cau = s.cau ∧ (wrongAttempt s).nbt = s.nbt ∧
    (wrongAttempt s).ocu = s.ocu ∧ (wrongAttempt s).fmr = s.fmr ∧ (wrongAttempt s).tlu = s.tlu ∧
    (wrongAttempt s).mst = s.mst ∧ (wrongAttempt s).cns = s.cns ∧ (wrongAttempt s).now = s.now ∧
    (wrongAttempt s).tickAt = s.tickAt ∧ (wrongAttempt s).slotAt = s.slotAt ∧
    (wrongAttempt s).free = s.free ∧ (wrongAttempt s).pending = s.pending := by
  exact ⟨rfl, rfl, rfl, rfl, rfl, rfl, rfl, rfl, rfl, rfl, rfl, rfl, rfl, rfl, rfl, rfl⟩

@[simp] theorem countGood_frame (s : State) :
    (countGood s).lines = s.lines ∧ (countGood s).stc = s.stc ∧ (countGood s).dtc = s.dtc ∧
    (countGood s).cau = s.cau ∧ (countGood s).nbt = s.nbt ∧ (countGood s).ocu = s.ocu ∧
    (countGood s).fmr = s.fmr ∧ (countGood s).tlu = s.tlu ∧ (countGood s).mst = s.mst ∧
    (countGood s).emu = s.emu ∧ (countGood s).now = s.now ∧ (countGood s).tickAt = s.tickAt ∧
    (countGood s).slotAt = s.slotAt ∧ (countGood s).free = s.free ∧ (countGood s).pending = s.pending := by
  exact ⟨rfl, rfl, rfl, rfl, rfl, rfl, rfl, rfl, rfl, rfl, rfl, rfl, rfl, rfl, rfl⟩

@[simp] theorem confirmJob_frame (id : OfferId) (s : State) :
    (confirmJob id s).lines = s.lines ∧ (confirmJob id s).stc = s.stc ∧ (confirmJob id s).fre = s.fre ∧
    (confirmJob id s).cau = s.cau ∧ (confirmJob id s).nbt = s.nbt ∧ (confirmJob id s).ocu = s.ocu ∧
    (confirmJob id s).fmr = s.fmr ∧ (confirmJob id s).tlu = s.tlu ∧ (confirmJob id s).mst = s.mst ∧
    (confirmJob id s).cns = s.cns ∧ (confirmJob id s).emu = s.emu ∧ (confirmJob id s).now = s.now ∧
    (confirmJob id s).tickAt = s.tickAt ∧ (confirmJob id s).slotAt = s.slotAt ∧
    (confirmJob id s).free = s.free ∧ (confirmJob id s).pending = s.pending := by
  exact ⟨rfl, rfl, rfl, rfl, rfl, rfl, rfl, rfl, rfl, rfl, rfl, rfl, rfl, rfl, rfl, rfl⟩

@[simp] theorem expireConfirm_frame (id : OfferId) (s : State) :
    (expireConfirm id s).lines = s.lines ∧ (expireConfirm id s).stc = s.stc ∧
    (expireConfirm id s).fre = s.fre ∧ (expireConfirm id s).cau = s.cau ∧
    (expireConfirm id s).nbt = s.nbt ∧ (expireConfirm id s).ocu = s.ocu ∧
    (expireConfirm id s).fmr = s.fmr ∧ (expireConfirm id s).tlu = s.tlu ∧
    (expireConfirm id s).mst = s.mst ∧ (expireConfirm id s).cns = s.cns ∧
    (expireConfirm id s).emu = s.emu ∧ (expireConfirm id s).now = s.now ∧
    (expireConfirm id s).tickAt = s.tickAt ∧ (expireConfirm id s).slotAt = s.slotAt ∧
    (expireConfirm id s).free = s.free ∧ (expireConfirm id s).pending = s.pending := by
  exact ⟨rfl, rfl, rfl, rfl, rfl, rfl, rfl, rfl, rfl, rfl, rfl, rfl, rfl, rfl, rfl, rfl⟩

@[simp] theorem conflictJob_frame (id : OfferId) (s : State) :
    (conflictJob id s).lines = s.lines ∧ (conflictJob id s).stc = s.stc ∧
    (conflictJob id s).fre = s.fre ∧ (conflictJob id s).cau = s.cau ∧ (conflictJob id s).nbt = s.nbt ∧
    (conflictJob id s).ocu = s.ocu ∧ (conflictJob id s).fmr = s.fmr ∧ (conflictJob id s).tlu = s.tlu ∧
    (conflictJob id s).mst = s.mst ∧ (conflictJob id s).cns = s.cns ∧ (conflictJob id s).emu = s.emu ∧
    (conflictJob id s).now = s.now ∧ (conflictJob id s).tickAt = s.tickAt ∧
    (conflictJob id s).slotAt = s.slotAt ∧ (conflictJob id s).free = s.free ∧
    (conflictJob id s).pending = s.pending := by
  exact ⟨rfl, rfl, rfl, rfl, rfl, rfl, rfl, rfl, rfl, rfl, rfl, rfl, rfl, rfl, rfl, rfl⟩

@[simp] theorem countBad_frame (s : State) :
    (countBad s).lines = s.lines ∧ (countBad s).stc = s.stc ∧ (countBad s).dtc = s.dtc ∧
    (countBad s).cau = s.cau ∧ (countBad s).nbt = s.nbt ∧ (countBad s).ocu = s.ocu ∧
    (countBad s).fmr = s.fmr ∧ (countBad s).tlu = s.tlu ∧ (countBad s).mst = s.mst ∧
    (countBad s).cns = s.cns ∧ (countBad s).emu = s.emu ∧ (countBad s).now = s.now ∧
    (countBad s).tickAt = s.tickAt ∧ (countBad s).slotAt = s.slotAt ∧ (countBad s).free = s.free ∧
    (countBad s).pending = s.pending := by
  exact ⟨rfl, rfl, rfl, rfl, rfl, rfl, rfl, rfl, rfl, rfl, rfl, rfl, rfl, rfl, rfl, rfl⟩

@[simp] theorem countForeign_frame (s : State) :
    (countForeign s).lines = s.lines ∧ (countForeign s).stc = s.stc ∧ (countForeign s).dtc = s.dtc ∧
    (countForeign s).cau = s.cau ∧ (countForeign s).nbt = s.nbt ∧ (countForeign s).ocu = s.ocu ∧
    (countForeign s).fmr = s.fmr ∧ (countForeign s).tlu = s.tlu ∧ (countForeign s).mst = s.mst ∧
    (countForeign s).cns = s.cns ∧ (countForeign s).emu = s.emu ∧ (countForeign s).now = s.now ∧
    (countForeign s).tickAt = s.tickAt ∧ (countForeign s).slotAt = s.slotAt ∧
    (countForeign s).free = s.free ∧ (countForeign s).pending = s.pending := by
  exact ⟨rfl, rfl, rfl, rfl, rfl, rfl, rfl, rfl, rfl, rfl, rfl, rfl, rfl, rfl, rfl, rfl⟩

end Sys2Proof.Machine
end

