-- ==== Sys2Proof/Laws/Frames.lean ====
section
/-! SUPPORT. What an operation that decides leaves: for each one theorem that names every part of State
it does not touch, whichever way it goes. -/

namespace Sys2Proof.Machine

open Sys2Proof

@[simp] theorem requestTone_frame (t : Tone) (s : State) :
    (requestTone t s).lines = s.lines ∧ (requestTone t s).stc = s.stc ∧ (requestTone t s).dtc = s.dtc ∧
    (requestTone t s).fre = s.fre ∧ (requestTone t s).cau = s.cau ∧ (requestTone t s).nbt = s.nbt ∧
    (requestTone t s).ocu = s.ocu ∧ (requestTone t s).fmr = s.fmr ∧ (requestTone t s).tlu = s.tlu ∧
    (requestTone t s).mst = s.mst ∧ (requestTone t s).emu = s.emu ∧ (requestTone t s).now = s.now ∧
    (requestTone t s).tickAt = s.tickAt ∧ (requestTone t s).slotAt = s.slotAt ∧
    (requestTone t s).free = s.free ∧ (requestTone t s).pending = s.pending := by
  unfold requestTone
  (repeat' split) <;> simp_all

@[simp] theorem setTarget_frame (l : Nat) (s : State) :
    (setTarget l s).lines = s.lines ∧ (setTarget l s).stc = s.stc ∧ (setTarget l s).dtc = s.dtc ∧
    (setTarget l s).fre = s.fre ∧ (setTarget l s).cau = s.cau ∧ (setTarget l s).nbt = s.nbt ∧
    (setTarget l s).ocu = s.ocu ∧ (setTarget l s).fmr = s.fmr ∧ (setTarget l s).tlu = s.tlu ∧
    (setTarget l s).mst = s.mst ∧ (setTarget l s).emu = s.emu ∧ (setTarget l s).now = s.now ∧
    (setTarget l s).tickAt = s.tickAt ∧ (setTarget l s).slotAt = s.slotAt ∧
    (setTarget l s).free = s.free ∧ (setTarget l s).pending = s.pending := by
  unfold setTarget
  (repeat' split) <;> simp_all

@[simp] theorem refuse_frame (s : State) :
    (refuse s).lines = s.lines ∧ (refuse s).stc = s.stc ∧ (refuse s).dtc = s.dtc ∧
    (refuse s).fre = s.fre ∧ (refuse s).cau = s.cau ∧ (refuse s).nbt = s.nbt ∧ (refuse s).ocu = s.ocu ∧
    (refuse s).fmr = s.fmr ∧ (refuse s).tlu = s.tlu ∧ (refuse s).mst = s.mst ∧ (refuse s).emu = s.emu ∧
    (refuse s).now = s.now ∧ (refuse s).tickAt = s.tickAt ∧ (refuse s).slotAt = s.slotAt ∧
    (refuse s).free = s.free ∧ (refuse s).pending = s.pending := by
  simp [refuse]

@[simp] theorem refreshTarget_frame (s : State) :
    (refreshTarget s).lines = s.lines ∧ (refreshTarget s).stc = s.stc ∧ (refreshTarget s).dtc = s.dtc ∧
    (refreshTarget s).fre = s.fre ∧ (refreshTarget s).cau = s.cau ∧ (refreshTarget s).nbt = s.nbt ∧
    (refreshTarget s).ocu = s.ocu ∧ (refreshTarget s).fmr = s.fmr ∧ (refreshTarget s).tlu = s.tlu ∧
    (refreshTarget s).mst = s.mst ∧ (refreshTarget s).emu = s.emu ∧ (refreshTarget s).now = s.now ∧
    (refreshTarget s).tickAt = s.tickAt ∧ (refreshTarget s).slotAt = s.slotAt ∧
    (refreshTarget s).free = s.free ∧ (refreshTarget s).pending = s.pending := by
  unfold refreshTarget
  (repeat' split) <;> simp_all

@[simp] theorem toggleLamp_frame (l : Lamp) (s : State) :
    (toggleLamp l s).lines = s.lines ∧ (toggleLamp l s).stc = s.stc ∧ (toggleLamp l s).dtc = s.dtc ∧
    (toggleLamp l s).fre = s.fre ∧ (toggleLamp l s).cau = s.cau ∧ (toggleLamp l s).nbt = s.nbt ∧
    (toggleLamp l s).ocu = s.ocu ∧ (toggleLamp l s).fmr = s.fmr ∧ (toggleLamp l s).tlu = s.tlu ∧
    (toggleLamp l s).mst = s.mst ∧ (toggleLamp l s).emu = s.emu ∧ (toggleLamp l s).tickAt = s.tickAt ∧
    (toggleLamp l s).slotAt = s.slotAt ∧ (toggleLamp l s).free = s.free ∧
    (toggleLamp l s).pending = s.pending := by
  unfold toggleLamp
  (repeat' split) <;> simp_all

@[simp] theorem dimStep_frame (t : Moment) (s : State) :
    (dimStep t s).lines = s.lines ∧ (dimStep t s).stc = s.stc ∧ (dimStep t s).dtc = s.dtc ∧
    (dimStep t s).fre = s.fre ∧ (dimStep t s).cau = s.cau ∧ (dimStep t s).nbt = s.nbt ∧
    (dimStep t s).ocu = s.ocu ∧ (dimStep t s).fmr = s.fmr ∧ (dimStep t s).tlu = s.tlu ∧
    (dimStep t s).mst = s.mst ∧ (dimStep t s).emu = s.emu ∧ (dimStep t s).tickAt = s.tickAt ∧
    (dimStep t s).slotAt = s.slotAt ∧ (dimStep t s).free = s.free ∧ (dimStep t s).pending = s.pending := by
  simp [dimStep]

@[simp] theorem followPark_frame (s : State) :
    (followPark s).lines = s.lines ∧ (followPark s).dtc = s.dtc ∧ (followPark s).fre = s.fre ∧
    (followPark s).cau = s.cau ∧ (followPark s).nbt = s.nbt ∧ (followPark s).ocu = s.ocu ∧
    (followPark s).fmr = s.fmr ∧ (followPark s).tlu = s.tlu ∧ (followPark s).mst = s.mst ∧
    (followPark s).cns = s.cns ∧ (followPark s).emu = s.emu ∧ (followPark s).now = s.now ∧
    (followPark s).tickAt = s.tickAt ∧ (followPark s).slotAt = s.slotAt ∧ (followPark s).free = s.free ∧
    (followPark s).pending = s.pending := by
  unfold followPark
  (repeat' split) <;> simp_all

@[simp] theorem followView_frame (s : State) :
    (followView s).lines = s.lines ∧ (followView s).stc = s.stc ∧ (followView s).dtc = s.dtc ∧
    (followView s).fre = s.fre ∧ (followView s).cau = s.cau ∧ (followView s).nbt = s.nbt ∧
    (followView s).ocu = s.ocu ∧ (followView s).fmr = s.fmr ∧ (followView s).tlu = s.tlu ∧
    (followView s).mst = s.mst ∧ (followView s).emu = s.emu ∧ (followView s).now = s.now ∧
    (followView s).tickAt = s.tickAt ∧ (followView s).slotAt = s.slotAt ∧ (followView s).free = s.free ∧
    (followView s).pending = s.pending := by
  unfold followView
  (repeat' split) <;> simp_all

@[simp] theorem finish_frame (s : State) :
    (finish s).lines = s.lines ∧ (finish s).dtc = s.dtc ∧ (finish s).fre = s.fre ∧
    (finish s).nbt = s.nbt ∧ (finish s).ocu = s.ocu ∧ (finish s).fmr = s.fmr ∧ (finish s).tlu = s.tlu ∧
    (finish s).mst = s.mst ∧ (finish s).emu = s.emu ∧ (finish s).now = s.now ∧
    (finish s).tickAt = s.tickAt ∧ (finish s).slotAt = s.slotAt ∧ (finish s).free = s.free ∧
    (finish s).pending = s.pending := by
  simp [finish]

@[simp] theorem movePointer_frame (f : Nat → Nat → Nat) (s : State) :
    (movePointer f s).lines = s.lines ∧ (movePointer f s).stc = s.stc ∧ (movePointer f s).dtc = s.dtc ∧
    (movePointer f s).fre = s.fre ∧ (movePointer f s).cau = s.cau ∧ (movePointer f s).nbt = s.nbt ∧
    (movePointer f s).ocu = s.ocu ∧ (movePointer f s).fmr = s.fmr ∧ (movePointer f s).tlu = s.tlu ∧
    (movePointer f s).mst = s.mst ∧ (movePointer f s).emu = s.emu ∧ (movePointer f s).now = s.now ∧
    (movePointer f s).tickAt = s.tickAt ∧ (movePointer f s).slotAt = s.slotAt ∧
    (movePointer f s).free = s.free ∧ (movePointer f s).pending = s.pending := by
  unfold movePointer
  (repeat' split) <;> simp_all

@[simp] theorem fareLost_frame (n : Nat) (s : State) :
    (fareLost n s).lines = s.lines ∧ (fareLost n s).stc = s.stc ∧ (fareLost n s).dtc = s.dtc ∧
    (fareLost n s).fre = s.fre ∧ (fareLost n s).cau = s.cau ∧ (fareLost n s).nbt = s.nbt ∧
    (fareLost n s).ocu = s.ocu ∧ (fareLost n s).fmr = s.fmr ∧ (fareLost n s).mst = s.mst ∧
    (fareLost n s).cns = s.cns ∧ (fareLost n s).emu = s.emu ∧ (fareLost n s).now = s.now ∧
    (fareLost n s).tickAt = s.tickAt ∧ (fareLost n s).slotAt = s.slotAt ∧ (fareLost n s).free = s.free ∧
    (fareLost n s).pending = s.pending := by
  unfold fareLost
  (repeat' split) <;> simp_all

@[simp] theorem clearDropped_frame (s : State) :
    (clearDropped s).lines = s.lines ∧ (clearDropped s).stc = s.stc ∧ (clearDropped s).dtc = s.dtc ∧
    (clearDropped s).fre = s.fre ∧ (clearDropped s).cau = s.cau ∧ (clearDropped s).nbt = s.nbt ∧
    (clearDropped s).ocu = s.ocu ∧ (clearDropped s).fmr = s.fmr ∧ (clearDropped s).tlu = s.tlu ∧
    (clearDropped s).mst = s.mst ∧ (clearDropped s).cns = s.cns ∧ (clearDropped s).now = s.now ∧
    (clearDropped s).tickAt = s.tickAt ∧ (clearDropped s).slotAt = s.slotAt ∧
    (clearDropped s).free = s.free ∧ (clearDropped s).pending = s.pending := by
  unfold clearDropped
  (repeat' split) <;> simp_all

@[simp] theorem toldDropped_frame (k : FrameKind) (t : Tag) (s : State) :
    (toldDropped k t s).lines = s.lines ∧ (toldDropped k t s).stc = s.stc ∧
    (toldDropped k t s).dtc = s.dtc ∧ (toldDropped k t s).fre = s.fre ∧
    (toldDropped k t s).cau = s.cau ∧ (toldDropped k t s).fmr = s.fmr ∧
    (toldDropped k t s).cns = s.cns ∧ (toldDropped k t s).now = s.now ∧
    (toldDropped k t s).tickAt = s.tickAt ∧ (toldDropped k t s).slotAt = s.slotAt ∧
    (toldDropped k t s).free = s.free ∧ (toldDropped k t s).pending = s.pending := by
  unfold toldDropped
  (repeat' split) <;> simp_all

@[simp] theorem placeRequest_frame (q : Request) (s : State) :
    (placeRequest q s).1.lines = s.lines ∧ (placeRequest q s).1.stc = s.stc ∧
    (placeRequest q s).1.dtc = s.dtc ∧ (placeRequest q s).1.fre = s.fre ∧
    (placeRequest q s).1.fmr = s.fmr ∧ (placeRequest q s).1.cns = s.cns ∧
    (placeRequest q s).1.now = s.now ∧ (placeRequest q s).1.tickAt = s.tickAt ∧
    (placeRequest q s).1.slotAt = s.slotAt ∧ (placeRequest q s).1.free = s.free ∧
    (placeRequest q s).1.pending = s.pending := by
  unfold placeRequest
  (repeat' split) <;> simp_all

@[simp] theorem requestGeneral_frame (q : Request) (s : State) :
    (requestGeneral q s).1.lines = s.lines ∧ (requestGeneral q s).1.stc = s.stc ∧
    (requestGeneral q s).1.dtc = s.dtc ∧ (requestGeneral q s).1.fre = s.fre ∧
    (requestGeneral q s).1.fmr = s.fmr ∧ (requestGeneral q s).1.cns = s.cns ∧
    (requestGeneral q s).1.now = s.now ∧ (requestGeneral q s).1.tickAt = s.tickAt ∧
    (requestGeneral q s).1.slotAt = s.slotAt ∧ (requestGeneral q s).1.free = s.free ∧
    (requestGeneral q s).1.pending = s.pending := by
  unfold requestGeneral
  (repeat' split) <;> simp_all

@[simp] theorem holdRequest_frame (q : Request) (s : State) :
    (holdRequest q s).1.lines = s.lines ∧ (holdRequest q s).1.stc = s.stc ∧
    (holdRequest q s).1.dtc = s.dtc ∧ (holdRequest q s).1.fre = s.fre ∧
    (holdRequest q s).1.fmr = s.fmr ∧ (holdRequest q s).1.cns = s.cns ∧
    (holdRequest q s).1.now = s.now ∧ (holdRequest q s).1.tickAt = s.tickAt ∧
    (holdRequest q s).1.slotAt = s.slotAt ∧ (holdRequest q s).1.free = s.free ∧
    (holdRequest q s).1.pending = s.pending := by
  unfold holdRequest
  (repeat' split) <;> simp_all

@[simp] theorem replaceInPlace_frame (e : QueueEntry) (q : Request) (s : State) :
    (replaceInPlace e q s).1.lines = s.lines ∧ (replaceInPlace e q s).1.stc = s.stc ∧
    (replaceInPlace e q s).1.dtc = s.dtc ∧ (replaceInPlace e q s).1.fre = s.fre ∧
    (replaceInPlace e q s).1.fmr = s.fmr ∧ (replaceInPlace e q s).1.cns = s.cns ∧
    (replaceInPlace e q s).1.now = s.now ∧ (replaceInPlace e q s).1.tickAt = s.tickAt ∧
    (replaceInPlace e q s).1.slotAt = s.slotAt ∧ (replaceInPlace e q s).1.free = s.free ∧
    (replaceInPlace e q s).1.pending = s.pending := by
  simp [replaceInPlace]

@[simp] theorem requestOwnAlarm_frame (q : Request) (s : State) :
    (requestOwnAlarm q s).1.lines = s.lines ∧ (requestOwnAlarm q s).1.stc = s.stc ∧
    (requestOwnAlarm q s).1.dtc = s.dtc ∧ (requestOwnAlarm q s).1.fre = s.fre ∧
    (requestOwnAlarm q s).1.fmr = s.fmr ∧ (requestOwnAlarm q s).1.cns = s.cns ∧
    (requestOwnAlarm q s).1.now = s.now ∧ (requestOwnAlarm q s).1.tickAt = s.tickAt ∧
    (requestOwnAlarm q s).1.slotAt = s.slotAt ∧ (requestOwnAlarm q s).1.free = s.free ∧
    (requestOwnAlarm q s).1.pending = s.pending := by
  unfold requestOwnAlarm
  (repeat' split) <;> simp_all

@[simp] theorem requestFrame_frame (q : Request) (s : State) :
    (requestFrame q s).1.lines = s.lines ∧ (requestFrame q s).1.stc = s.stc ∧
    (requestFrame q s).1.dtc = s.dtc ∧ (requestFrame q s).1.fre = s.fre ∧
    (requestFrame q s).1.fmr = s.fmr ∧ (requestFrame q s).1.cns = s.cns ∧
    (requestFrame q s).1.now = s.now ∧ (requestFrame q s).1.tickAt = s.tickAt ∧
    (requestFrame q s).1.slotAt = s.slotAt ∧ (requestFrame q s).1.free = s.free ∧
    (requestFrame q s).1.pending = s.pending := by
  unfold requestFrame
  (repeat' split) <;> simp_all

@[simp] theorem removeFrame_frame (k : FrameKind) (t : Tag) (s : State) :
    (removeFrame k t s).lines = s.lines ∧ (removeFrame k t s).stc = s.stc ∧
    (removeFrame k t s).dtc = s.dtc ∧ (removeFrame k t s).fre = s.fre ∧
    (removeFrame k t s).nbt = s.nbt ∧ (removeFrame k t s).ocu = s.ocu ∧
    (removeFrame k t s).fmr = s.fmr ∧ (removeFrame k t s).tlu = s.tlu ∧
    (removeFrame k t s).mst = s.mst ∧ (removeFrame k t s).cns = s.cns ∧
    (removeFrame k t s).emu = s.emu ∧ (removeFrame k t s).now = s.now ∧
    (removeFrame k t s).tickAt = s.tickAt ∧ (removeFrame k t s).slotAt = s.slotAt ∧
    (removeFrame k t s).free = s.free ∧ (removeFrame k t s).pending = s.pending := by
  unfold removeFrame
  dsimp only
  repeat' split
  all_goals try simp_all
  all_goals repeat' split
  all_goals simp_all

@[simp] theorem askContest_frame (k : FrameKind) (id : OfferId) (s : State) :
    (askContest k id s).lines = s.lines ∧ (askContest k id s).stc = s.stc ∧
    (askContest k id s).dtc = s.dtc ∧ (askContest k id s).fre = s.fre ∧
    (askContest k id s).fmr = s.fmr ∧ (askContest k id s).cns = s.cns ∧
    (askContest k id s).now = s.now ∧ (askContest k id s).tickAt = s.tickAt ∧
    (askContest k id s).slotAt = s.slotAt ∧ (askContest k id s).free = s.free ∧
    (askContest k id s).pending = s.pending := by
  simp [askContest]

@[simp] theorem freeMsg_frame (n : Nat) (s : State) :
    (freeMsg n s).lines = s.lines ∧ (freeMsg n s).stc = s.stc ∧ (freeMsg n s).dtc = s.dtc ∧
    (freeMsg n s).fre = s.fre ∧ (freeMsg n s).cau = s.cau ∧ (freeMsg n s).nbt = s.nbt ∧
    (freeMsg n s).ocu = s.ocu ∧ (freeMsg n s).fmr = s.fmr ∧ (freeMsg n s).tlu = s.tlu ∧
    (freeMsg n s).emu = s.emu ∧ (freeMsg n s).now = s.now ∧ (freeMsg n s).tickAt = s.tickAt ∧
    (freeMsg n s).slotAt = s.slotAt ∧ (freeMsg n s).free = s.free ∧ (freeMsg n s).pending = s.pending := by
  unfold freeMsg
  dsimp only
  repeat' split
  all_goals try simp_all
  all_goals repeat' split
  all_goals simp_all

@[simp] theorem removeMsg_frame (n : Nat) (s : State) :
    (removeMsg n s).lines = s.lines ∧ (removeMsg n s).stc = s.stc ∧ (removeMsg n s).dtc = s.dtc ∧
    (removeMsg n s).fre = s.fre ∧ (removeMsg n s).nbt = s.nbt ∧ (removeMsg n s).ocu = s.ocu ∧
    (removeMsg n s).fmr = s.fmr ∧ (removeMsg n s).tlu = s.tlu ∧ (removeMsg n s).emu = s.emu ∧
    (removeMsg n s).now = s.now ∧ (removeMsg n s).tickAt = s.tickAt ∧
    (removeMsg n s).slotAt = s.slotAt ∧ (removeMsg n s).free = s.free ∧
    (removeMsg n s).pending = s.pending := by
  unfold removeMsg
  (repeat' split) <;> simp_all

@[simp] theorem takePlace_frame (s : State) :
    (takePlace s).lines = s.lines ∧ (takePlace s).stc = s.stc ∧ (takePlace s).dtc = s.dtc ∧
    (takePlace s).fre = s.fre ∧ (takePlace s).nbt = s.nbt ∧ (takePlace s).ocu = s.ocu ∧
    (takePlace s).fmr = s.fmr ∧ (takePlace s).tlu = s.tlu ∧ (takePlace s).emu = s.emu ∧
    (takePlace s).now = s.now ∧ (takePlace s).tickAt = s.tickAt ∧ (takePlace s).slotAt = s.slotAt ∧
    (takePlace s).free = s.free ∧ (takePlace s).pending = s.pending := by
  unfold takePlace
  (repeat' split) <;> simp_all

@[simp] theorem completeIfWhole_frame (n : Nat) (s : State) :
    (completeIfWhole n s).lines = s.lines ∧ (completeIfWhole n s).stc = s.stc ∧
    (completeIfWhole n s).dtc = s.dtc ∧ (completeIfWhole n s).fre = s.fre ∧
    (completeIfWhole n s).cau = s.cau ∧ (completeIfWhole n s).nbt = s.nbt ∧
    (completeIfWhole n s).ocu = s.ocu ∧ (completeIfWhole n s).fmr = s.fmr ∧
    (completeIfWhole n s).tlu = s.tlu ∧ (completeIfWhole n s).emu = s.emu ∧
    (completeIfWhole n s).now = s.now ∧ (completeIfWhole n s).tickAt = s.tickAt ∧
    (completeIfWhole n s).slotAt = s.slotAt ∧ (completeIfWhole n s).free = s.free ∧
    (completeIfWhole n s).pending = s.pending := by
  unfold completeIfWhole
  (repeat' split) <;> simp_all

@[simp] theorem createMsg_frame (src : Station) (d : Bool) (p : MsgPayload) (s : State) :
    (createMsg src d p s).lines = s.lines ∧ (createMsg src d p s).stc = s.stc ∧
    (createMsg src d p s).dtc = s.dtc ∧ (createMsg src d p s).fre = s.fre ∧
    (createMsg src d p s).cau = s.cau ∧ (createMsg src d p s).nbt = s.nbt ∧
    (createMsg src d p s).ocu = s.ocu ∧ (createMsg src d p s).fmr = s.fmr ∧
    (createMsg src d p s).tlu = s.tlu ∧ (createMsg src d p s).emu = s.emu ∧
    (createMsg src d p s).now = s.now ∧ (createMsg src d p s).tickAt = s.tickAt ∧
    (createMsg src d p s).slotAt = s.slotAt ∧ (createMsg src d p s).free = s.free ∧
    (createMsg src d p s).pending = s.pending := by
  simp [createMsg]

@[simp] theorem placeSegment_frame (e : MsgEntry) (p : MsgPayload) (s : State) :
    (placeSegment e p s).lines = s.lines ∧ (placeSegment e p s).stc = s.stc ∧
    (placeSegment e p s).dtc = s.dtc ∧ (placeSegment e p s).fre = s.fre ∧
    (placeSegment e p s).cau = s.cau ∧ (placeSegment e p s).nbt = s.nbt ∧
    (placeSegment e p s).ocu = s.ocu ∧ (placeSegment e p s).fmr = s.fmr ∧
    (placeSegment e p s).tlu = s.tlu ∧ (placeSegment e p s).emu = s.emu ∧
    (placeSegment e p s).now = s.now ∧ (placeSegment e p s).tickAt = s.tickAt ∧
    (placeSegment e p s).slotAt = s.slotAt ∧ (placeSegment e p s).free = s.free ∧
    (placeSegment e p s).pending = s.pending := by
  unfold placeSegment
  (repeat' split) <;> simp_all

@[simp] theorem deliverMsg_frame (src : Station) (d : Bool) (p : MsgPayload) (s : State) :
    (deliverMsg src d p s).lines = s.lines ∧ (deliverMsg src d p s).stc = s.stc ∧
    (deliverMsg src d p s).dtc = s.dtc ∧ (deliverMsg src d p s).fre = s.fre ∧
    (deliverMsg src d p s).nbt = s.nbt ∧ (deliverMsg src d p s).ocu = s.ocu ∧
    (deliverMsg src d p s).fmr = s.fmr ∧ (deliverMsg src d p s).tlu = s.tlu ∧
    (deliverMsg src d p s).emu = s.emu ∧ (deliverMsg src d p s).now = s.now ∧
    (deliverMsg src d p s).tickAt = s.tickAt ∧ (deliverMsg src d p s).slotAt = s.slotAt ∧
    (deliverMsg src d p s).free = s.free ∧ (deliverMsg src d p s).pending = s.pending := by
  unfold deliverMsg
  (repeat' split) <;> simp_all

@[simp] theorem openMsgEntry_frame (n : Nat) (s : State) :
    (openMsgEntry n s).lines = s.lines ∧ (openMsgEntry n s).stc = s.stc ∧
    (openMsgEntry n s).dtc = s.dtc ∧ (openMsgEntry n s).fre = s.fre ∧ (openMsgEntry n s).cau = s.cau ∧
    (openMsgEntry n s).nbt = s.nbt ∧ (openMsgEntry n s).ocu = s.ocu ∧ (openMsgEntry n s).fmr = s.fmr ∧
    (openMsgEntry n s).tlu = s.tlu ∧ (openMsgEntry n s).emu = s.emu ∧ (openMsgEntry n s).now = s.now ∧
    (openMsgEntry n s).tickAt = s.tickAt ∧ (openMsgEntry n s).slotAt = s.slotAt ∧
    (openMsgEntry n s).free = s.free ∧ (openMsgEntry n s).pending = s.pending := by
  simp [openMsgEntry]

@[simp] theorem closeMsg_frame (s : State) :
    (closeMsg s).lines = s.lines ∧ (closeMsg s).stc = s.stc ∧ (closeMsg s).dtc = s.dtc ∧
    (closeMsg s).fre = s.fre ∧ (closeMsg s).nbt = s.nbt ∧ (closeMsg s).ocu = s.ocu ∧
    (closeMsg s).fmr = s.fmr ∧ (closeMsg s).tlu = s.tlu ∧ (closeMsg s).emu = s.emu ∧
    (closeMsg s).now = s.now ∧ (closeMsg s).tickAt = s.tickAt ∧ (closeMsg s).slotAt = s.slotAt ∧
    (closeMsg s).free = s.free ∧ (closeMsg s).pending = s.pending := by
  unfold closeMsg
  (repeat' split) <;> simp_all

@[simp] theorem closeTo_frame (v : DriverView) (s : State) :
    (closeTo v s).lines = s.lines ∧ (closeTo v s).stc = s.stc ∧ (closeTo v s).dtc = s.dtc ∧
    (closeTo v s).fre = s.fre ∧ (closeTo v s).nbt = s.nbt ∧ (closeTo v s).ocu = s.ocu ∧
    (closeTo v s).fmr = s.fmr ∧ (closeTo v s).tlu = s.tlu ∧ (closeTo v s).emu = s.emu ∧
    (closeTo v s).now = s.now ∧ (closeTo v s).tickAt = s.tickAt ∧ (closeTo v s).slotAt = s.slotAt ∧
    (closeTo v s).free = s.free ∧ (closeTo v s).pending = s.pending := by
  simp [closeTo]

@[simp] theorem clearPin_frame (s : State) :
    (clearPin s).lines = s.lines ∧ (clearPin s).stc = s.stc ∧ (clearPin s).dtc = s.dtc ∧
    (clearPin s).fre = s.fre ∧ (clearPin s).cau = s.cau ∧ (clearPin s).nbt = s.nbt ∧
    (clearPin s).ocu = s.ocu ∧ (clearPin s).fmr = s.fmr ∧ (clearPin s).tlu = s.tlu ∧
    (clearPin s).cns = s.cns ∧ (clearPin s).emu = s.emu ∧ (clearPin s).now = s.now ∧
    (clearPin s).tickAt = s.tickAt ∧ (clearPin s).slotAt = s.slotAt ∧ (clearPin s).free = s.free ∧
    (clearPin s).pending = s.pending := by
  unfold clearPin
  (repeat' split) <;> simp_all

@[simp] theorem expireMsg_frame (n : Nat) (s : State) :
    (expireMsg n s).lines = s.lines ∧ (expireMsg n s).stc = s.stc ∧ (expireMsg n s).dtc = s.dtc ∧
    (expireMsg n s).fre = s.fre ∧ (expireMsg n s).nbt = s.nbt ∧ (expireMsg n s).ocu = s.ocu ∧
    (expireMsg n s).fmr = s.fmr ∧ (expireMsg n s).tlu = s.tlu ∧ (expireMsg n s).emu = s.emu ∧
    (expireMsg n s).now = s.now ∧ (expireMsg n s).tickAt = s.tickAt ∧
    (expireMsg n s).slotAt = s.slotAt ∧ (expireMsg n s).free = s.free ∧
    (expireMsg n s).pending = s.pending := by
  unfold expireMsg
  (repeat' split) <;> simp_all

@[simp] theorem raiseNotice_frame (k : NoticeKey) (p : Bool) (t : List Byte) (s : State) :
    (raiseNotice k p t s).lines = s.lines ∧ (raiseNotice k p t s).stc = s.stc ∧
    (raiseNotice k p t s).dtc = s.dtc ∧ (raiseNotice k p t s).fre = s.fre ∧
    (raiseNotice k p t s).nbt = s.nbt ∧ (raiseNotice k p t s).ocu = s.ocu ∧
    (raiseNotice k p t s).fmr = s.fmr ∧ (raiseNotice k p t s).tlu = s.tlu ∧
    (raiseNotice k p t s).emu = s.emu ∧ (raiseNotice k p t s).now = s.now ∧
    (raiseNotice k p t s).tickAt = s.tickAt ∧ (raiseNotice k p t s).slotAt = s.slotAt ∧
    (raiseNotice k p t s).free = s.free ∧ (raiseNotice k p t s).pending = s.pending := by
  unfold raiseNotice
  (repeat' split) <;> simp_all

@[simp] theorem noticeJobGone_frame (t : List Byte) (s : State) :
    (noticeJobGone t s).lines = s.lines ∧ (noticeJobGone t s).stc = s.stc ∧
    (noticeJobGone t s).dtc = s.dtc ∧ (noticeJobGone t s).fre = s.fre ∧
    (noticeJobGone t s).nbt = s.nbt ∧ (noticeJobGone t s).ocu = s.ocu ∧
    (noticeJobGone t s).fmr = s.fmr ∧ (noticeJobGone t s).tlu = s.tlu ∧
    (noticeJobGone t s).emu = s.emu ∧ (noticeJobGone t s).now = s.now ∧
    (noticeJobGone t s).tickAt = s.tickAt ∧ (noticeJobGone t s).slotAt = s.slotAt ∧
    (noticeJobGone t s).free = s.free ∧ (noticeJobGone t s).pending = s.pending := by
  simp [noticeJobGone]

@[simp] theorem noticeLogFull_frame (s : State) :
    (noticeLogFull s).lines = s.lines ∧ (noticeLogFull s).stc = s.stc ∧ (noticeLogFull s).dtc = s.dtc ∧
    (noticeLogFull s).fre = s.fre ∧ (noticeLogFull s).nbt = s.nbt ∧ (noticeLogFull s).ocu = s.ocu ∧
    (noticeLogFull s).fmr = s.fmr ∧ (noticeLogFull s).tlu = s.tlu ∧ (noticeLogFull s).emu = s.emu ∧
    (noticeLogFull s).now = s.now ∧ (noticeLogFull s).tickAt = s.tickAt ∧
    (noticeLogFull s).slotAt = s.slotAt ∧ (noticeLogFull s).free = s.free ∧
    (noticeLogFull s).pending = s.pending := by
  simp [noticeLogFull]

@[simp] theorem noticeTariffNew_frame (v : Nat) (s : State) :
    (noticeTariffNew v s).lines = s.lines ∧ (noticeTariffNew v s).stc = s.stc ∧
    (noticeTariffNew v s).dtc = s.dtc ∧ (noticeTariffNew v s).fre = s.fre ∧
    (noticeTariffNew v s).nbt = s.nbt ∧ (noticeTariffNew v s).ocu = s.ocu ∧
    (noticeTariffNew v s).fmr = s.fmr ∧ (noticeTariffNew v s).tlu = s.tlu ∧
    (noticeTariffNew v s).emu = s.emu ∧ (noticeTariffNew v s).now = s.now ∧
    (noticeTariffNew v s).tickAt = s.tickAt ∧ (noticeTariffNew v s).slotAt = s.slotAt ∧
    (noticeTariffNew v s).free = s.free ∧ (noticeTariffNew v s).pending = s.pending := by
  simp [noticeTariffNew]

@[simp] theorem noticeAlarmNear_frame (n : Station) (d : Option Nat) (s : State) :
    (noticeAlarmNear n d s).lines = s.lines ∧ (noticeAlarmNear n d s).stc = s.stc ∧
    (noticeAlarmNear n d s).dtc = s.dtc ∧ (noticeAlarmNear n d s).fre = s.fre ∧
    (noticeAlarmNear n d s).nbt = s.nbt ∧ (noticeAlarmNear n d s).ocu = s.ocu ∧
    (noticeAlarmNear n d s).fmr = s.fmr ∧ (noticeAlarmNear n d s).tlu = s.tlu ∧
    (noticeAlarmNear n d s).emu = s.emu ∧ (noticeAlarmNear n d s).now = s.now ∧
    (noticeAlarmNear n d s).tickAt = s.tickAt ∧ (noticeAlarmNear n d s).slotAt = s.slotAt ∧
    (noticeAlarmNear n d s).free = s.free ∧ (noticeAlarmNear n d s).pending = s.pending := by
  unfold noticeAlarmNear
  (repeat' split) <;> simp_all

@[simp] theorem dropAlarmNotice_frame (n : Station) (s : State) :
    (dropAlarmNotice n s).lines = s.lines ∧ (dropAlarmNotice n s).stc = s.stc ∧
    (dropAlarmNotice n s).dtc = s.dtc ∧ (dropAlarmNotice n s).fre = s.fre ∧
    (dropAlarmNotice n s).nbt = s.nbt ∧ (dropAlarmNotice n s).ocu = s.ocu ∧
    (dropAlarmNotice n s).fmr = s.fmr ∧ (dropAlarmNotice n s).tlu = s.tlu ∧
    (dropAlarmNotice n s).emu = s.emu ∧ (dropAlarmNotice n s).now = s.now ∧
    (dropAlarmNotice n s).tickAt = s.tickAt ∧ (dropAlarmNotice n s).slotAt = s.slotAt ∧
    (dropAlarmNotice n s).free = s.free ∧ (dropAlarmNotice n s).pending = s.pending := by
  unfold dropAlarmNotice
  (repeat' split) <;> simp_all

@[simp] theorem makeReply_frame (e : MsgEntry) (n : Nat) (s : State) :
    (makeReply e n s).lines = s.lines ∧ (makeReply e n s).stc = s.stc ∧ (makeReply e n s).dtc = s.dtc ∧
    (makeReply e n s).fre = s.fre ∧ (makeReply e n s).fmr = s.fmr ∧ (makeReply e n s).cns = s.cns ∧
    (makeReply e n s).now = s.now ∧ (makeReply e n s).tickAt = s.tickAt ∧
    (makeReply e n s).slotAt = s.slotAt ∧ (makeReply e n s).free = s.free ∧
    (makeReply e n s).pending = s.pending := by
  unfold makeReply
  dsimp only
  repeat' split
  all_goals try simp_all
  all_goals repeat' split
  all_goals simp_all

@[simp] theorem replyNotice_frame (n : Nat) (r : ReplyState) (s : State) :
    (replyNotice n r s).lines = s.lines ∧ (replyNotice n r s).stc = s.stc ∧
    (replyNotice n r s).dtc = s.dtc ∧ (replyNotice n r s).fre = s.fre ∧
    (replyNotice n r s).cau = s.cau ∧ (replyNotice n r s).nbt = s.nbt ∧
    (replyNotice n r s).ocu = s.ocu ∧ (replyNotice n r s).fmr = s.fmr ∧
    (replyNotice n r s).tlu = s.tlu ∧ (replyNotice n r s).cns = s.cns ∧
    (replyNotice n r s).emu = s.emu ∧ (replyNotice n r s).now = s.now ∧
    (replyNotice n r s).tickAt = s.tickAt ∧ (replyNotice n r s).slotAt = s.slotAt ∧
    (replyNotice n r s).free = s.free ∧ (replyNotice n r s).pending = s.pending := by
  simp [replyNotice]

@[simp] theorem applyPendingSet_frame (s : State) :
    (applyPendingSet s).lines = s.lines ∧ (applyPendingSet s).stc = s.stc ∧
    (applyPendingSet s).dtc = s.dtc ∧ (applyPendingSet s).fre = s.fre ∧
    (applyPendingSet s).nbt = s.nbt ∧ (applyPendingSet s).ocu = s.ocu ∧
    (applyPendingSet s).fmr = s.fmr ∧ (applyPendingSet s).emu = s.emu ∧
    (applyPendingSet s).now = s.now ∧ (applyPendingSet s).tickAt = s.tickAt ∧
    (applyPendingSet s).slotAt = s.slotAt ∧ (applyPendingSet s).free = s.free ∧
    (applyPendingSet s).pending = s.pending := by
  unfold applyPendingSet
  (repeat' split) <;> simp_all

@[simp] theorem settleStaging_frame (g : Staging) (s : State) :
    (settleStaging g s).lines = s.lines ∧ (settleStaging g s).stc = s.stc ∧
    (settleStaging g s).dtc = s.dtc ∧ (settleStaging g s).fre = s.fre ∧
    (settleStaging g s).cau = s.cau ∧ (settleStaging g s).nbt = s.nbt ∧
    (settleStaging g s).ocu = s.ocu ∧ (settleStaging g s).fmr = s.fmr ∧
    (settleStaging g s).mst = s.mst ∧ (settleStaging g s).cns = s.cns ∧
    (settleStaging g s).emu = s.emu ∧ (settleStaging g s).now = s.now ∧
    (settleStaging g s).tickAt = s.tickAt ∧ (settleStaging g s).slotAt = s.slotAt ∧
    (settleStaging g s).free = s.free ∧ (settleStaging g s).pending = s.pending := by
  unfold settleStaging
  dsimp only
  repeat' split
  all_goals try simp_all
  all_goals repeat' split
  all_goals simp_all

@[simp] theorem deliverTariff_frame (p : TariffPayload) (s : State) :
    (deliverTariff p s).lines = s.lines ∧ (deliverTariff p s).stc = s.stc ∧
    (deliverTariff p s).dtc = s.dtc ∧ (deliverTariff p s).fre = s.fre ∧
    (deliverTariff p s).cau = s.cau ∧ (deliverTariff p s).nbt = s.nbt ∧
    (deliverTariff p s).ocu = s.ocu ∧ (deliverTariff p s).fmr = s.fmr ∧
    (deliverTariff p s).mst = s.mst ∧ (deliverTariff p s).cns = s.cns ∧
    (deliverTariff p s).emu = s.emu ∧ (deliverTariff p s).now = s.now ∧
    (deliverTariff p s).tickAt = s.tickAt ∧ (deliverTariff p s).slotAt = s.slotAt ∧
    (deliverTariff p s).free = s.free ∧ (deliverTariff p s).pending = s.pending := by
  unfold deliverTariff
  (repeat' split) <;> simp_all

@[simp] theorem reportTest_frame (s : State) :
    (reportTest s).lines = s.lines ∧ (reportTest s).stc = s.stc ∧ (reportTest s).dtc = s.dtc ∧
    (reportTest s).fre = s.fre ∧ (reportTest s).fmr = s.fmr ∧ (reportTest s).cns = s.cns ∧
    (reportTest s).now = s.now ∧ (reportTest s).tickAt = s.tickAt ∧ (reportTest s).slotAt = s.slotAt ∧
    (reportTest s).free = s.free ∧ (reportTest s).pending = s.pending := by
  unfold reportTest
  dsimp only
  repeat' split
  all_goals try simp_all
  all_goals repeat' split
  all_goals simp_all

@[simp] theorem appendRecord_frame (b : LogBody) (s : State) :
    (appendRecord b s).lines = s.lines ∧ (appendRecord b s).stc = s.stc ∧
    (appendRecord b s).dtc = s.dtc ∧ (appendRecord b s).fre = s.fre ∧ (appendRecord b s).fmr = s.fmr ∧
    (appendRecord b s).cns = s.cns ∧ (appendRecord b s).now = s.now ∧
    (appendRecord b s).tickAt = s.tickAt ∧ (appendRecord b s).slotAt = s.slotAt ∧
    (appendRecord b s).free = s.free ∧ (appendRecord b s).pending = s.pending := by
  unfold appendRecord
  dsimp only
  repeat' split
  all_goals try simp_all
  all_goals repeat' split
  all_goals simp_all

@[simp] theorem fareDelivered_frame (n : Nat) (s : State) :
    (fareDelivered n s).lines = s.lines ∧ (fareDelivered n s).stc = s.stc ∧
    (fareDelivered n s).dtc = s.dtc ∧ (fareDelivered n s).fre = s.fre ∧
    (fareDelivered n s).fmr = s.fmr ∧ (fareDelivered n s).cns = s.cns ∧
    (fareDelivered n s).now = s.now ∧ (fareDelivered n s).tickAt = s.tickAt ∧
    (fareDelivered n s).slotAt = s.slotAt ∧ (fareDelivered n s).free = s.free ∧
    (fareDelivered n s).pending = s.pending := by
  unfold fareDelivered
  (repeat' split) <;> simp_all

@[simp] theorem homeHeard_frame (s : State) :
    (homeHeard s).lines = s.lines ∧ (homeHeard s).stc = s.stc ∧ (homeHeard s).dtc = s.dtc ∧
    (homeHeard s).fre = s.fre ∧ (homeHeard s).fmr = s.fmr ∧ (homeHeard s).cns = s.cns ∧
    (homeHeard s).now = s.now ∧ (homeHeard s).tickAt = s.tickAt ∧ (homeHeard s).slotAt = s.slotAt ∧
    (homeHeard s).free = s.free ∧ (homeHeard s).pending = s.pending := by
  unfold homeHeard
  (repeat' split) <;> simp_all

@[simp] theorem logHire_frame (h : HireRecord) (s : State) :
    (logHire h s).lines = s.lines ∧ (logHire h s).stc = s.stc ∧ (logHire h s).dtc = s.dtc ∧
    (logHire h s).fre = s.fre ∧ (logHire h s).fmr = s.fmr ∧ (logHire h s).cns = s.cns ∧
    (logHire h s).now = s.now ∧ (logHire h s).tickAt = s.tickAt ∧ (logHire h s).slotAt = s.slotAt ∧
    (logHire h s).free = s.free ∧ (logHire h s).pending = s.pending := by
  simp [logHire]

@[simp] theorem logShift_frame (s : State) :
    (logShift s).lines = s.lines ∧ (logShift s).stc = s.stc ∧ (logShift s).dtc = s.dtc ∧
    (logShift s).fmr = s.fmr ∧ (logShift s).cns = s.cns ∧ (logShift s).now = s.now ∧
    (logShift s).tickAt = s.tickAt ∧ (logShift s).slotAt = s.slotAt ∧ (logShift s).free = s.free ∧
    (logShift s).pending = s.pending := by
  simp [logShift]

@[simp] theorem closeInterval_frame (b : Bool) (s : State) :
    (closeInterval b s).lines = s.lines ∧ (closeInterval b s).stc = s.stc ∧
    (closeInterval b s).dtc = s.dtc ∧ (closeInterval b s).fre = s.fre ∧
    (closeInterval b s).cau = s.cau ∧ (closeInterval b s).nbt = s.nbt ∧
    (closeInterval b s).ocu = s.ocu ∧ (closeInterval b s).mst = s.mst ∧
    (closeInterval b s).cns = s.cns ∧ (closeInterval b s).emu = s.emu ∧
    (closeInterval b s).now = s.now ∧ (closeInterval b s).tickAt = s.tickAt ∧
    (closeInterval b s).slotAt = s.slotAt ∧ (closeInterval b s).free = s.free ∧
    (closeInterval b s).pending = s.pending := by
  unfold closeInterval
  (repeat' split) <;> simp_all

@[simp] theorem countPulse_frame (s : State) :
    (countPulse s).lines = s.lines ∧ (countPulse s).stc = s.stc ∧ (countPulse s).dtc = s.dtc ∧
    (countPulse s).fre = s.fre ∧ (countPulse s).cau = s.cau ∧ (countPulse s).nbt = s.nbt ∧
    (countPulse s).ocu = s.ocu ∧ (countPulse s).tlu = s.tlu ∧ (countPulse s).mst = s.mst ∧
    (countPulse s).cns = s.cns ∧ (countPulse s).emu = s.emu ∧ (countPulse s).now = s.now ∧
    (countPulse s).tickAt = s.tickAt ∧ (countPulse s).slotAt = s.slotAt ∧ (countPulse s).free = s.free ∧
    (countPulse s).pending = s.pending := by
  unfold countPulse
  (repeat' split) <;> simp_all

@[simp] theorem stopMeter_frame (s : State) :
    (stopMeter s).lines = s.lines ∧ (stopMeter s).stc = s.stc ∧ (stopMeter s).dtc = s.dtc ∧
    (stopMeter s).fre = s.fre ∧ (stopMeter s).cau = s.cau ∧ (stopMeter s).nbt = s.nbt ∧
    (stopMeter s).ocu = s.ocu ∧ (stopMeter s).mst = s.mst ∧ (stopMeter s).cns = s.cns ∧
    (stopMeter s).emu = s.emu ∧ (stopMeter s).now = s.now ∧ (stopMeter s).tickAt = s.tickAt ∧
    (stopMeter s).slotAt = s.slotAt ∧ (stopMeter s).free = s.free ∧ (stopMeter s).pending = s.pending := by
  unfold stopMeter
  (repeat' split) <;> simp_all

@[simp] theorem endHire_frame (c : Bool) (s : State) :
    (endHire c s).lines = s.lines ∧ (endHire c s).stc = s.stc ∧ (endHire c s).dtc = s.dtc ∧
    (endHire c s).fre = s.fre ∧ (endHire c s).cns = s.cns ∧ (endHire c s).now = s.now ∧
    (endHire c s).tickAt = s.tickAt ∧ (endHire c s).slotAt = s.slotAt ∧ (endHire c s).free = s.free ∧
    (endHire c s).pending = s.pending := by
  unfold endHire
  (repeat' split) <;> simp_all

@[simp] theorem abandonFrame_frame (e : OfferEntry) (s : State) :
    (abandonFrame e s).lines = s.lines ∧ (abandonFrame e s).stc = s.stc ∧
    (abandonFrame e s).dtc = s.dtc ∧ (abandonFrame e s).fre = s.fre ∧ (abandonFrame e s).fmr = s.fmr ∧
    (abandonFrame e s).cns = s.cns ∧ (abandonFrame e s).now = s.now ∧
    (abandonFrame e s).tickAt = s.tickAt ∧ (abandonFrame e s).slotAt = s.slotAt ∧
    (abandonFrame e s).free = s.free ∧ (abandonFrame e s).pending = s.pending := by
  unfold abandonFrame
  (repeat' split) <;> simp_all

@[simp] theorem abandonOffer_frame (e : OfferEntry) (s : State) :
    (abandonOffer e s).lines = s.lines ∧ (abandonOffer e s).stc = s.stc ∧
    (abandonOffer e s).dtc = s.dtc ∧ (abandonOffer e s).fre = s.fre ∧ (abandonOffer e s).fmr = s.fmr ∧
    (abandonOffer e s).cns = s.cns ∧ (abandonOffer e s).now = s.now ∧
    (abandonOffer e s).tickAt = s.tickAt ∧ (abandonOffer e s).slotAt = s.slotAt ∧
    (abandonOffer e s).free = s.free ∧ (abandonOffer e s).pending = s.pending := by
  unfold abandonOffer
  (repeat' split) <;> simp_all

@[simp] theorem abandonContests_frame (s : State) :
    (abandonContests s).lines = s.lines ∧ (abandonContests s).stc = s.stc ∧
    (abandonContests s).dtc = s.dtc ∧ (abandonContests s).fre = s.fre ∧
    (abandonContests s).fmr = s.fmr ∧ (abandonContests s).cns = s.cns ∧
    (abandonContests s).now = s.now ∧ (abandonContests s).tickAt = s.tickAt ∧
    (abandonContests s).slotAt = s.slotAt ∧ (abandonContests s).free = s.free ∧
    (abandonContests s).pending = s.pending := by
  unfold abandonContests
  generalize s.ocu.offers = l
  induction l generalizing s with
  | nil => simp
  | cons e l ih => simp [ih]

@[simp] theorem toRun_frame (s : State) :
    (toRun s).lines = s.lines ∧ (toRun s).dtc = s.dtc ∧ (toRun s).fre = s.fre ∧ (toRun s).cau = s.cau ∧
    (toRun s).nbt = s.nbt ∧ (toRun s).ocu = s.ocu ∧ (toRun s).fmr = s.fmr ∧ (toRun s).tlu = s.tlu ∧
    (toRun s).mst = s.mst ∧ (toRun s).emu = s.emu ∧ (toRun s).now = s.now ∧
    (toRun s).tickAt = s.tickAt ∧ (toRun s).slotAt = s.slotAt ∧ (toRun s).free = s.free ∧
    (toRun s).pending = s.pending := by
  unfold toRun
  (repeat' split) <;> simp_all

@[simp] theorem enterVacant_frame (s : State) :
    (enterVacant s).lines = s.lines ∧ (enterVacant s).fre = s.fre ∧ (enterVacant s).nbt = s.nbt ∧
    (enterVacant s).ocu = s.ocu ∧ (enterVacant s).fmr = s.fmr ∧ (enterVacant s).emu = s.emu ∧
    (enterVacant s).now = s.now ∧ (enterVacant s).tickAt = s.tickAt ∧
    (enterVacant s).slotAt = s.slotAt ∧ (enterVacant s).free = s.free ∧
    (enterVacant s).pending = s.pending := by
  unfold enterVacant
  dsimp only
  repeat' split
  all_goals try simp_all
  all_goals repeat' split
  all_goals simp_all

@[simp] theorem enterIdleDuty_frame (d : DutyState) (s : State) :
    (enterIdleDuty d s).lines = s.lines ∧ (enterIdleDuty d s).stc = s.stc ∧
    (enterIdleDuty d s).fre = s.fre ∧ (enterIdleDuty d s).fmr = s.fmr ∧
    (enterIdleDuty d s).now = s.now ∧ (enterIdleDuty d s).tickAt = s.tickAt ∧
    (enterIdleDuty d s).slotAt = s.slotAt ∧ (enterIdleDuty d s).free = s.free ∧
    (enterIdleDuty d s).pending = s.pending := by
  simp [enterIdleDuty]

@[simp] theorem enterHired_frame (s : State) :
    (enterHired s).lines = s.lines ∧ (enterHired s).stc = s.stc ∧ (enterHired s).fre = s.fre ∧
    (enterHired s).fmr = s.fmr ∧ (enterHired s).cns = s.cns ∧ (enterHired s).now = s.now ∧
    (enterHired s).tickAt = s.tickAt ∧ (enterHired s).slotAt = s.slotAt ∧ (enterHired s).free = s.free ∧
    (enterHired s).pending = s.pending := by
  unfold enterHired
  (repeat' split) <;> simp_all

@[simp] theorem enterPending_frame (s : State) :
    (enterPending s).lines = s.lines ∧ (enterPending s).stc = s.stc ∧ (enterPending s).fre = s.fre ∧
    (enterPending s).fmr = s.fmr ∧ (enterPending s).now = s.now ∧ (enterPending s).tickAt = s.tickAt ∧
    (enterPending s).slotAt = s.slotAt ∧ (enterPending s).free = s.free ∧
    (enterPending s).pending = s.pending := by
  simp [enterPending]

@[simp] theorem endPending_frame (s : State) :
    (endPending s).lines = s.lines ∧ (endPending s).fre = s.fre ∧ (endPending s).nbt = s.nbt ∧
    (endPending s).ocu = s.ocu ∧ (endPending s).fmr = s.fmr ∧ (endPending s).emu = s.emu ∧
    (endPending s).now = s.now ∧ (endPending s).tickAt = s.tickAt ∧ (endPending s).slotAt = s.slotAt ∧
    (endPending s).free = s.free ∧ (endPending s).pending = s.pending := by
  unfold endPending
  (repeat' split) <;> simp_all

@[simp] theorem clearJob_frame (s : State) :
    (clearJob s).lines = s.lines ∧ (clearJob s).stc = s.stc ∧ (clearJob s).fre = s.fre ∧
    (clearJob s).cau = s.cau ∧ (clearJob s).nbt = s.nbt ∧ (clearJob s).fmr = s.fmr ∧
    (clearJob s).tlu = s.tlu ∧ (clearJob s).mst = s.mst ∧ (clearJob s).cns = s.cns ∧
    (clearJob s).emu = s.emu ∧ (clearJob s).now = s.now ∧ (clearJob s).tickAt = s.tickAt ∧
    (clearJob s).slotAt = s.slotAt ∧ (clearJob s).free = s.free ∧ (clearJob s).pending = s.pending := by
  unfold clearJob
  (repeat' split) <;> simp_all

@[simp] theorem giveUpJob_frame (id : OfferId) (s : State) :
    (giveUpJob id s).lines = s.lines ∧ (giveUpJob id s).fre = s.fre ∧ (giveUpJob id s).nbt = s.nbt ∧
    (giveUpJob id s).fmr = s.fmr ∧ (giveUpJob id s).emu = s.emu ∧ (giveUpJob id s).now = s.now ∧
    (giveUpJob id s).tickAt = s.tickAt ∧ (giveUpJob id s).slotAt = s.slotAt ∧
    (giveUpJob id s).free = s.free ∧ (giveUpJob id s).pending = s.pending := by
  unfold giveUpJob
  (repeat' split) <;> simp_all

@[simp] theorem yield_frame (e : OfferEntry) (s : State) :
    (yield e s).lines = s.lines ∧ (yield e s).stc = s.stc ∧ (yield e s).dtc = s.dtc ∧
    (yield e s).fre = s.fre ∧ (yield e s).nbt = s.nbt ∧ (yield e s).fmr = s.fmr ∧
    (yield e s).tlu = s.tlu ∧ (yield e s).mst = s.mst ∧ (yield e s).cns = s.cns ∧
    (yield e s).emu = s.emu ∧ (yield e s).now = s.now ∧ (yield e s).tickAt = s.tickAt ∧
    (yield e s).slotAt = s.slotAt ∧ (yield e s).free = s.free ∧ (yield e s).pending = s.pending := by
  unfold yield
  (repeat' split) <;> simp_all

@[simp] theorem returnToContest_frame (e : OfferEntry) (s : State) :
    (returnToContest e s).lines = s.lines ∧ (returnToContest e s).stc = s.stc ∧
    (returnToContest e s).dtc = s.dtc ∧ (returnToContest e s).fre = s.fre ∧
    (returnToContest e s).cau = s.cau ∧ (returnToContest e s).nbt = s.nbt ∧
    (returnToContest e s).fmr = s.fmr ∧ (returnToContest e s).tlu = s.tlu ∧
    (returnToContest e s).mst = s.mst ∧ (returnToContest e s).cns = s.cns ∧
    (returnToContest e s).emu = s.emu ∧ (returnToContest e s).now = s.now ∧
    (returnToContest e s).tickAt = s.tickAt ∧ (returnToContest e s).slotAt = s.slotAt ∧
    (returnToContest e s).free = s.free ∧ (returnToContest e s).pending = s.pending := by
  unfold returnToContest
  (repeat' split) <;> simp_all

@[simp] theorem yieldIfBetter_frame (id : OfferId) (s : State) :
    (yieldIfBetter id s).lines = s.lines ∧ (yieldIfBetter id s).stc = s.stc ∧
    (yieldIfBetter id s).dtc = s.dtc ∧ (yieldIfBetter id s).fre = s.fre ∧
    (yieldIfBetter id s).nbt = s.nbt ∧ (yieldIfBetter id s).fmr = s.fmr ∧
    (yieldIfBetter id s).tlu = s.tlu ∧ (yieldIfBetter id s).mst = s.mst ∧
    (yieldIfBetter id s).cns = s.cns ∧ (yieldIfBetter id s).emu = s.emu ∧
    (yieldIfBetter id s).now = s.now ∧ (yieldIfBetter id s).tickAt = s.tickAt ∧
    (yieldIfBetter id s).slotAt = s.slotAt ∧ (yieldIfBetter id s).free = s.free ∧
    (yieldIfBetter id s).pending = s.pending := by
  unfold yieldIfBetter
  (repeat' split) <;> simp_all

@[simp] theorem returnIfClear_frame (old : List HeardBid) (id : OfferId) (s : State) :
    (returnIfClear old id s).lines = s.lines ∧ (returnIfClear old id s).stc = s.stc ∧
    (returnIfClear old id s).dtc = s.dtc ∧ (returnIfClear old id s).fre = s.fre ∧
    (returnIfClear old id s).cau = s.cau ∧ (returnIfClear old id s).nbt = s.nbt ∧
    (returnIfClear old id s).fmr = s.fmr ∧ (returnIfClear old id s).tlu = s.tlu ∧
    (returnIfClear old id s).mst = s.mst ∧ (returnIfClear old id s).cns = s.cns ∧
    (returnIfClear old id s).emu = s.emu ∧ (returnIfClear old id s).now = s.now ∧
    (returnIfClear old id s).tickAt = s.tickAt ∧ (returnIfClear old id s).slotAt = s.slotAt ∧
    (returnIfClear old id s).free = s.free ∧ (returnIfClear old id s).pending = s.pending := by
  unfold returnIfClear
  (repeat' split) <;> simp_all

@[simp] theorem hearOffer_frame (src : Station) (p : OfferPayload) (s : State) :
    (hearOffer src p s).lines = s.lines ∧ (hearOffer src p s).stc = s.stc ∧
    (hearOffer src p s).dtc = s.dtc ∧ (hearOffer src p s).fre = s.fre ∧
    (hearOffer src p s).cau = s.cau ∧ (hearOffer src p s).nbt = s.nbt ∧
    (hearOffer src p s).fmr = s.fmr ∧ (hearOffer src p s).tlu = s.tlu ∧
    (hearOffer src p s).mst = s.mst ∧ (hearOffer src p s).cns = s.cns ∧
    (hearOffer src p s).emu = s.emu ∧ (hearOffer src p s).now = s.now ∧
    (hearOffer src p s).tickAt = s.tickAt ∧ (hearOffer src p s).slotAt = s.slotAt ∧
    (hearOffer src p s).free = s.free ∧ (hearOffer src p s).pending = s.pending := by
  unfold hearOffer
  dsimp only
  repeat' split
  all_goals try simp_all
  all_goals repeat' split
  all_goals simp_all

@[simp] theorem hearBidFrame_frame (src : Station) (p : BidPayload) (s : State) :
    (hearBidFrame src p s).lines = s.lines ∧ (hearBidFrame src p s).stc = s.stc ∧
    (hearBidFrame src p s).dtc = s.dtc ∧ (hearBidFrame src p s).fre = s.fre ∧
    (hearBidFrame src p s).nbt = s.nbt ∧ (hearBidFrame src p s).fmr = s.fmr ∧
    (hearBidFrame src p s).tlu = s.tlu ∧ (hearBidFrame src p s).mst = s.mst ∧
    (hearBidFrame src p s).cns = s.cns ∧ (hearBidFrame src p s).emu = s.emu ∧
    (hearBidFrame src p s).now = s.now ∧ (hearBidFrame src p s).tickAt = s.tickAt ∧
    (hearBidFrame src p s).slotAt = s.slotAt ∧ (hearBidFrame src p s).free = s.free ∧
    (hearBidFrame src p s).pending = s.pending := by
  unfold hearBidFrame
  (repeat' split) <;> simp_all

@[simp] theorem hearWithdraw_frame (src : Station) (id : OfferId) (s : State) :
    (hearWithdraw src id s).lines = s.lines ∧ (hearWithdraw src id s).stc = s.stc ∧
    (hearWithdraw src id s).dtc = s.dtc ∧ (hearWithdraw src id s).fre = s.fre ∧
    (hearWithdraw src id s).cau = s.cau ∧ (hearWithdraw src id s).nbt = s.nbt ∧
    (hearWithdraw src id s).fmr = s.fmr ∧ (hearWithdraw src id s).tlu = s.tlu ∧
    (hearWithdraw src id s).mst = s.mst ∧ (hearWithdraw src id s).cns = s.cns ∧
    (hearWithdraw src id s).emu = s.emu ∧ (hearWithdraw src id s).now = s.now ∧
    (hearWithdraw src id s).tickAt = s.tickAt ∧ (hearWithdraw src id s).slotAt = s.slotAt ∧
    (hearWithdraw src id s).free = s.free ∧ (hearWithdraw src id s).pending = s.pending := by
  unfold hearWithdraw
  (repeat' split) <;> simp_all

@[simp] theorem hearRelease_frame (src : Station) (id : OfferId) (s : State) :
    (hearRelease src id s).lines = s.lines ∧ (hearRelease src id s).stc = s.stc ∧
    (hearRelease src id s).dtc = s.dtc ∧ (hearRelease src id s).fre = s.fre ∧
    (hearRelease src id s).cau = s.cau ∧ (hearRelease src id s).nbt = s.nbt ∧
    (hearRelease src id s).fmr = s.fmr ∧ (hearRelease src id s).tlu = s.tlu ∧
    (hearRelease src id s).mst = s.mst ∧ (hearRelease src id s).cns = s.cns ∧
    (hearRelease src id s).emu = s.emu ∧ (hearRelease src id s).now = s.now ∧
    (hearRelease src id s).tickAt = s.tickAt ∧ (hearRelease src id s).slotAt = s.slotAt ∧
    (hearRelease src id s).free = s.free ∧ (hearRelease src id s).pending = s.pending := by
  unfold hearRelease
  (repeat' split) <;> simp_all

@[simp] theorem finishOffer_frame (id : OfferId) (st : OfferState) (s : State) :
    (finishOffer id st s).lines = s.lines ∧ (finishOffer id st s).stc = s.stc ∧
    (finishOffer id st s).dtc = s.dtc ∧ (finishOffer id st s).fre = s.fre ∧
    (finishOffer id st s).cau = s.cau ∧ (finishOffer id st s).nbt = s.nbt ∧
    (finishOffer id st s).fmr = s.fmr ∧ (finishOffer id st s).tlu = s.tlu ∧
    (finishOffer id st s).mst = s.mst ∧ (finishOffer id st s).cns = s.cns ∧
    (finishOffer id st s).emu = s.emu ∧ (finishOffer id st s).now = s.now ∧
    (finishOffer id st s).tickAt = s.tickAt ∧ (finishOffer id st s).slotAt = s.slotAt ∧
    (finishOffer id st s).free = s.free ∧ (finishOffer id st s).pending = s.pending := by
  unfold finishOffer
  (repeat' split) <;> simp_all

@[simp] theorem declineOffer_frame (id : OfferId) (s : State) :
    (declineOffer id s).lines = s.lines ∧ (declineOffer id s).stc = s.stc ∧
    (declineOffer id s).dtc = s.dtc ∧ (declineOffer id s).fre = s.fre ∧
    (declineOffer id s).fmr = s.fmr ∧ (declineOffer id s).cns = s.cns ∧
    (declineOffer id s).now = s.now ∧ (declineOffer id s).tickAt = s.tickAt ∧
    (declineOffer id s).slotAt = s.slotAt ∧ (declineOffer id s).free = s.free ∧
    (declineOffer id s).pending = s.pending := by
  simp [declineOffer]

@[simp] theorem hearTake_frame (src : Station) (p : BidPayload) (s : State) :
    (hearTake src p s).lines = s.lines ∧ (hearTake src p s).fre = s.fre ∧
    (hearTake src p s).nbt = s.nbt ∧ (hearTake src p s).fmr = s.fmr ∧ (hearTake src p s).emu = s.emu ∧
    (hearTake src p s).now = s.now ∧ (hearTake src p s).tickAt = s.tickAt ∧
    (hearTake src p s).slotAt = s.slotAt ∧ (hearTake src p s).free = s.free ∧
    (hearTake src p s).pending = s.pending := by
  unfold hearTake
  dsimp only
  repeat' split
  all_goals try simp_all
  all_goals repeat' split
  all_goals simp_all

@[simp] theorem bidNow_frame (id : OfferId) (s : State) :
    (bidNow id s).lines = s.lines ∧ (bidNow id s).stc = s.stc ∧ (bidNow id s).dtc = s.dtc ∧
    (bidNow id s).fre = s.fre ∧ (bidNow id s).fmr = s.fmr ∧ (bidNow id s).cns = s.cns ∧
    (bidNow id s).now = s.now ∧ (bidNow id s).tickAt = s.tickAt ∧ (bidNow id s).slotAt = s.slotAt ∧
    (bidNow id s).free = s.free ∧ (bidNow id s).pending = s.pending := by
  simp [bidNow]

@[simp] theorem bidInService_frame (id : OfferId) (s : State) :
    (bidInService id s).lines = s.lines ∧ (bidInService id s).stc = s.stc ∧
    (bidInService id s).dtc = s.dtc ∧ (bidInService id s).fre = s.fre ∧
    (bidInService id s).fmr = s.fmr ∧ (bidInService id s).cns = s.cns ∧
    (bidInService id s).now = s.now ∧ (bidInService id s).tickAt = s.tickAt ∧
    (bidInService id s).slotAt = s.slotAt ∧ (bidInService id s).free = s.free ∧
    (bidInService id s).pending = s.pending := by
  unfold bidInService
  (repeat' split) <;> simp_all

@[simp] theorem winOffer_frame (id : OfferId) (s : State) :
    (winOffer id s).lines = s.lines ∧ (winOffer id s).stc = s.stc ∧ (winOffer id s).fre = s.fre ∧
    (winOffer id s).fmr = s.fmr ∧ (winOffer id s).now = s.now ∧ (winOffer id s).tickAt = s.tickAt ∧
    (winOffer id s).slotAt = s.slotAt ∧ (winOffer id s).free = s.free ∧
    (winOffer id s).pending = s.pending := by
  simp [winOffer]

@[simp] theorem settleUnwon_frame (e : OfferEntry) (s : State) :
    (settleUnwon e s).lines = s.lines ∧ (settleUnwon e s).stc = s.stc ∧ (settleUnwon e s).dtc = s.dtc ∧
    (settleUnwon e s).fre = s.fre ∧ (settleUnwon e s).nbt = s.nbt ∧ (settleUnwon e s).fmr = s.fmr ∧
    (settleUnwon e s).tlu = s.tlu ∧ (settleUnwon e s).mst = s.mst ∧ (settleUnwon e s).cns = s.cns ∧
    (settleUnwon e s).emu = s.emu ∧ (settleUnwon e s).now = s.now ∧
    (settleUnwon e s).tickAt = s.tickAt ∧ (settleUnwon e s).slotAt = s.slotAt ∧
    (settleUnwon e s).free = s.free ∧ (settleUnwon e s).pending = s.pending := by
  unfold settleUnwon
  (repeat' split) <;> simp_all

@[simp] theorem endWindow_frame (id : OfferId) (s : State) :
    (endWindow id s).lines = s.lines ∧ (endWindow id s).stc = s.stc ∧ (endWindow id s).fre = s.fre ∧
    (endWindow id s).fmr = s.fmr ∧ (endWindow id s).now = s.now ∧ (endWindow id s).tickAt = s.tickAt ∧
    (endWindow id s).slotAt = s.slotAt ∧ (endWindow id s).free = s.free ∧
    (endWindow id s).pending = s.pending := by
  unfold endWindow
  dsimp only
  repeat' split
  all_goals try simp_all
  all_goals repeat' split
  all_goals simp_all

@[simp] theorem acceptOffer_frame (s : State) :
    (acceptOffer s).lines = s.lines ∧ (acceptOffer s).stc = s.stc ∧ (acceptOffer s).fre = s.fre ∧
    (acceptOffer s).fmr = s.fmr ∧ (acceptOffer s).cns = s.cns ∧ (acceptOffer s).now = s.now ∧
    (acceptOffer s).tickAt = s.tickAt ∧ (acceptOffer s).slotAt = s.slotAt ∧
    (acceptOffer s).free = s.free ∧ (acceptOffer s).pending = s.pending := by
  unfold acceptOffer
  (repeat' split) <;> simp_all

@[simp] theorem declineWon_frame (s : State) :
    (declineWon s).lines = s.lines ∧ (declineWon s).fre = s.fre ∧ (declineWon s).fmr = s.fmr ∧
    (declineWon s).now = s.now ∧ (declineWon s).tickAt = s.tickAt ∧ (declineWon s).slotAt = s.slotAt ∧
    (declineWon s).free = s.free ∧ (declineWon s).pending = s.pending := by
  unfold declineWon
  (repeat' split) <;> simp_all

@[simp] theorem declineJob_frame (s : State) :
    (declineJob s).lines = s.lines ∧ (declineJob s).fre = s.fre ∧ (declineJob s).fmr = s.fmr ∧
    (declineJob s).now = s.now ∧ (declineJob s).tickAt = s.tickAt ∧ (declineJob s).slotAt = s.slotAt ∧
    (declineJob s).free = s.free ∧ (declineJob s).pending = s.pending := by
  unfold declineJob
  (repeat' split) <;> simp_all

@[simp] theorem endConfirmWait_frame (id : OfferId) (s : State) :
    (endConfirmWait id s).lines = s.lines ∧ (endConfirmWait id s).stc = s.stc ∧
    (endConfirmWait id s).fre = s.fre ∧ (endConfirmWait id s).cau = s.cau ∧
    (endConfirmWait id s).nbt = s.nbt ∧ (endConfirmWait id s).fmr = s.fmr ∧
    (endConfirmWait id s).tlu = s.tlu ∧ (endConfirmWait id s).mst = s.mst ∧
    (endConfirmWait id s).cns = s.cns ∧ (endConfirmWait id s).emu = s.emu ∧
    (endConfirmWait id s).now = s.now ∧ (endConfirmWait id s).tickAt = s.tickAt ∧
    (endConfirmWait id s).slotAt = s.slotAt ∧ (endConfirmWait id s).free = s.free ∧
    (endConfirmWait id s).pending = s.pending := by
  simp [endConfirmWait]

@[simp] theorem armContests_frame (s : State) :
    (armContests s).lines = s.lines ∧ (armContests s).fre = s.fre ∧ (armContests s).fmr = s.fmr ∧
    (armContests s).now = s.now ∧ (armContests s).tickAt = s.tickAt ∧
    (armContests s).slotAt = s.slotAt ∧ (armContests s).free = s.free ∧
    (armContests s).pending = s.pending := by
  simp [armContests]

@[simp] theorem jobGoesElsewhere_frame (id : OfferId) (s : State) :
    (jobGoesElsewhere id s).lines = s.lines ∧ (jobGoesElsewhere id s).fre = s.fre ∧
    (jobGoesElsewhere id s).nbt = s.nbt ∧ (jobGoesElsewhere id s).fmr = s.fmr ∧
    (jobGoesElsewhere id s).emu = s.emu ∧ (jobGoesElsewhere id s).now = s.now ∧
    (jobGoesElsewhere id s).tickAt = s.tickAt ∧ (jobGoesElsewhere id s).slotAt = s.slotAt ∧
    (jobGoesElsewhere id s).free = s.free ∧ (jobGoesElsewhere id s).pending = s.pending := by
  unfold jobGoesElsewhere
  (repeat' split) <;> simp_all

@[simp] theorem confirmTaken_frame (id : OfferId) (m : Bool) (s : State) :
    (confirmTaken id m s).lines = s.lines ∧ (confirmTaken id m s).fre = s.fre ∧
    (confirmTaken id m s).nbt = s.nbt ∧ (confirmTaken id m s).fmr = s.fmr ∧
    (confirmTaken id m s).emu = s.emu ∧ (confirmTaken id m s).now = s.now ∧
    (confirmTaken id m s).tickAt = s.tickAt ∧ (confirmTaken id m s).slotAt = s.slotAt ∧
    (confirmTaken id m s).free = s.free ∧ (confirmTaken id m s).pending = s.pending := by
  unfold confirmTaken
  (repeat' split) <;> simp_all

@[simp] theorem closeOffer_frame (e : OfferEntry) (s : State) :
    (closeOffer e s).lines = s.lines ∧ (closeOffer e s).fre = s.fre ∧ (closeOffer e s).nbt = s.nbt ∧
    (closeOffer e s).fmr = s.fmr ∧ (closeOffer e s).emu = s.emu ∧ (closeOffer e s).now = s.now ∧
    (closeOffer e s).tickAt = s.tickAt ∧ (closeOffer e s).slotAt = s.slotAt ∧
    (closeOffer e s).free = s.free ∧ (closeOffer e s).pending = s.pending := by
  unfold closeOffer
  (repeat' split) <;> simp_all

@[simp] theorem hearConfirm_frame (src : Station) (p : ConfirmPayload) (s : State) :
    (hearConfirm src p s).lines = s.lines ∧ (hearConfirm src p s).fre = s.fre ∧
    (hearConfirm src p s).nbt = s.nbt ∧ (hearConfirm src p s).fmr = s.fmr ∧
    (hearConfirm src p s).emu = s.emu ∧ (hearConfirm src p s).now = s.now ∧
    (hearConfirm src p s).tickAt = s.tickAt ∧ (hearConfirm src p s).slotAt = s.slotAt ∧
    (hearConfirm src p s).free = s.free ∧ (hearConfirm src p s).pending = s.pending := by
  unfold hearConfirm
  dsimp only
  (repeat' split) <;> simp_all

@[simp] theorem askAlarm_frame (s : State) :
    (askAlarm s).lines = s.lines ∧ (askAlarm s).stc = s.stc ∧ (askAlarm s).dtc = s.dtc ∧
    (askAlarm s).fre = s.fre ∧ (askAlarm s).fmr = s.fmr ∧ (askAlarm s).cns = s.cns ∧
    (askAlarm s).now = s.now ∧ (askAlarm s).tickAt = s.tickAt ∧ (askAlarm s).slotAt = s.slotAt ∧
    (askAlarm s).free = s.free ∧ (askAlarm s).pending = s.pending := by
  simp [askAlarm]

@[simp] theorem askClear_frame (s : State) :
    (askClear s).lines = s.lines ∧ (askClear s).stc = s.stc ∧ (askClear s).dtc = s.dtc ∧
    (askClear s).fre = s.fre ∧ (askClear s).fmr = s.fmr ∧ (askClear s).cns = s.cns ∧
    (askClear s).now = s.now ∧ (askClear s).tickAt = s.tickAt ∧ (askClear s).slotAt = s.slotAt ∧
    (askClear s).free = s.free ∧ (askClear s).pending = s.pending := by
  unfold askClear
  dsimp only
  repeat' split
  all_goals try simp_all
  all_goals repeat' split
  all_goals simp_all

@[simp] theorem takeDue_frame (c : Schedule) (s : State) :
    (takeDue c s).lines = s.lines ∧ (takeDue c s).stc = s.stc ∧ (takeDue c s).dtc = s.dtc ∧
    (takeDue c s).fre = s.fre ∧ (takeDue c s).fmr = s.fmr ∧ (takeDue c s).cns = s.cns ∧
    (takeDue c s).now = s.now ∧ (takeDue c s).tickAt = s.tickAt ∧ (takeDue c s).slotAt = s.slotAt ∧
    (takeDue c s).free = s.free ∧ (takeDue c s).pending = s.pending := by
  simp [takeDue]

@[simp] theorem startFast_frame (p : Nat) (s : State) :
    (startFast p s).lines = s.lines ∧ (startFast p s).stc = s.stc ∧ (startFast p s).dtc = s.dtc ∧
    (startFast p s).fre = s.fre ∧ (startFast p s).fmr = s.fmr ∧ (startFast p s).cns = s.cns ∧
    (startFast p s).now = s.now ∧ (startFast p s).tickAt = s.tickAt ∧
    (startFast p s).slotAt = s.slotAt ∧ (startFast p s).free = s.free ∧
    (startFast p s).pending = s.pending := by
  simp [startFast]

@[simp] theorem startArming_frame (s : State) :
    (startArming s).lines = s.lines ∧ (startArming s).stc = s.stc ∧ (startArming s).dtc = s.dtc ∧
    (startArming s).fre = s.fre ∧ (startArming s).nbt = s.nbt ∧ (startArming s).ocu = s.ocu ∧
    (startArming s).fmr = s.fmr ∧ (startArming s).tlu = s.tlu ∧ (startArming s).mst = s.mst ∧
    (startArming s).now = s.now ∧ (startArming s).tickAt = s.tickAt ∧
    (startArming s).slotAt = s.slotAt ∧ (startArming s).free = s.free ∧
    (startArming s).pending = s.pending := by
  simp [startArming]

@[simp] theorem returnToIdle_frame (s : State) :
    (returnToIdle s).lines = s.lines ∧ (returnToIdle s).stc = s.stc ∧ (returnToIdle s).dtc = s.dtc ∧
    (returnToIdle s).fre = s.fre ∧ (returnToIdle s).nbt = s.nbt ∧ (returnToIdle s).ocu = s.ocu ∧
    (returnToIdle s).fmr = s.fmr ∧ (returnToIdle s).tlu = s.tlu ∧ (returnToIdle s).mst = s.mst ∧
    (returnToIdle s).now = s.now ∧ (returnToIdle s).tickAt = s.tickAt ∧
    (returnToIdle s).slotAt = s.slotAt ∧ (returnToIdle s).free = s.free ∧
    (returnToIdle s).pending = s.pending := by
  unfold returnToIdle
  dsimp only
  repeat' split
  all_goals try simp_all
  all_goals repeat' split
  all_goals simp_all

@[simp] theorem arm_frame (s : State) :
    (arm s).lines = s.lines ∧ (arm s).fre = s.fre ∧ (arm s).fmr = s.fmr ∧ (arm s).now = s.now ∧
    (arm s).tickAt = s.tickAt ∧ (arm s).slotAt = s.slotAt ∧ (arm s).free = s.free ∧
    (arm s).pending = s.pending := by
  simp [arm]

@[simp] theorem reactivate_frame (s : State) :
    (reactivate s).lines = s.lines ∧ (reactivate s).stc = s.stc ∧ (reactivate s).dtc = s.dtc ∧
    (reactivate s).fre = s.fre ∧ (reactivate s).fmr = s.fmr ∧ (reactivate s).cns = s.cns ∧
    (reactivate s).now = s.now ∧ (reactivate s).tickAt = s.tickAt ∧ (reactivate s).slotAt = s.slotAt ∧
    (reactivate s).free = s.free ∧ (reactivate s).pending = s.pending := by
  simp [reactivate]

@[simp] theorem holdReached_frame (s : State) :
    (holdReached s).lines = s.lines ∧ (holdReached s).fre = s.fre ∧ (holdReached s).fmr = s.fmr ∧
    (holdReached s).now = s.now ∧ (holdReached s).tickAt = s.tickAt ∧
    (holdReached s).slotAt = s.slotAt ∧ (holdReached s).free = s.free ∧
    (holdReached s).pending = s.pending := by
  unfold holdReached
  (repeat' split) <;> simp_all

@[simp] theorem alarmDown_frame (s : State) :
    (alarmDown s).lines = s.lines ∧ (alarmDown s).stc = s.stc ∧ (alarmDown s).dtc = s.dtc ∧
    (alarmDown s).fre = s.fre ∧ (alarmDown s).nbt = s.nbt ∧ (alarmDown s).ocu = s.ocu ∧
    (alarmDown s).fmr = s.fmr ∧ (alarmDown s).tlu = s.tlu ∧ (alarmDown s).mst = s.mst ∧
    (alarmDown s).now = s.now ∧ (alarmDown s).tickAt = s.tickAt ∧ (alarmDown s).slotAt = s.slotAt ∧
    (alarmDown s).free = s.free ∧ (alarmDown s).pending = s.pending := by
  unfold alarmDown
  (repeat' split) <;> simp_all

@[simp] theorem alarmUp_frame (s : State) :
    (alarmUp s).lines = s.lines ∧ (alarmUp s).stc = s.stc ∧ (alarmUp s).dtc = s.dtc ∧
    (alarmUp s).fre = s.fre ∧ (alarmUp s).nbt = s.nbt ∧ (alarmUp s).ocu = s.ocu ∧
    (alarmUp s).fmr = s.fmr ∧ (alarmUp s).tlu = s.tlu ∧ (alarmUp s).mst = s.mst ∧
    (alarmUp s).now = s.now ∧ (alarmUp s).tickAt = s.tickAt ∧ (alarmUp s).slotAt = s.slotAt ∧
    (alarmUp s).free = s.free ∧ (alarmUp s).pending = s.pending := by
  unfold alarmUp
  (repeat' split) <;> simp_all

@[simp] theorem emuDigit_frame (d : Fin 10) (s : State) :
    (emuDigit d s).lines = s.lines ∧ (emuDigit d s).stc = s.stc ∧ (emuDigit d s).dtc = s.dtc ∧
    (emuDigit d s).fre = s.fre ∧ (emuDigit d s).cau = s.cau ∧ (emuDigit d s).nbt = s.nbt ∧
    (emuDigit d s).ocu = s.ocu ∧ (emuDigit d s).fmr = s.fmr ∧ (emuDigit d s).tlu = s.tlu ∧
    (emuDigit d s).mst = s.mst ∧ (emuDigit d s).cns = s.cns ∧ (emuDigit d s).now = s.now ∧
    (emuDigit d s).tickAt = s.tickAt ∧ (emuDigit d s).slotAt = s.slotAt ∧ (emuDigit d s).free = s.free ∧
    (emuDigit d s).pending = s.pending := by
  unfold emuDigit
  (repeat' split) <;> simp_all

@[simp] theorem emuClear_frame (s : State) :
    (emuClear s).lines = s.lines ∧ (emuClear s).stc = s.stc ∧ (emuClear s).dtc = s.dtc ∧
    (emuClear s).fre = s.fre ∧ (emuClear s).cau = s.cau ∧ (emuClear s).nbt = s.nbt ∧
    (emuClear s).ocu = s.ocu ∧ (emuClear s).fmr = s.fmr ∧ (emuClear s).tlu = s.tlu ∧
    (emuClear s).mst = s.mst ∧ (emuClear s).cns = s.cns ∧ (emuClear s).now = s.now ∧
    (emuClear s).tickAt = s.tickAt ∧ (emuClear s).slotAt = s.slotAt ∧ (emuClear s).free = s.free ∧
    (emuClear s).pending = s.pending := by
  unfold emuClear
  (repeat' split) <;> simp_all

@[simp] theorem enterClearing_frame (s : State) :
    (enterClearing s).lines = s.lines ∧ (enterClearing s).stc = s.stc ∧ (enterClearing s).dtc = s.dtc ∧
    (enterClearing s).fre = s.fre ∧ (enterClearing s).fmr = s.fmr ∧ (enterClearing s).cns = s.cns ∧
    (enterClearing s).now = s.now ∧ (enterClearing s).tickAt = s.tickAt ∧
    (enterClearing s).slotAt = s.slotAt ∧ (enterClearing s).free = s.free ∧
    (enterClearing s).pending = s.pending := by
  simp [enterClearing]

@[simp] theorem enterCovert_frame (s : State) :
    (enterCovert s).lines = s.lines ∧ (enterCovert s).stc = s.stc ∧ (enterCovert s).dtc = s.dtc ∧
    (enterCovert s).fre = s.fre ∧ (enterCovert s).fmr = s.fmr ∧ (enterCovert s).cns = s.cns ∧
    (enterCovert s).now = s.now ∧ (enterCovert s).tickAt = s.tickAt ∧
    (enterCovert s).slotAt = s.slotAt ∧ (enterCovert s).free = s.free ∧
    (enterCovert s).pending = s.pending := by
  simp [enterCovert]

@[simp] theorem decideCode_frame (s : State) :
    (decideCode s).lines = s.lines ∧ (decideCode s).stc = s.stc ∧ (decideCode s).dtc = s.dtc ∧
    (decideCode s).fre = s.fre ∧ (decideCode s).fmr = s.fmr ∧ (decideCode s).cns = s.cns ∧
    (decideCode s).now = s.now ∧ (decideCode s).tickAt = s.tickAt ∧ (decideCode s).slotAt = s.slotAt ∧
    (decideCode s).free = s.free ∧ (decideCode s).pending = s.pending := by
  unfold decideCode
  (repeat' split) <;> simp_all

@[simp] theorem emuSubmit_frame (s : State) :
    (emuSubmit s).lines = s.lines ∧ (emuSubmit s).stc = s.stc ∧ (emuSubmit s).dtc = s.dtc ∧
    (emuSubmit s).fre = s.fre ∧ (emuSubmit s).fmr = s.fmr ∧ (emuSubmit s).cns = s.cns ∧
    (emuSubmit s).now = s.now ∧ (emuSubmit s).tickAt = s.tickAt ∧ (emuSubmit s).slotAt = s.slotAt ∧
    (emuSubmit s).free = s.free ∧ (emuSubmit s).pending = s.pending := by
  unfold emuSubmit
  (repeat' split) <;> simp_all

@[simp] theorem clearSent_frame (s : State) :
    (clearSent s).lines = s.lines ∧ (clearSent s).stc = s.stc ∧ (clearSent s).dtc = s.dtc ∧
    (clearSent s).fre = s.fre ∧ (clearSent s).nbt = s.nbt ∧ (clearSent s).ocu = s.ocu ∧
    (clearSent s).fmr = s.fmr ∧ (clearSent s).tlu = s.tlu ∧ (clearSent s).mst = s.mst ∧
    (clearSent s).now = s.now ∧ (clearSent s).tickAt = s.tickAt ∧ (clearSent s).slotAt = s.slotAt ∧
    (clearSent s).free = s.free ∧ (clearSent s).pending = s.pending := by
  unfold clearSent
  dsimp only
  repeat' split
  all_goals try simp_all
  all_goals repeat' split
  all_goals simp_all

@[simp] theorem ownSeen_frame (n : Serial) (s : State) :
    (ownSeen n s).lines = s.lines ∧ (ownSeen n s).stc = s.stc ∧ (ownSeen n s).dtc = s.dtc ∧
    (ownSeen n s).fre = s.fre ∧ (ownSeen n s).cau = s.cau ∧ (ownSeen n s).nbt = s.nbt ∧
    (ownSeen n s).ocu = s.ocu ∧ (ownSeen n s).fmr = s.fmr ∧ (ownSeen n s).tlu = s.tlu ∧
    (ownSeen n s).mst = s.mst ∧ (ownSeen n s).cns = s.cns ∧ (ownSeen n s).now = s.now ∧
    (ownSeen n s).tickAt = s.tickAt ∧ (ownSeen n s).slotAt = s.slotAt ∧ (ownSeen n s).free = s.free ∧
    (ownSeen n s).pending = s.pending := by
  unfold ownSeen
  (repeat' split) <;> simp_all

@[simp] theorem dropAlarm_frame (n : Station) (s : State) :
    (dropAlarm n s).lines = s.lines ∧ (dropAlarm n s).stc = s.stc ∧ (dropAlarm n s).dtc = s.dtc ∧
    (dropAlarm n s).fre = s.fre ∧ (dropAlarm n s).nbt = s.nbt ∧ (dropAlarm n s).ocu = s.ocu ∧
    (dropAlarm n s).fmr = s.fmr ∧ (dropAlarm n s).tlu = s.tlu ∧ (dropAlarm n s).now = s.now ∧
    (dropAlarm n s).tickAt = s.tickAt ∧ (dropAlarm n s).slotAt = s.slotAt ∧
    (dropAlarm n s).free = s.free ∧ (dropAlarm n s).pending = s.pending := by
  simp [dropAlarm]

@[simp] theorem refreshAlarm_frame (a : AlarmEntry) (p : AlarmPayload) (s : State) :
    (refreshAlarm a p s).lines = s.lines ∧ (refreshAlarm a p s).stc = s.stc ∧
    (refreshAlarm a p s).dtc = s.dtc ∧ (refreshAlarm a p s).fre = s.fre ∧
    (refreshAlarm a p s).cau = s.cau ∧ (refreshAlarm a p s).nbt = s.nbt ∧
    (refreshAlarm a p s).ocu = s.ocu ∧ (refreshAlarm a p s).fmr = s.fmr ∧
    (refreshAlarm a p s).tlu = s.tlu ∧ (refreshAlarm a p s).mst = s.mst ∧
    (refreshAlarm a p s).cns = s.cns ∧ (refreshAlarm a p s).now = s.now ∧
    (refreshAlarm a p s).tickAt = s.tickAt ∧ (refreshAlarm a p s).slotAt = s.slotAt ∧
    (refreshAlarm a p s).free = s.free ∧ (refreshAlarm a p s).pending = s.pending := by
  simp [refreshAlarm]

@[simp] theorem roomForAlarm_frame (s : State) :
    (roomForAlarm s).lines = s.lines ∧ (roomForAlarm s).stc = s.stc ∧ (roomForAlarm s).dtc = s.dtc ∧
    (roomForAlarm s).fre = s.fre ∧ (roomForAlarm s).nbt = s.nbt ∧ (roomForAlarm s).ocu = s.ocu ∧
    (roomForAlarm s).fmr = s.fmr ∧ (roomForAlarm s).tlu = s.tlu ∧ (roomForAlarm s).now = s.now ∧
    (roomForAlarm s).tickAt = s.tickAt ∧ (roomForAlarm s).slotAt = s.slotAt ∧
    (roomForAlarm s).free = s.free ∧ (roomForAlarm s).pending = s.pending := by
  unfold roomForAlarm
  (repeat' split) <;> simp_all

@[simp] theorem newAlarm_frame (p : AlarmPayload) (s : State) :
    (newAlarm p s).lines = s.lines ∧ (newAlarm p s).stc = s.stc ∧ (newAlarm p s).dtc = s.dtc ∧
    (newAlarm p s).fre = s.fre ∧ (newAlarm p s).nbt = s.nbt ∧ (newAlarm p s).ocu = s.ocu ∧
    (newAlarm p s).fmr = s.fmr ∧ (newAlarm p s).tlu = s.tlu ∧ (newAlarm p s).now = s.now ∧
    (newAlarm p s).tickAt = s.tickAt ∧ (newAlarm p s).slotAt = s.slotAt ∧ (newAlarm p s).free = s.free ∧
    (newAlarm p s).pending = s.pending := by
  simp [newAlarm]

@[simp] theorem emuAlarm_frame (p : AlarmPayload) (s : State) :
    (emuAlarm p s).lines = s.lines ∧ (emuAlarm p s).stc = s.stc ∧ (emuAlarm p s).dtc = s.dtc ∧
    (emuAlarm p s).fre = s.fre ∧ (emuAlarm p s).nbt = s.nbt ∧ (emuAlarm p s).ocu = s.ocu ∧
    (emuAlarm p s).fmr = s.fmr ∧ (emuAlarm p s).tlu = s.tlu ∧ (emuAlarm p s).now = s.now ∧
    (emuAlarm p s).tickAt = s.tickAt ∧ (emuAlarm p s).slotAt = s.slotAt ∧ (emuAlarm p s).free = s.free ∧
    (emuAlarm p s).pending = s.pending := by
  unfold emuAlarm
  (repeat' split) <;> simp_all

@[simp] theorem emuAlarmClear_frame (p : AlarmPayload) (s : State) :
    (emuAlarmClear p s).lines = s.lines ∧ (emuAlarmClear p s).stc = s.stc ∧
    (emuAlarmClear p s).dtc = s.dtc ∧ (emuAlarmClear p s).fre = s.fre ∧
    (emuAlarmClear p s).nbt = s.nbt ∧ (emuAlarmClear p s).ocu = s.ocu ∧
    (emuAlarmClear p s).fmr = s.fmr ∧ (emuAlarmClear p s).tlu = s.tlu ∧
    (emuAlarmClear p s).now = s.now ∧ (emuAlarmClear p s).tickAt = s.tickAt ∧
    (emuAlarmClear p s).slotAt = s.slotAt ∧ (emuAlarmClear p s).free = s.free ∧
    (emuAlarmClear p s).pending = s.pending := by
  unfold emuAlarmClear
  (repeat' split) <;> simp_all

@[simp] theorem emuAlarmSeen_frame (n : Station) (k : Serial) (s : State) :
    (emuAlarmSeen n k s).lines = s.lines ∧ (emuAlarmSeen n k s).stc = s.stc ∧
    (emuAlarmSeen n k s).dtc = s.dtc ∧ (emuAlarmSeen n k s).fre = s.fre ∧
    (emuAlarmSeen n k s).cau = s.cau ∧ (emuAlarmSeen n k s).nbt = s.nbt ∧
    (emuAlarmSeen n k s).ocu = s.ocu ∧ (emuAlarmSeen n k s).fmr = s.fmr ∧
    (emuAlarmSeen n k s).tlu = s.tlu ∧ (emuAlarmSeen n k s).mst = s.mst ∧
    (emuAlarmSeen n k s).cns = s.cns ∧ (emuAlarmSeen n k s).now = s.now ∧
    (emuAlarmSeen n k s).tickAt = s.tickAt ∧ (emuAlarmSeen n k s).slotAt = s.slotAt ∧
    (emuAlarmSeen n k s).free = s.free ∧ (emuAlarmSeen n k s).pending = s.pending := by
  unfold emuAlarmSeen
  (repeat' split) <;> simp_all

@[simp] theorem tickElapsed_frame (s : State) :
    (tickElapsed s).lines = s.lines ∧ (tickElapsed s).stc = s.stc ∧ (tickElapsed s).dtc = s.dtc ∧
    (tickElapsed s).fre = s.fre ∧ (tickElapsed s).cau = s.cau ∧ (tickElapsed s).nbt = s.nbt ∧
    (tickElapsed s).ocu = s.ocu ∧ (tickElapsed s).fmr = s.fmr ∧ (tickElapsed s).tlu = s.tlu ∧
    (tickElapsed s).mst = s.mst ∧ (tickElapsed s).cns = s.cns ∧ (tickElapsed s).now = s.now ∧
    (tickElapsed s).tickAt = s.tickAt ∧ (tickElapsed s).slotAt = s.slotAt ∧
    (tickElapsed s).free = s.free ∧ (tickElapsed s).pending = s.pending := by
  unfold tickElapsed
  (repeat' split) <;> simp_all

@[simp] theorem dropNeighbour_frame (n : Station) (s : State) :
    (dropNeighbour n s).lines = s.lines ∧ (dropNeighbour n s).stc = s.stc ∧
    (dropNeighbour n s).dtc = s.dtc ∧ (dropNeighbour n s).fre = s.fre ∧
    (dropNeighbour n s).cau = s.cau ∧ (dropNeighbour n s).ocu = s.ocu ∧
    (dropNeighbour n s).fmr = s.fmr ∧ (dropNeighbour n s).tlu = s.tlu ∧
    (dropNeighbour n s).mst = s.mst ∧ (dropNeighbour n s).cns = s.cns ∧
    (dropNeighbour n s).emu = s.emu ∧ (dropNeighbour n s).now = s.now ∧
    (dropNeighbour n s).tickAt = s.tickAt ∧ (dropNeighbour n s).slotAt = s.slotAt ∧
    (dropNeighbour n s).free = s.free ∧ (dropNeighbour n s).pending = s.pending := by
  unfold dropNeighbour
  dsimp only
  repeat' split
  all_goals try simp_all
  all_goals repeat' split
  all_goals simp_all

@[simp] theorem roomForNeighbour_frame (s : State) :
    (roomForNeighbour s).lines = s.lines ∧ (roomForNeighbour s).stc = s.stc ∧
    (roomForNeighbour s).dtc = s.dtc ∧ (roomForNeighbour s).fre = s.fre ∧
    (roomForNeighbour s).cau = s.cau ∧ (roomForNeighbour s).ocu = s.ocu ∧
    (roomForNeighbour s).fmr = s.fmr ∧ (roomForNeighbour s).tlu = s.tlu ∧
    (roomForNeighbour s).mst = s.mst ∧ (roomForNeighbour s).cns = s.cns ∧
    (roomForNeighbour s).emu = s.emu ∧ (roomForNeighbour s).now = s.now ∧
    (roomForNeighbour s).tickAt = s.tickAt ∧ (roomForNeighbour s).slotAt = s.slotAt ∧
    (roomForNeighbour s).free = s.free ∧ (roomForNeighbour s).pending = s.pending := by
  unfold roomForNeighbour
  (repeat' split) <;> simp_all

@[simp] theorem refreshNeighbour_frame (h : Header) (s : State) :
    (refreshNeighbour h s).lines = s.lines ∧ (refreshNeighbour h s).stc = s.stc ∧
    (refreshNeighbour h s).dtc = s.dtc ∧ (refreshNeighbour h s).fre = s.fre ∧
    (refreshNeighbour h s).cau = s.cau ∧ (refreshNeighbour h s).ocu = s.ocu ∧
    (refreshNeighbour h s).fmr = s.fmr ∧ (refreshNeighbour h s).tlu = s.tlu ∧
    (refreshNeighbour h s).mst = s.mst ∧ (refreshNeighbour h s).cns = s.cns ∧
    (refreshNeighbour h s).emu = s.emu ∧ (refreshNeighbour h s).now = s.now ∧
    (refreshNeighbour h s).tickAt = s.tickAt ∧ (refreshNeighbour h s).slotAt = s.slotAt ∧
    (refreshNeighbour h s).free = s.free ∧ (refreshNeighbour h s).pending = s.pending := by
  unfold refreshNeighbour
  (repeat' split) <;> simp_all

@[simp] theorem hearHome_frame (b : Bool) (s : State) :
    (hearHome b s).lines = s.lines ∧ (hearHome b s).stc = s.stc ∧ (hearHome b s).dtc = s.dtc ∧
    (hearHome b s).fre = s.fre ∧ (hearHome b s).fmr = s.fmr ∧ (hearHome b s).cns = s.cns ∧
    (hearHome b s).now = s.now ∧ (hearHome b s).tickAt = s.tickAt ∧ (hearHome b s).slotAt = s.slotAt ∧
    (hearHome b s).free = s.free ∧ (hearHome b s).pending = s.pending := by
  unfold hearHome
  (repeat' split) <;> simp_all

@[simp] theorem hearHeader_frame (h : Header) (s : State) :
    (hearHeader h s).lines = s.lines ∧ (hearHeader h s).stc = s.stc ∧ (hearHeader h s).dtc = s.dtc ∧
    (hearHeader h s).fre = s.fre ∧ (hearHeader h s).fmr = s.fmr ∧ (hearHeader h s).cns = s.cns ∧
    (hearHeader h s).now = s.now ∧ (hearHeader h s).tickAt = s.tickAt ∧
    (hearHeader h s).slotAt = s.slotAt ∧ (hearHeader h s).free = s.free ∧
    (hearHeader h s).pending = s.pending := by
  unfold hearHeader
  dsimp only
  repeat' split
  all_goals try simp_all
  all_goals repeat' split
  all_goals simp_all

@[simp] theorem enterKey_frame (k : DupName) (s : State) :
    (enterKey k s).lines = s.lines ∧ (enterKey k s).stc = s.stc ∧ (enterKey k s).dtc = s.dtc ∧
    (enterKey k s).fre = s.fre ∧ (enterKey k s).cau = s.cau ∧ (enterKey k s).ocu = s.ocu ∧
    (enterKey k s).fmr = s.fmr ∧ (enterKey k s).tlu = s.tlu ∧ (enterKey k s).mst = s.mst ∧
    (enterKey k s).cns = s.cns ∧ (enterKey k s).emu = s.emu ∧ (enterKey k s).now = s.now ∧
    (enterKey k s).tickAt = s.tickAt ∧ (enterKey k s).slotAt = s.slotAt ∧ (enterKey k s).free = s.free ∧
    (enterKey k s).pending = s.pending := by
  unfold enterKey
  (repeat' split) <;> simp_all

@[simp] theorem relayFrame_frame (k : RelayKey) (s : State) :
    (relayFrame k s).lines = s.lines ∧ (relayFrame k s).stc = s.stc ∧ (relayFrame k s).dtc = s.dtc ∧
    (relayFrame k s).fre = s.fre ∧ (relayFrame k s).nbt = s.nbt ∧ (relayFrame k s).ocu = s.ocu ∧
    (relayFrame k s).fmr = s.fmr ∧ (relayFrame k s).tlu = s.tlu ∧ (relayFrame k s).mst = s.mst ∧
    (relayFrame k s).cns = s.cns ∧ (relayFrame k s).emu = s.emu ∧ (relayFrame k s).now = s.now ∧
    (relayFrame k s).tickAt = s.tickAt ∧ (relayFrame k s).slotAt = s.slotAt ∧
    (relayFrame k s).free = s.free ∧ (relayFrame k s).pending = s.pending := by
  simp [relayFrame]

@[simp] theorem cancelRelay_frame (k : RelayKey) (s : State) :
    (cancelRelay k s).lines = s.lines ∧ (cancelRelay k s).stc = s.stc ∧ (cancelRelay k s).dtc = s.dtc ∧
    (cancelRelay k s).fre = s.fre ∧ (cancelRelay k s).ocu = s.ocu ∧ (cancelRelay k s).fmr = s.fmr ∧
    (cancelRelay k s).tlu = s.tlu ∧ (cancelRelay k s).mst = s.mst ∧ (cancelRelay k s).cns = s.cns ∧
    (cancelRelay k s).emu = s.emu ∧ (cancelRelay k s).now = s.now ∧
    (cancelRelay k s).tickAt = s.tickAt ∧ (cancelRelay k s).slotAt = s.slotAt ∧
    (cancelRelay k s).free = s.free ∧ (cancelRelay k s).pending = s.pending := by
  unfold cancelRelay
  (repeat' split) <;> simp_all

@[simp] theorem relayCopy_frame (k : AlarmKind) (p : AlarmPayload) (f : AirFrame) (s : State) :
    (relayCopy k p f s).lines = s.lines ∧ (relayCopy k p f s).stc = s.stc ∧
    (relayCopy k p f s).dtc = s.dtc ∧ (relayCopy k p f s).fre = s.fre ∧
    (relayCopy k p f s).ocu = s.ocu ∧ (relayCopy k p f s).fmr = s.fmr ∧
    (relayCopy k p f s).tlu = s.tlu ∧ (relayCopy k p f s).mst = s.mst ∧
    (relayCopy k p f s).cns = s.cns ∧ (relayCopy k p f s).emu = s.emu ∧
    (relayCopy k p f s).now = s.now ∧ (relayCopy k p f s).tickAt = s.tickAt ∧
    (relayCopy k p f s).slotAt = s.slotAt ∧ (relayCopy k p f s).free = s.free ∧
    (relayCopy k p f s).pending = s.pending := by
  unfold relayCopy
  dsimp only
  repeat' split
  all_goals try simp_all
  all_goals repeat' split
  all_goals simp_all

@[simp] theorem relaySeen_frame (n : Station) (k : Serial) (s : State) :
    (relaySeen n k s).lines = s.lines ∧ (relaySeen n k s).stc = s.stc ∧ (relaySeen n k s).dtc = s.dtc ∧
    (relaySeen n k s).fre = s.fre ∧ (relaySeen n k s).ocu = s.ocu ∧ (relaySeen n k s).fmr = s.fmr ∧
    (relaySeen n k s).tlu = s.tlu ∧ (relaySeen n k s).mst = s.mst ∧ (relaySeen n k s).cns = s.cns ∧
    (relaySeen n k s).emu = s.emu ∧ (relaySeen n k s).now = s.now ∧
    (relaySeen n k s).tickAt = s.tickAt ∧ (relaySeen n k s).slotAt = s.slotAt ∧
    (relaySeen n k s).free = s.free ∧ (relaySeen n k s).pending = s.pending := by
  unfold relaySeen
  (repeat' split) <;> simp_all

@[simp] theorem endRelayDelay_frame (r : Relay) (s : State) :
    (endRelayDelay r s).lines = s.lines ∧ (endRelayDelay r s).stc = s.stc ∧
    (endRelayDelay r s).dtc = s.dtc ∧ (endRelayDelay r s).fre = s.fre ∧
    (endRelayDelay r s).fmr = s.fmr ∧ (endRelayDelay r s).cns = s.cns ∧
    (endRelayDelay r s).now = s.now ∧ (endRelayDelay r s).tickAt = s.tickAt ∧
    (endRelayDelay r s).slotAt = s.slotAt ∧ (endRelayDelay r s).free = s.free ∧
    (endRelayDelay r s).pending = s.pending := by
  unfold endRelayDelay
  dsimp only
  repeat' split
  all_goals try simp_all
  all_goals repeat' split
  all_goals simp_all

@[simp] theorem markRelayed_frame (k : RelayKey) (s : State) :
    (markRelayed k s).lines = s.lines ∧ (markRelayed k s).stc = s.stc ∧ (markRelayed k s).dtc = s.dtc ∧
    (markRelayed k s).fre = s.fre ∧ (markRelayed k s).cau = s.cau ∧ (markRelayed k s).nbt = s.nbt ∧
    (markRelayed k s).ocu = s.ocu ∧ (markRelayed k s).fmr = s.fmr ∧ (markRelayed k s).tlu = s.tlu ∧
    (markRelayed k s).mst = s.mst ∧ (markRelayed k s).cns = s.cns ∧ (markRelayed k s).now = s.now ∧
    (markRelayed k s).tickAt = s.tickAt ∧ (markRelayed k s).slotAt = s.slotAt ∧
    (markRelayed k s).free = s.free ∧ (markRelayed k s).pending = s.pending := by
  unfold markRelayed
  (repeat' split) <;> simp_all

@[simp] theorem relayInService_frame (k : RelayKey) (s : State) :
    (relayInService k s).lines = s.lines ∧ (relayInService k s).stc = s.stc ∧
    (relayInService k s).dtc = s.dtc ∧ (relayInService k s).fre = s.fre ∧
    (relayInService k s).cau = s.cau ∧ (relayInService k s).ocu = s.ocu ∧
    (relayInService k s).fmr = s.fmr ∧ (relayInService k s).tlu = s.tlu ∧
    (relayInService k s).mst = s.mst ∧ (relayInService k s).cns = s.cns ∧
    (relayInService k s).now = s.now ∧ (relayInService k s).tickAt = s.tickAt ∧
    (relayInService k s).slotAt = s.slotAt ∧ (relayInService k s).free = s.free ∧
    (relayInService k s).pending = s.pending := by
  simp [relayInService]

@[simp] theorem toldSent_frame (q : Request) (s : State) :
    (toldSent q s).lines = s.lines ∧ (toldSent q s).stc = s.stc ∧ (toldSent q s).dtc = s.dtc ∧
    (toldSent q s).fre = s.fre ∧ (toldSent q s).ocu = s.ocu ∧ (toldSent q s).fmr = s.fmr ∧
    (toldSent q s).tlu = s.tlu ∧ (toldSent q s).mst = s.mst ∧ (toldSent q s).now = s.now ∧
    (toldSent q s).tickAt = s.tickAt ∧ (toldSent q s).slotAt = s.slotAt ∧ (toldSent q s).free = s.free ∧
    (toldSent q s).pending = s.pending := by
  unfold toldSent
  (repeat' split) <;> simp_all

@[simp] theorem toldDelivered_frame (q : Request) (s : State) :
    (toldDelivered q s).lines = s.lines ∧ (toldDelivered q s).stc = s.stc ∧
    (toldDelivered q s).dtc = s.dtc ∧ (toldDelivered q s).fre = s.fre ∧
    (toldDelivered q s).fmr = s.fmr ∧ (toldDelivered q s).cns = s.cns ∧
    (toldDelivered q s).now = s.now ∧ (toldDelivered q s).tickAt = s.tickAt ∧
    (toldDelivered q s).slotAt = s.slotAt ∧ (toldDelivered q s).free = s.free ∧
    (toldDelivered q s).pending = s.pending := by
  unfold toldDelivered
  (repeat' split) <;> simp_all

@[simp] theorem toldFailed_frame (q : Request) (s : State) :
    (toldFailed q s).lines = s.lines ∧ (toldFailed q s).stc = s.stc ∧ (toldFailed q s).dtc = s.dtc ∧
    (toldFailed q s).fre = s.fre ∧ (toldFailed q s).cau = s.cau ∧ (toldFailed q s).nbt = s.nbt ∧
    (toldFailed q s).ocu = s.ocu ∧ (toldFailed q s).fmr = s.fmr ∧ (toldFailed q s).cns = s.cns ∧
    (toldFailed q s).emu = s.emu ∧ (toldFailed q s).now = s.now ∧ (toldFailed q s).tickAt = s.tickAt ∧
    (toldFailed q s).slotAt = s.slotAt ∧ (toldFailed q s).free = s.free ∧
    (toldFailed q s).pending = s.pending := by
  unfold toldFailed
  (repeat' split) <;> simp_all

@[simp] theorem told_frame (x : Outcome) (q : Request) (s : State) :
    (told x q s).lines = s.lines ∧ (told x q s).stc = s.stc ∧ (told x q s).dtc = s.dtc ∧
    (told x q s).fre = s.fre ∧ (told x q s).fmr = s.fmr ∧ (told x q s).now = s.now ∧
    (told x q s).tickAt = s.tickAt ∧ (told x q s).slotAt = s.slotAt ∧ (told x q s).free = s.free ∧
    (told x q s).pending = s.pending := by
  unfold told
  (repeat' split) <;> simp_all

@[simp] theorem admitHeld_frame (s : State) :
    (admitHeld s).lines = s.lines ∧ (admitHeld s).stc = s.stc ∧ (admitHeld s).dtc = s.dtc ∧
    (admitHeld s).fre = s.fre ∧ (admitHeld s).fmr = s.fmr ∧ (admitHeld s).cns = s.cns ∧
    (admitHeld s).now = s.now ∧ (admitHeld s).tickAt = s.tickAt ∧ (admitHeld s).slotAt = s.slotAt ∧
    (admitHeld s).free = s.free ∧ (admitHeld s).pending = s.pending := by
  unfold admitHeld
  dsimp only
  repeat' split
  all_goals try simp_all
  all_goals repeat' split
  all_goals simp_all

/-- The end of a service changes the in-service record and the access procedure alone. -/
@[simp] theorem endService_frame (s : State) :
    (endService s).lines = s.lines ∧ (endService s).stc = s.stc ∧ (endService s).dtc = s.dtc ∧
    (endService s).fre = s.fre ∧ (endService s).nbt = s.nbt ∧ (endService s).ocu = s.ocu ∧
    (endService s).fmr = s.fmr ∧ (endService s).tlu = s.tlu ∧ (endService s).mst = s.mst ∧
    (endService s).cns = s.cns ∧ (endService s).emu = s.emu ∧ (endService s).now = s.now ∧
    (endService s).tickAt = s.tickAt ∧ (endService s).slotAt = s.slotAt ∧
    (endService s).free = s.free ∧ (endService s).pending = s.pending ∧
    (endService s).cau.queue = s.cau.queue ∧ (endService s).cau.held = s.cau.held ∧
    (endService s).cau.mask = s.cau.mask ∧ (endService s).cau.inService = none ∧
    (endService s).cau.access.candidate = none ∧ (endService s).cau.access.phase = .defer :=
  ⟨rfl, rfl, rfl, rfl, rfl, rfl, rfl, rfl, rfl, rfl, rfl, rfl, rfl, rfl, rfl, rfl, rfl, rfl, rfl, rfl,
    rfl, rfl⟩

@[simp] theorem leaveService_frame (x : Outcome) (e : QueueEntry) (s : State) :
    (leaveService x e s).lines = s.lines ∧ (leaveService x e s).stc = s.stc ∧
    (leaveService x e s).dtc = s.dtc ∧ (leaveService x e s).fre = s.fre ∧
    (leaveService x e s).fmr = s.fmr ∧ (leaveService x e s).now = s.now ∧
    (leaveService x e s).tickAt = s.tickAt ∧ (leaveService x e s).slotAt = s.slotAt ∧
    (leaveService x e s).free = s.free ∧ (leaveService x e s).pending = s.pending := by
  unfold leaveService
  (repeat' split) <;> simp_all

@[simp] theorem takeSeq_frame (n : Option Serial) (s : State) :
    (takeSeq n s).2.lines = s.lines ∧ (takeSeq n s).2.stc = s.stc ∧ (takeSeq n s).2.dtc = s.dtc ∧
    (takeSeq n s).2.cau = s.cau ∧ (takeSeq n s).2.nbt = s.nbt ∧ (takeSeq n s).2.ocu = s.ocu ∧
    (takeSeq n s).2.fmr = s.fmr ∧ (takeSeq n s).2.tlu = s.tlu ∧ (takeSeq n s).2.mst = s.mst ∧
    (takeSeq n s).2.cns = s.cns ∧ (takeSeq n s).2.emu = s.emu ∧ (takeSeq n s).2.now = s.now ∧
    (takeSeq n s).2.tickAt = s.tickAt ∧ (takeSeq n s).2.slotAt = s.slotAt ∧
    (takeSeq n s).2.free = s.free ∧ (takeSeq n s).2.pending = s.pending := by
  unfold takeSeq
  (repeat' split) <;> simp_all

@[simp] theorem bidPayload_frame (k : FrameKind) (id : OfferId) (s : State) :
    (bidPayload k id s).2.lines = s.lines ∧ (bidPayload k id s).2.stc = s.stc ∧
    (bidPayload k id s).2.dtc = s.dtc ∧ (bidPayload k id s).2.fre = s.fre ∧
    (bidPayload k id s).2.cau = s.cau ∧ (bidPayload k id s).2.nbt = s.nbt ∧
    (bidPayload k id s).2.fmr = s.fmr ∧ (bidPayload k id s).2.tlu = s.tlu ∧
    (bidPayload k id s).2.mst = s.mst ∧ (bidPayload k id s).2.cns = s.cns ∧
    (bidPayload k id s).2.emu = s.emu ∧ (bidPayload k id s).2.now = s.now ∧
    (bidPayload k id s).2.tickAt = s.tickAt ∧ (bidPayload k id s).2.slotAt = s.slotAt ∧
    (bidPayload k id s).2.pending = s.pending := by
  unfold bidPayload freeScoreOf
  dsimp only
  (repeat' split) <;> simp_all

@[simp] theorem replyBytes_frame (n : Nat) (s : State) :
    (replyBytes n s).2.lines = s.lines ∧ (replyBytes n s).2.stc = s.stc ∧
    (replyBytes n s).2.dtc = s.dtc ∧ (replyBytes n s).2.fre = s.fre ∧ (replyBytes n s).2.cau = s.cau ∧
    (replyBytes n s).2.nbt = s.nbt ∧ (replyBytes n s).2.ocu = s.ocu ∧ (replyBytes n s).2.fmr = s.fmr ∧
    (replyBytes n s).2.tlu = s.tlu ∧ (replyBytes n s).2.mst = s.mst ∧ (replyBytes n s).2.cns = s.cns ∧
    (replyBytes n s).2.emu = s.emu ∧ (replyBytes n s).2.now = s.now ∧
    (replyBytes n s).2.tickAt = s.tickAt ∧ (replyBytes n s).2.slotAt = s.slotAt ∧
    (replyBytes n s).2.pending = s.pending := by
  unfold replyBytes
  (repeat' split) <;> simp_all

@[simp] theorem ownAlarmBytes_frame (k : FrameKind) (s : State) :
    (ownAlarmBytes k s).2.lines = s.lines ∧ (ownAlarmBytes k s).2.stc = s.stc ∧
    (ownAlarmBytes k s).2.dtc = s.dtc ∧ (ownAlarmBytes k s).2.fre = s.fre ∧
    (ownAlarmBytes k s).2.cau = s.cau ∧ (ownAlarmBytes k s).2.nbt = s.nbt ∧
    (ownAlarmBytes k s).2.ocu = s.ocu ∧ (ownAlarmBytes k s).2.fmr = s.fmr ∧
    (ownAlarmBytes k s).2.tlu = s.tlu ∧ (ownAlarmBytes k s).2.mst = s.mst ∧
    (ownAlarmBytes k s).2.cns = s.cns ∧ (ownAlarmBytes k s).2.now = s.now ∧
    (ownAlarmBytes k s).2.tickAt = s.tickAt ∧ (ownAlarmBytes k s).2.slotAt = s.slotAt ∧
    (ownAlarmBytes k s).2.free = s.free ∧ (ownAlarmBytes k s).2.pending = s.pending := by
  exact ⟨rfl, rfl, rfl, rfl, rfl, rfl, rfl, rfl, rfl, rfl, rfl, rfl, rfl, rfl, rfl, rfl⟩

@[simp] theorem payloadOf_frame (q : Request) (s : State) :
    (payloadOf q s).2.lines = s.lines ∧ (payloadOf q s).2.stc = s.stc ∧ (payloadOf q s).2.dtc = s.dtc ∧
    (payloadOf q s).2.fre = s.fre ∧ (payloadOf q s).2.cau = s.cau ∧ (payloadOf q s).2.nbt = s.nbt ∧
    (payloadOf q s).2.fmr = s.fmr ∧ (payloadOf q s).2.tlu = s.tlu ∧ (payloadOf q s).2.mst = s.mst ∧
    (payloadOf q s).2.cns = s.cns ∧ (payloadOf q s).2.now = s.now ∧
    (payloadOf q s).2.tickAt = s.tickAt ∧ (payloadOf q s).2.slotAt = s.slotAt ∧
    (payloadOf q s).2.pending = s.pending := by
  unfold payloadOf
  (repeat' split) <;> simp_all

@[simp] theorem sendEntry_frame (r : InService) (e : QueueEntry) (s : State) :
    (sendEntry r e s).lines = s.lines ∧ (sendEntry r e s).dtc = s.dtc ∧ (sendEntry r e s).nbt = s.nbt ∧
    (sendEntry r e s).fmr = s.fmr ∧ (sendEntry r e s).tlu = s.tlu ∧ (sendEntry r e s).mst = s.mst ∧
    (sendEntry r e s).now = s.now ∧ (sendEntry r e s).tickAt = s.tickAt ∧
    (sendEntry r e s).slotAt = s.slotAt ∧ (sendEntry r e s).pending = s.pending := by
  unfold sendEntry
  dsimp only
  repeat' split
  all_goals try simp_all
  all_goals repeat' split
  all_goals simp_all

@[simp] theorem inServiceNotice_frame (q : Request) (s : State) :
    (inServiceNotice q s).lines = s.lines ∧ (inServiceNotice q s).stc = s.stc ∧
    (inServiceNotice q s).dtc = s.dtc ∧ (inServiceNotice q s).fre = s.fre ∧
    (inServiceNotice q s).fmr = s.fmr ∧ (inServiceNotice q s).cns = s.cns ∧
    (inServiceNotice q s).now = s.now ∧ (inServiceNotice q s).tickAt = s.tickAt ∧
    (inServiceNotice q s).slotAt = s.slotAt ∧ (inServiceNotice q s).free = s.free ∧
    (inServiceNotice q s).pending = s.pending := by
  unfold inServiceNotice
  (repeat' split) <;> simp_all

@[simp] theorem enterService_frame (e : QueueEntry) (s : State) :
    (enterService e s).lines = s.lines ∧ (enterService e s).dtc = s.dtc ∧
    (enterService e s).fmr = s.fmr ∧ (enterService e s).now = s.now ∧
    (enterService e s).tickAt = s.tickAt ∧ (enterService e s).slotAt = s.slotAt ∧
    (enterService e s).pending = s.pending := by
  unfold enterService
  dsimp only
  repeat' split
  all_goals try simp_all
  all_goals repeat' split
  all_goals simp_all

@[simp] theorem keyIfZero_frame (n : Nat) (s : State) :
    (keyIfZero n s).lines = s.lines ∧ (keyIfZero n s).dtc = s.dtc ∧ (keyIfZero n s).fmr = s.fmr ∧
    (keyIfZero n s).now = s.now ∧ (keyIfZero n s).tickAt = s.tickAt ∧
    (keyIfZero n s).slotAt = s.slotAt ∧ (keyIfZero n s).pending = s.pending := by
  unfold keyIfZero
  (repeat' split) <;> simp_all

@[simp] theorem countGap_frame (e : QueueEntry) (s : State) :
    (countGap e s).lines = s.lines ∧ (countGap e s).stc = s.stc ∧ (countGap e s).dtc = s.dtc ∧ (countGap e s).fre = s.fre ∧
    (countGap e s).cau.inService = s.cau.inService ∧ (countGap e s).nbt = s.nbt ∧ (countGap e s).ocu = s.ocu ∧
    (countGap e s).fmr = s.fmr ∧ (countGap e s).tlu = s.tlu ∧ (countGap e s).mst = s.mst ∧ (countGap e s).cns = s.cns ∧
    (countGap e s).emu = s.emu ∧ (countGap e s).now = s.now ∧ (countGap e s).tickAt = s.tickAt ∧
    (countGap e s).slotAt = s.slotAt ∧ (countGap e s).free = s.free ∧ (countGap e s).pending = s.pending := by
  simp [countGap, State.updEntry]

@[simp] theorem countSlot_frame (e : QueueEntry) (s : State) :
    (countSlot e s).lines = s.lines ∧ (countSlot e s).stc = s.stc ∧ (countSlot e s).dtc = s.dtc ∧ (countSlot e s).fre = s.fre ∧
    (countSlot e s).cau.inService = s.cau.inService ∧ (countSlot e s).nbt = s.nbt ∧ (countSlot e s).ocu = s.ocu ∧
    (countSlot e s).fmr = s.fmr ∧ (countSlot e s).tlu = s.tlu ∧ (countSlot e s).mst = s.mst ∧ (countSlot e s).cns = s.cns ∧
    (countSlot e s).emu = s.emu ∧ (countSlot e s).now = s.now ∧ (countSlot e s).tickAt = s.tickAt ∧
    (countSlot e s).slotAt = s.slotAt ∧ (countSlot e s).free = s.free ∧ (countSlot e s).pending = s.pending := by
  simp [countSlot, State.updEntry]

@[simp] theorem endGap_frame (e : QueueEntry) (s : State) :
    (endGap e s).lines = s.lines ∧ (endGap e s).dtc = s.dtc ∧ (endGap e s).fmr = s.fmr ∧
    (endGap e s).now = s.now ∧ (endGap e s).tickAt = s.tickAt ∧ (endGap e s).slotAt = s.slotAt ∧
    (endGap e s).pending = s.pending := by
  simp [endGap]

@[simp] theorem endSlot_frame (e : QueueEntry) (s : State) :
    (endSlot e s).lines = s.lines ∧ (endSlot e s).dtc = s.dtc ∧ (endSlot e s).fmr = s.fmr ∧
    (endSlot e s).now = s.now ∧ (endSlot e s).tickAt = s.tickAt ∧ (endSlot e s).slotAt = s.slotAt ∧
    (endSlot e s).pending = s.pending := by
  simp [endSlot]

@[simp] theorem countAtCarrier_frame (s : State) :
    (countAtCarrier s).lines = s.lines ∧ (countAtCarrier s).stc = s.stc ∧ (countAtCarrier s).dtc = s.dtc ∧ (countAtCarrier s).fre = s.fre ∧
    (countAtCarrier s).cau.inService = s.cau.inService ∧ (countAtCarrier s).nbt = s.nbt ∧ (countAtCarrier s).ocu = s.ocu ∧
    (countAtCarrier s).fmr = s.fmr ∧ (countAtCarrier s).tlu = s.tlu ∧ (countAtCarrier s).mst = s.mst ∧ (countAtCarrier s).cns = s.cns ∧
    (countAtCarrier s).emu = s.emu ∧ (countAtCarrier s).now = s.now ∧ (countAtCarrier s).tickAt = s.tickAt ∧
    (countAtCarrier s).slotAt = s.slotAt ∧ (countAtCarrier s).free = s.free ∧ (countAtCarrier s).pending = s.pending := by
  unfold countAtCarrier
  (repeat' split) <;> simp

@[simp] theorem endSending_frame (r : InService) (e : QueueEntry) (s : State) :
    (endSending r e s).lines = s.lines ∧ (endSending r e s).stc = s.stc ∧
    (endSending r e s).dtc = s.dtc ∧ (endSending r e s).fmr = s.fmr ∧ (endSending r e s).now = s.now ∧
    (endSending r e s).tickAt = s.tickAt ∧ (endSending r e s).slotAt = s.slotAt ∧
    (endSending r e s).free = s.free ∧ (endSending r e s).pending = s.pending := by
  unfold endSending
  (repeat' split) <;> simp_all

@[simp] theorem endAckWait_frame (r : InService) (e : QueueEntry) (s : State) :
    (endAckWait r e s).lines = s.lines ∧ (endAckWait r e s).stc = s.stc ∧
    (endAckWait r e s).dtc = s.dtc ∧ (endAckWait r e s).fmr = s.fmr ∧ (endAckWait r e s).now = s.now ∧
    (endAckWait r e s).tickAt = s.tickAt ∧ (endAckWait r e s).slotAt = s.slotAt ∧
    (endAckWait r e s).free = s.free ∧ (endAckWait r e s).pending = s.pending := by
  unfold endAckWait
  (repeat' split) <;> simp_all

@[simp] theorem hearAck_frame (n : Station) (p : AckPayload) (s : State) :
    (hearAck n p s).lines = s.lines ∧ (hearAck n p s).stc = s.stc ∧ (hearAck n p s).dtc = s.dtc ∧
    (hearAck n p s).fre = s.fre ∧ (hearAck n p s).fmr = s.fmr ∧ (hearAck n p s).now = s.now ∧
    (hearAck n p s).tickAt = s.tickAt ∧ (hearAck n p s).slotAt = s.slotAt ∧
    (hearAck n p s).free = s.free ∧ (hearAck n p s).pending = s.pending := by
  unfold hearAck
  (repeat' split) <;> simp_all

@[simp] theorem endAckGap_frame (r : PendingAck) (s : State) :
    (endAckGap r s).lines = s.lines ∧ (endAckGap r s).stc = s.stc ∧ (endAckGap r s).dtc = s.dtc ∧
    (endAckGap r s).cau = s.cau ∧ (endAckGap r s).nbt = s.nbt ∧ (endAckGap r s).ocu = s.ocu ∧
    (endAckGap r s).fmr = s.fmr ∧ (endAckGap r s).tlu = s.tlu ∧ (endAckGap r s).mst = s.mst ∧
    (endAckGap r s).cns = s.cns ∧ (endAckGap r s).emu = s.emu ∧ (endAckGap r s).now = s.now ∧
    (endAckGap r s).tickAt = s.tickAt ∧ (endAckGap r s).slotAt = s.slotAt ∧
    (endAckGap r s).free = s.free ∧ (endAckGap r s).pending = s.pending := by
  unfold endAckGap
  dsimp only
  repeat' split
  all_goals try simp_all
  all_goals repeat' split
  all_goals simp_all

@[simp] theorem sendAck_frame (t : AckTx) (s : State) :
    (sendAck t s).lines = s.lines ∧ (sendAck t s).dtc = s.dtc ∧ (sendAck t s).cau = s.cau ∧
    (sendAck t s).nbt = s.nbt ∧ (sendAck t s).ocu = s.ocu ∧ (sendAck t s).fmr = s.fmr ∧
    (sendAck t s).tlu = s.tlu ∧ (sendAck t s).mst = s.mst ∧ (sendAck t s).emu = s.emu ∧
    (sendAck t s).now = s.now ∧ (sendAck t s).tickAt = s.tickAt ∧ (sendAck t s).slotAt = s.slotAt ∧
    (sendAck t s).free = s.free ∧ (sendAck t s).pending = s.pending := by
  unfold sendAck
  dsimp only
  repeat' split
  all_goals try simp_all
  all_goals repeat' split
  all_goals simp_all

@[simp] theorem endAck_frame (s : State) :
    (endAck s).lines = s.lines ∧ (endAck s).stc = s.stc ∧ (endAck s).dtc = s.dtc ∧
    (endAck s).nbt = s.nbt ∧ (endAck s).ocu = s.ocu ∧ (endAck s).fmr = s.fmr ∧ (endAck s).tlu = s.tlu ∧
    (endAck s).mst = s.mst ∧ (endAck s).cns = s.cns ∧ (endAck s).emu = s.emu ∧ (endAck s).now = s.now ∧
    (endAck s).tickAt = s.tickAt ∧ (endAck s).slotAt = s.slotAt ∧ (endAck s).free = s.free ∧
    (endAck s).pending = s.pending := by
  simp [endAck]

@[simp] theorem deliver_frame (k : FrameKind) (f : AirFrame) (s : State) :
    (deliver k f s).lines = s.lines ∧ (deliver k f s).fre = s.fre ∧ (deliver k f s).fmr = s.fmr ∧
    (deliver k f s).now = s.now ∧ (deliver k f s).tickAt = s.tickAt ∧
    (deliver k f s).slotAt = s.slotAt ∧ (deliver k f s).free = s.free ∧
    (deliver k f s).pending = s.pending := by
  unfold deliver
  dsimp only
  repeat' split
  all_goals try simp_all
  all_goals repeat' split
  all_goals simp_all

@[simp] theorem acknowledge_frame (k : FrameKind) (f : AirFrame) (s : State) :
    (acknowledge k f s).lines = s.lines ∧ (acknowledge k f s).fmr = s.fmr ∧
    (acknowledge k f s).now = s.now ∧ (acknowledge k f s).tickAt = s.tickAt ∧
    (acknowledge k f s).slotAt = s.slotAt ∧ (acknowledge k f s).free = s.free ∧
    (acknowledge k f s).pending = s.pending := by
  unfold acknowledge
  dsimp only
  repeat' split
  all_goals try simp_all
  all_goals repeat' split
  all_goals simp_all

@[simp] theorem route_frame (k : FrameKind) (f : AirFrame) (s : State) :
    (route k f s).lines = s.lines ∧ (route k f s).fmr = s.fmr ∧ (route k f s).now = s.now ∧
    (route k f s).tickAt = s.tickAt ∧ (route k f s).slotAt = s.slotAt ∧ (route k f s).free = s.free ∧
    (route k f s).pending = s.pending := by
  unfold route
  (repeat' split) <;> simp_all

@[simp] theorem routeKind_frame (k : Option FrameKind) (f : AirFrame) (s : State) :
    (routeKind k f s).lines = s.lines ∧ (routeKind k f s).fmr = s.fmr ∧ (routeKind k f s).now = s.now ∧
    (routeKind k f s).tickAt = s.tickAt ∧ (routeKind k f s).slotAt = s.slotAt ∧
    (routeKind k f s).free = s.free ∧ (routeKind k f s).pending = s.pending := by
  unfold routeKind
  (repeat' split) <;> simp_all

@[simp] theorem validFrame_frame (k : Option FrameKind) (f : AirFrame) (s : State) :
    (validFrame k f s).lines = s.lines ∧ (validFrame k f s).fmr = s.fmr ∧
    (validFrame k f s).now = s.now ∧ (validFrame k f s).tickAt = s.tickAt ∧
    (validFrame k f s).slotAt = s.slotAt ∧ (validFrame k f s).free = s.free ∧
    (validFrame k f s).pending = s.pending := by
  unfold validFrame
  dsimp only
  repeat' split
  all_goals try simp_all
  all_goals repeat' split
  all_goals simp_all

@[simp] theorem takeFrame_frame (k : Option FrameKind) (f : AirFrame) (s : State) :
    (takeFrame k f s).lines = s.lines ∧ (takeFrame k f s).fmr = s.fmr ∧ (takeFrame k f s).now = s.now ∧
    (takeFrame k f s).tickAt = s.tickAt ∧ (takeFrame k f s).slotAt = s.slotAt ∧
    (takeFrame k f s).free = s.free ∧ (takeFrame k f s).pending = s.pending := by
  unfold takeFrame
  dsimp only
  (repeat' split) <;> simp_all

@[simp] theorem deliverLooped_frame (k : FrameKind) (f : AirFrame) (s : State) :
    (deliverLooped k f s).lines = s.lines ∧ (deliverLooped k f s).fre = s.fre ∧
    (deliverLooped k f s).fmr = s.fmr ∧ (deliverLooped k f s).now = s.now ∧
    (deliverLooped k f s).tickAt = s.tickAt ∧ (deliverLooped k f s).slotAt = s.slotAt ∧
    (deliverLooped k f s).free = s.free ∧ (deliverLooped k f s).pending = s.pending := by
  unfold deliverLooped
  (repeat' split) <;> simp_all

@[simp] theorem takeLooped_frame (t : TxFrame) (s : State) :
    (takeLooped t s).lines = s.lines ∧ (takeLooped t s).fmr = s.fmr ∧ (takeLooped t s).now = s.now ∧
    (takeLooped t s).tickAt = s.tickAt ∧ (takeLooped t s).slotAt = s.slotAt ∧
    (takeLooped t s).free = s.free ∧ (takeLooped t s).pending = s.pending := by
  unfold takeLooped
  (repeat' split) <;> simp_all

@[simp] theorem endLooped_frame (e : QueueEntry) (t : TxFrame) (s : State) :
    (endLooped e t s).lines = s.lines ∧ (endLooped e t s).fmr = s.fmr ∧ (endLooped e t s).now = s.now ∧
    (endLooped e t s).tickAt = s.tickAt ∧ (endLooped e t s).slotAt = s.slotAt ∧
    (endLooped e t s).free = s.free ∧ (endLooped e t s).pending = s.pending := by
  unfold endLooped
  (repeat' split) <;> simp_all

@[simp] theorem endBad_frame (s : State) :
    (endBad s).lines = s.lines ∧ (endBad s).stc = s.stc ∧ (endBad s).dtc = s.dtc ∧
    (endBad s).cau = s.cau ∧ (endBad s).nbt = s.nbt ∧ (endBad s).ocu = s.ocu ∧ (endBad s).fmr = s.fmr ∧
    (endBad s).tlu = s.tlu ∧ (endBad s).mst = s.mst ∧ (endBad s).cns = s.cns ∧ (endBad s).emu = s.emu ∧
    (endBad s).now = s.now ∧ (endBad s).tickAt = s.tickAt ∧ (endBad s).slotAt = s.slotAt ∧
    (endBad s).free = s.free ∧ (endBad s).pending = s.pending := by
  simp [endBad]

@[simp] theorem clickTone_frame (s : State) :
    (clickTone s).lines = s.lines ∧ (clickTone s).stc = s.stc ∧ (clickTone s).dtc = s.dtc ∧
    (clickTone s).fre = s.fre ∧ (clickTone s).cau = s.cau ∧ (clickTone s).nbt = s.nbt ∧
    (clickTone s).ocu = s.ocu ∧ (clickTone s).fmr = s.fmr ∧ (clickTone s).tlu = s.tlu ∧
    (clickTone s).mst = s.mst ∧ (clickTone s).emu = s.emu ∧ (clickTone s).now = s.now ∧
    (clickTone s).tickAt = s.tickAt ∧ (clickTone s).slotAt = s.slotAt ∧ (clickTone s).free = s.free ∧
    (clickTone s).pending = s.pending := by
  unfold clickTone
  (repeat' split) <;> simp_all

@[simp] theorem reachDebounce_frame (s : State) :
    (reachDebounce s).lines = s.lines ∧ (reachDebounce s).stc = s.stc ∧ (reachDebounce s).dtc = s.dtc ∧
    (reachDebounce s).fre = s.fre ∧ (reachDebounce s).cau = s.cau ∧ (reachDebounce s).nbt = s.nbt ∧
    (reachDebounce s).ocu = s.ocu ∧ (reachDebounce s).fmr = s.fmr ∧ (reachDebounce s).tlu = s.tlu ∧
    (reachDebounce s).mst = s.mst ∧ (reachDebounce s).cns = s.cns ∧ (reachDebounce s).emu = s.emu ∧
    (reachDebounce s).tickAt = s.tickAt ∧ (reachDebounce s).slotAt = s.slotAt ∧
    (reachDebounce s).free = s.free ∧ (reachDebounce s).pending = s.pending := by
  unfold reachDebounce
  (repeat' split) <;> simp_all

@[simp] theorem holdKey_frame (k : Key) (s : State) :
    (holdKey k s).lines = s.lines ∧ (holdKey k s).stc = s.stc ∧ (holdKey k s).dtc = s.dtc ∧
    (holdKey k s).fre = s.fre ∧ (holdKey k s).cau = s.cau ∧ (holdKey k s).nbt = s.nbt ∧
    (holdKey k s).ocu = s.ocu ∧ (holdKey k s).fmr = s.fmr ∧ (holdKey k s).tlu = s.tlu ∧
    (holdKey k s).mst = s.mst ∧ (holdKey k s).emu = s.emu ∧ (holdKey k s).tickAt = s.tickAt ∧
    (holdKey k s).slotAt = s.slotAt ∧ (holdKey k s).free = s.free ∧ (holdKey k s).pending = s.pending := by
  simp [holdKey]

@[simp] theorem runLockout_frame (s : State) :
    (runLockout s).lines = s.lines ∧ (runLockout s).stc = s.stc ∧ (runLockout s).dtc = s.dtc ∧
    (runLockout s).fre = s.fre ∧ (runLockout s).cau = s.cau ∧ (runLockout s).nbt = s.nbt ∧
    (runLockout s).ocu = s.ocu ∧ (runLockout s).fmr = s.fmr ∧ (runLockout s).tlu = s.tlu ∧
    (runLockout s).mst = s.mst ∧ (runLockout s).cns = s.cns ∧ (runLockout s).now = s.now ∧
    (runLockout s).tickAt = s.tickAt ∧ (runLockout s).slotAt = s.slotAt ∧ (runLockout s).free = s.free ∧
    (runLockout s).pending = s.pending := by
  unfold runLockout
  (repeat' split) <;> simp_all

@[simp] theorem standLockout_frame (s : State) :
    (standLockout s).lines = s.lines ∧ (standLockout s).stc = s.stc ∧ (standLockout s).dtc = s.dtc ∧
    (standLockout s).fre = s.fre ∧ (standLockout s).cau = s.cau ∧ (standLockout s).nbt = s.nbt ∧
    (standLockout s).ocu = s.ocu ∧ (standLockout s).fmr = s.fmr ∧ (standLockout s).tlu = s.tlu ∧
    (standLockout s).mst = s.mst ∧ (standLockout s).cns = s.cns ∧ (standLockout s).now = s.now ∧
    (standLockout s).tickAt = s.tickAt ∧ (standLockout s).slotAt = s.slotAt ∧
    (standLockout s).free = s.free ∧ (standLockout s).pending = s.pending := by
  unfold standLockout
  (repeat' split) <;> simp_all

@[simp] theorem resumeEmergency_frame (s : State) :
    (resumeEmergency s).lines = s.lines ∧ (resumeEmergency s).stc = s.stc ∧
    (resumeEmergency s).dtc = s.dtc ∧ (resumeEmergency s).fre = s.fre ∧
    (resumeEmergency s).fmr = s.fmr ∧ (resumeEmergency s).now = s.now ∧
    (resumeEmergency s).tickAt = s.tickAt ∧ (resumeEmergency s).slotAt = s.slotAt ∧
    (resumeEmergency s).free = s.free ∧ (resumeEmergency s).pending = s.pending := by
  unfold resumeEmergency
  (repeat' split) <;> simp_all

@[simp] theorem enterPower_frame (s : State) :
    (enterPower s).lines = s.lines ∧ (enterPower s).dtc = s.dtc ∧ (enterPower s).fre = s.fre ∧
    (enterPower s).cau = s.cau ∧ (enterPower s).nbt = s.nbt ∧ (enterPower s).ocu = s.ocu ∧
    (enterPower s).fmr = s.fmr ∧ (enterPower s).tlu = s.tlu ∧ (enterPower s).mst = s.mst ∧
    (enterPower s).emu = s.emu ∧ (enterPower s).now = s.now ∧ (enterPower s).tickAt = s.tickAt ∧
    (enterPower s).slotAt = s.slotAt ∧ (enterPower s).free = s.free ∧
    (enterPower s).pending = s.pending := by
  unfold enterPower
  (repeat' split) <;> simp_all

@[simp] theorem startBeacon_frame (s : State) :
    (startBeacon s).lines = s.lines ∧ (startBeacon s).stc = s.stc ∧ (startBeacon s).dtc = s.dtc ∧
    (startBeacon s).fre = s.fre ∧ (startBeacon s).nbt = s.nbt ∧ (startBeacon s).ocu = s.ocu ∧
    (startBeacon s).fmr = s.fmr ∧ (startBeacon s).tlu = s.tlu ∧ (startBeacon s).mst = s.mst ∧
    (startBeacon s).cns = s.cns ∧ (startBeacon s).emu = s.emu ∧ (startBeacon s).now = s.now ∧
    (startBeacon s).tickAt = s.tickAt ∧ (startBeacon s).slotAt = s.slotAt ∧
    (startBeacon s).free = s.free ∧ (startBeacon s).pending = s.pending := by
  unfold startBeacon
  (repeat' split) <;> simp_all

@[simp] theorem startInterval_frame (s : State) :
    (startInterval s).lines = s.lines ∧ (startInterval s).stc = s.stc ∧ (startInterval s).dtc = s.dtc ∧
    (startInterval s).fre = s.fre ∧ (startInterval s).cau = s.cau ∧ (startInterval s).nbt = s.nbt ∧
    (startInterval s).ocu = s.ocu ∧ (startInterval s).tlu = s.tlu ∧ (startInterval s).mst = s.mst ∧
    (startInterval s).cns = s.cns ∧ (startInterval s).emu = s.emu ∧ (startInterval s).now = s.now ∧
    (startInterval s).tickAt = s.tickAt ∧ (startInterval s).slotAt = s.slotAt ∧
    (startInterval s).free = s.free ∧ (startInterval s).pending = s.pending := by
  unfold startInterval
  (repeat' split) <;> simp_all

end Sys2Proof.Machine
end

