-- ==== Sys2Proof/Laws/Console.lean ====
section
/-! SUPPORT. What a command leaves once the levels it reads have followed, and what a key taken does before
its own act. -/

namespace Sys2Proof.Machine

open Sys2Proof

theorem Settled.refl (s : State) : Settled s s :=
  ⟨s.cau.access, s.stc.parkSince, s.cns.lamps, s.cns.pointers, s.cns.shown, s.cns.selection,
    s.cns.display, rfl⟩

theorem Settled.trans {a b c : State} (h : Settled a b) (k : Settled b c) : Settled a c := by
  obtain ⟨_, _, _, _, _, _, _, rfl⟩ := h
  obtain ⟨x1, x2, x3, x4, x5, x6, x7, rfl⟩ := k
  exact ⟨x1, x2, x3, x4, x5, x6, x7, rfl⟩

theorem settleAccess_settled (s : State) : Settled s (settleAccess s) :=
  ⟨settledAccess s, s.stc.parkSince, s.cns.lamps, s.cns.pointers, s.cns.shown, s.cns.selection,
    s.cns.display, rfl⟩

theorem followPark_settled (s : State) : Settled s (followPark s) := by
  unfold followPark
  split
  · split
    · exact Settled.refl s
    · exact ⟨s.cau.access, some s.now, s.cns.lamps, s.cns.pointers, s.cns.shown, s.cns.selection,
        s.cns.display, rfl⟩
  · exact ⟨s.cau.access, none, s.cns.lamps, s.cns.pointers, s.cns.shown, s.cns.selection,
      s.cns.display, rfl⟩

theorem followLamps_settled (s : State) : Settled s (followLamps s) :=
  ⟨s.cau.access, s.stc.parkSince, (followLamps s).cns.lamps, s.cns.pointers, s.cns.shown,
    s.cns.selection, s.cns.display, rfl⟩

theorem followView_settled (s : State) : Settled s (followView s) := by
  unfold followView
  split
  · exact ⟨s.cau.access, s.stc.parkSince, s.cns.lamps, s.cns.pointers, none, s.cns.selection,
      s.cns.display, rfl⟩
  · exact ⟨s.cau.access, s.stc.parkSince, s.cns.lamps, _, _, _, s.cns.display, rfl⟩

theorem layOut_settled (s : State) : Settled s (layOut s) :=
  ⟨s.cau.access, s.stc.parkSince, s.cns.lamps, s.cns.pointers, s.cns.shown, s.cns.selection,
    displayNow s, rfl⟩

/-- `finish` changes what follows and nothing else. -/
theorem finish_settled (s : State) : Settled s (finish s) :=
  (settleAccess_settled s).trans <| (followPark_settled _).trans <| (followLamps_settled _).trans <|
    (followView_settled _).trans (layOut_settled _)

/-- What a settled state keeps of the state it settled from. -/
theorem Settled.keeps {u t : State} (h : Settled u t) :
    t.lines = u.lines ∧ t.dtc = u.dtc ∧ t.fre = u.fre ∧ t.nbt = u.nbt ∧ t.ocu = u.ocu ∧ t.fmr = u.fmr ∧
    t.tlu = u.tlu ∧ t.mst = u.mst ∧ t.emu = u.emu ∧ t.now = u.now ∧ t.tickAt = u.tickAt ∧
    t.slotAt = u.slotAt ∧ t.free = u.free ∧ t.pending = u.pending := by
  obtain ⟨_, _, _, _, _, _, _, rfl⟩ := h
  exact ⟨rfl, rfl, rfl, rfl, rfl, rfl, rfl, rfl, rfl, rfl, rfl, rfl, rfl, rfl⟩

/-- What a settled state keeps of the parts that follow in part. -/
theorem Settled.keepsParts {u t : State} (h : Settled u t) :
    t.cau = { u.cau with access := t.cau.access } ∧ t.stc = { u.stc with parkSince := t.stc.parkSince } ∧
    t.cns = { u.cns with
      lamps := t.cns.lamps, pointers := t.cns.pointers, shown := t.cns.shown,
      selection := t.cns.selection, display := t.cns.display } := by
  obtain ⟨_, _, _, _, _, _, _, rfl⟩ := h
  exact ⟨rfl, rfl, rfl⟩

/-- The fields of the parts that follow in part. -/
@[simp] theorem finish_fields (s : State) :
    (finish s).stc.phase = s.stc.phase ∧ (finish s).stc.phaseSince = s.stc.phaseSince ∧
    (finish s).stc.startCause = s.stc.startCause ∧ (finish s).stc.pendingCause = s.stc.pendingCause ∧
    (finish s).stc.loopback = s.stc.loopback ∧ (finish s).stc.config = s.stc.config ∧
    (finish s).stc.fault = s.stc.fault ∧ (finish s).stc.power = s.stc.power ∧
    (finish s).stc.supply = s.stc.supply ∧ (finish s).stc.retStation = s.stc.retStation ∧
    (finish s).stc.retFleet = s.stc.retFleet ∧ (finish s).stc.powerLost = s.stc.powerLost ∧
    (finish s).stc.starts = s.stc.starts ∧ (finish s).cau.queue = s.cau.queue ∧
    (finish s).cau.held = s.cau.held ∧ (finish s).cau.inService = s.cau.inService ∧
    (finish s).cau.mask = s.cau.mask ∧ (finish s).cau.rng = s.cau.rng ∧
    (finish s).cau.beaconCount = s.cau.beaconCount ∧ (finish s).cau.beaconLoaded = s.cau.beaconLoaded ∧
    (finish s).cau.nextEntry = s.cau.nextEntry ∧ (finish s).cns.module = s.cns.module ∧
    (finish s).cns.view = s.cns.view ∧ (finish s).cns.keyPrefix = s.cns.keyPrefix ∧
    (finish s).cns.scanner = s.cns.scanner ∧ (finish s).cns.contacts = s.cns.contacts ∧
    (finish s).cns.releaseSince = s.cns.releaseSince ∧
    (finish s).cns.stretchSince = s.cns.stretchSince ∧ (finish s).cns.buzzer = s.cns.buzzer ∧
    (finish s).cns.level = s.cns.level ∧ (finish s).cns.target = s.cns.target ∧
    (finish s).cns.dimSince = s.cns.dimSince ∧ (finish s).cns.wakeSince = s.cns.wakeSince := by
  obtain ⟨_, _, _, _, _, _, _, h⟩ := finish_settled s
  rw [h]
  exact ⟨rfl, rfl, rfl, rfl, rfl, rfl, rfl, rfl, rfl, rfl, rfl, rfl, rfl, rfl, rfl, rfl, rfl, rfl,
    rfl, rfl, rfl, rfl, rfl, rfl, rfl, rfl, rfl, rfl, rfl, rfl, rfl, rfl, rfl⟩

@[simp] theorem finish_running (s : State) : (finish s).running = s.running := by
  simp [State.running]

theorem whenRunning_of_running (f : State → State) {s : State} (h : s.running = true) :
    whenRunning f s = finish (f s) := by
  simp [whenRunning, h]

theorem whenRunning_of_not_running (f : State → State) {s : State} (h : s.running = false) :
    whenRunning f s = s := by
  simp [whenRunning, h]

/-- A command that acts while the 4120 runs gives the state of its act. -/
theorem gives_of_whenRunning {c : Instr} {s u : State} {f : State → State} {v : State}
    (h : exec c s = .next (whenRunning f v)) (hr : v.running = true) (hu : f v = u) : Gives c s u :=
  ⟨finish u, by rw [h, whenRunning_of_running f hr, hu], finish_settled u⟩

/-! ## Keys -/

/-- A pattern is as long as its sounds and the gaps between them (R175). -/
theorem toneLength_eq (t : Tone) :
    toneLength t = (toneBeats t).count * (toneBeats t).length + ((toneBeats t).count - 1) * (toneBeats t).gap := by
  cases t <;> rfl

theorem requestTone_eq (tone : Tone) (s : State) :
    requestTone tone s = { s with cns := { s.cns with buzzer := buzzerAfter tone s } } := by
  unfold requestTone buzzerAfter
  split <;> rfl

theorem refuse_eq (s : State) : refuse s = refused s := by
  unfold refuse refused
  rw [requestTone_eq]
  rfl

/-- The scanner of a key that can be accepted settles on it. -/
theorem settling_of_canAccept {k : Key} {s : State} (h : canAccept k s = true) :
    ∃ since, s.cns.scanner = .settling k since := by
  unfold canAccept at h
  cases hs : s.cns.scanner <;> simp_all

/-- The state of a key held, its tone requested. -/
theorem clickTone_holdKey {k : Key} {since : Moment} {s : State} (h : s.cns.scanner = .settling k since) :
    clickTone (holdKey k s) =
      { s with
        now := max s.now (since + 20)
        cns := { s.cns with scanner := .held k true (max s.now (since + 20) + 500), releaseSince := none,
                            buzzer := buzzerAfterKey (max s.now (since + 20)) s } } := by
  have hh : holdKey k s =
      { s with
        now := max s.now (since + 20)
        cns := { s.cns with scanner := .held k true (max s.now (since + 20) + 500),
                            releaseSince := none } } := by
    unfold holdKey reachDebounce
    rw [h]
    rfl
  unfold clickTone
  rw [hh]
  split
  · rename_i hc
    rw [requestTone_eq, show buzzerAfterKey _ s = _ from if_pos hc]
    rfl
  · rename_i hc
    rw [show buzzerAfterKey _ s = _ from if_neg hc]

/-- A key that is taken is heard, and then its act runs. -/
theorem acceptKey_taken {k : Key} {s : State} (act : State → State) (h : keyTaken k s = true)
    (hv : s.stc.power = .run ∨ viewKey k = false) :
    ∃ u, KeyHeard k s.cns.keyPrefix s u ∧ acceptKey k act s = .next (finish (act u)) := by
  simp only [keyTaken, awake, Bool.and_eq_true, Bool.or_eq_true, decide_eq_true_eq] at h
  obtain ⟨⟨hr, hc⟩, ha⟩ := h
  obtain ⟨since, hs⟩ := settling_of_canAccept hc
  have hx := clickTone_holdKey hs
  unfold acceptKey
  rw [if_pos (by rw [hr, hc]; rfl)]
  unfold keyEvent
  rw [hx]
  by_cases hp : s.stc.power = .park
  · have hw : s.cns.wakeSince.isNone = false := by
      rw [hp] at ha
      cases hy : s.cns.wakeSince with
      | none => rw [hy] at ha; exact absurd ha (by decide)
      | some _ => rfl
    have hv' : viewKey k = false := hv.resolve_left (by rw [hp]; decide)
    refine ⟨_, ⟨since, _, hs, rfl, rfl⟩, ?_⟩
    rw [if_pos hp, if_pos hp]
    simp only [hw, hv', Bool.false_eq_true, if_false]
    rfl
  · refine ⟨_, ⟨since, _, hs, rfl, rfl⟩, ?_⟩
    rw [if_neg hp, if_neg hp]

/-- A key heard, with its prefix dropped. -/
theorem KeyHeard.dropPrefix {k : Key} {p : Option KeyPrefix} {s u : State} (h : KeyHeard k p s u) :
    KeyHeard k none s (dropPrefix u) := by
  obtain ⟨since, now, hs, hn, rfl⟩ := h
  exact ⟨since, now, hs, hn, rfl⟩

end Sys2Proof.Machine
end

