-- ==== Sys2Proof/Laws/Queue.lean ====
section
/-! SUPPORT. What asking the CAU for a frame, and asking it to remove one, can do to the state: the queue and
its records, and at an originator told DROPPED no more than its own record of the frame. What a raised notice
leaves of the store, and where the access procedure stands after a service. -/

namespace Sys2Proof.Machine

open Sys2Proof

/-- What a request to the CAU leaves of the state it was made in: all but the queue, the held request, the
in-service record's deferral, the relays, a next ALARM_CLEAR, the bid frames of the offers, the replies of the
entries, and the report states and hold of the fare log. -/
structure Asked (s t : State) : Prop where
  lines : t.lines = s.lines
  stc : t.stc = s.stc
  dtc : t.dtc = s.dtc
  fre : t.fre = s.fre
  fmr : t.fmr = s.fmr
  cns : t.cns = s.cns
  clocks : t.now = s.now ∧ t.tickAt = s.tickAt ∧ t.slotAt = s.slotAt ∧ t.free = s.free ∧
    t.pending = s.pending
  emu : t.emu = { s.emu with clearDue := t.emu.clearDue }
  cau : t.cau = { s.cau with queue := t.cau.queue, held := t.cau.held, inService := t.cau.inService,
                             nextEntry := t.cau.nextEntry }
  nextEntry : s.cau.nextEntry ≤ t.cau.nextEntry
  service : t.cau.inService.map (fun r => { r with deferred := false }) =
    s.cau.inService.map fun r => { r with deferred := false }
  nbt : t.nbt = { s.nbt with relays := t.nbt.relays }
  relays : t.nbt.relays.Sublist s.nbt.relays
  ocu : t.ocu.offers.map (fun e => { e with bidFrame := BidFrame.none }) =
    s.ocu.offers.map fun e => { e with bidFrame := BidFrame.none }
  mst : t.mst = { s.mst with entries := t.mst.entries }
  entries : t.mst.entries.map (fun e => { e with reply := none }) =
    s.mst.entries.map fun e => { e with reply := none }
  tlu : t.tlu = { s.tlu with log := t.tlu.log, hold := t.tlu.hold }
  log : t.tlu.log.map (fun r => (r.number, r.body)) = s.tlu.log.map fun r => (r.number, r.body)

theorem Asked.refl (s : State) : Asked s s := by
  constructor <;> simp

theorem Asked.trans {a b c : State} (h : Asked a b) (k : Asked b c) : Asked a c where
  lines := k.lines.trans h.lines
  stc := k.stc.trans h.stc
  dtc := k.dtc.trans h.dtc
  fre := k.fre.trans h.fre
  fmr := k.fmr.trans h.fmr
  cns := k.cns.trans h.cns
  clocks := ⟨k.clocks.1.trans h.clocks.1, k.clocks.2.1.trans h.clocks.2.1,
    k.clocks.2.2.1.trans h.clocks.2.2.1, k.clocks.2.2.2.1.trans h.clocks.2.2.2.1,
    k.clocks.2.2.2.2.trans h.clocks.2.2.2.2⟩
  emu := by rw [k.emu, h.emu]
  cau := by rw [k.cau, h.cau]
  nextEntry := Nat.le_trans h.nextEntry k.nextEntry
  service := k.service.trans h.service
  nbt := by rw [k.nbt, h.nbt]
  relays := k.relays.trans h.relays
  ocu := k.ocu.trans h.ocu
  mst := by rw [k.mst, h.mst]
  entries := k.entries.trans h.entries
  tlu := by rw [k.tlu, h.tlu]
  log := k.log.trans h.log

/-! ## Lists changed in one field -/

theorem map_updateWhere {α β : Type} (p : α → Bool) (f : α → α) (g : α → β) (l : List α)
    (h : ∀ a, g (f a) = g a) : (updateWhere p f l).map g = l.map g := by
  induction l with
  | nil => rfl
  | cons a l ih =>
    simp only [updateWhere, List.map_cons] at *
    rw [ih]
    split
    · rw [h]
    · rfl

theorem length_updateWhere {α : Type} (p : α → Bool) (f : α → α) (l : List α) :
    (updateWhere p f l).length = l.length := by
  simp [updateWhere]

theorem mem_updateWhere {α : Type} {p : α → Bool} {f : α → α} {l : List α} {b : α} :
    b ∈ updateWhere p f l ↔ ∃ a ∈ l, b = if p a then f a else a := by
  unfold updateWhere
  rw [List.mem_map]
  constructor
  · rintro ⟨a, ha, rfl⟩
    exact ⟨a, ha, rfl⟩
  · rintro ⟨a, ha, rfl⟩
    exact ⟨a, ha, rfl⟩

theorem find?_updateWhere {α : Type} (p q : α → Bool) (f : α → α) (l : List α)
    (h : ∀ a, p a = true → q (f a) = q a) :
    (updateWhere p f l).find? q = (l.find? q).map fun a => if p a then f a else a := by
  induction l with
  | nil => rfl
  | cons a l ih =>
    simp only [updateWhere, List.map_cons] at *
    by_cases hp : p a = true
    · simp only [hp, if_true, List.find?_cons, h a hp]
      split
      · simp [hp]
      · exact ih
    · simp only [hp, Bool.false_eq_true, if_false, List.find?_cons]
      split
      · simp [hp]
      · exact ih

/-! ## Told DROPPED -/

theorem replyBecomes_reply (r : ReplyState) (e : MsgEntry) :
    { replyBecomes r e with reply := none } = { e with reply := none } := by
  unfold replyBecomes
  split
  · split <;> rfl
  · rfl

theorem updMsg_reply_asked (n : Nat) (r : ReplyState) (s : State) :
    Asked s (s.updMsg n (replyBecomes r)) := by
  constructor <;> first
    | rfl
    | exact ⟨rfl, rfl, rfl, rfl, rfl⟩
    | exact Nat.le_refl _
    | exact List.Sublist.refl _
    | exact map_updateWhere _ _ _ _ (replyBecomes_reply r)

theorem setReport_asked (n : Nat) (r : ReportState) (s : State) : Asked s (s.setReport n r) := by
  constructor <;> first
    | rfl
    | exact ⟨rfl, rfl, rfl, rfl, rfl⟩
    | exact Nat.le_refl _
    | exact List.Sublist.refl _
    | exact map_updateWhere _ _ _ _ fun _ => rfl

theorem setHold_asked (h : Option Nat) (s : State) :
    Asked s { s with tlu := { s.tlu with hold := h } } := by
  constructor <;> first
    | rfl
    | exact ⟨rfl, rfl, rfl, rfl, rfl⟩
    | exact Nat.le_refl _
    | exact List.Sublist.refl _

theorem fareLost_asked (n : Nat) (s : State) : Asked s (fareLost n s) := by
  unfold fareLost
  split
  · exact (setReport_asked n .unsent s).trans (setHold_asked _ _)
  · exact Asked.refl s

theorem clearDropped_asked (s : State) : Asked s (clearDropped s) := by
  unfold clearDropped
  split
  · constructor <;> first
      | rfl
      | exact ⟨rfl, rfl, rfl, rfl, rfl⟩
      | exact Nat.le_refl _
      | exact List.Sublist.refl _
  · exact Asked.refl s

theorem updBidFrame_asked (id : OfferId) (b : BidFrame) (s : State) :
    Asked s (s.updOffer id fun e => { e with bidFrame := b }) := by
  constructor <;> first
    | rfl
    | exact ⟨rfl, rfl, rfl, rfl, rfl⟩
    | exact Nat.le_refl _
    | exact List.Sublist.refl _
    | exact map_updateWhere _ _ _ _ fun _ => rfl

theorem freeRelay_asked (k : RelayKey) (s : State) : Asked s (s.freeRelay k) := by
  constructor <;> first
    | rfl
    | exact ⟨rfl, rfl, rfl, rfl, rfl⟩
    | exact Nat.le_refl _
    | exact List.filter_sublist

theorem toldDropped_asked (kind : FrameKind) (tag : Tag) (s : State) :
    Asked s (toldDropped kind tag s) := by
  unfold toldDropped
  split
  · split
    · exact updBidFrame_asked _ _ _
    · exact Asked.refl s
  · exact updMsg_reply_asked _ _ _
  · exact fareLost_asked _ _
  · split
    · exact clearDropped_asked _
    · exact Asked.refl s
  · exact freeRelay_asked _ _
  · exact Asked.refl s

/-- An originator told DROPPED leaves the CAU as it is. -/
@[simp] theorem toldDropped_cau (kind : FrameKind) (tag : Tag) (s : State) :
    (toldDropped kind tag s).cau = s.cau := by
  unfold toldDropped fareLost clearDropped
  (repeat' split) <;> rfl

/-! ## The queue -/

theorem dequeue_asked (n : Nat) (s : State) : Asked s (dequeue n s) := by
  constructor <;> first
    | rfl
    | exact ⟨rfl, rfl, rfl, rfl, rfl⟩
    | exact Nat.le_refl _
    | exact List.Sublist.refl _

theorem admitEntry_asked (q : Request) (s : State) : Asked s (admitEntry q s) := by
  constructor <;> first
    | rfl
    | exact ⟨rfl, rfl, rfl, rfl, rfl⟩
    | exact Nat.le_succ _
    | exact List.Sublist.refl _

theorem placeRequest_asked (q : Request) (s : State) : Asked s (placeRequest q s).1 := by
  unfold placeRequest
  split
  · exact admitEntry_asked q s
  · split
    · exact Asked.refl s
    · split
      · split
        · exact Asked.refl s
        · exact ((dequeue_asked _ s).trans (toldDropped_asked _ _ _)).trans (admitEntry_asked q _)
      · exact Asked.refl s

theorem requestGeneral_asked (q : Request) (s : State) : Asked s (requestGeneral q s).1 := by
  unfold requestGeneral
  split
  · exact Asked.refl s
  · split
    · exact dequeue_asked _ s
    · exact placeRequest_asked q s

theorem setHeld_asked (h : Option Request) (s : State) :
    Asked s { s with cau := { s.cau with held := h } } := by
  constructor <;> first
    | rfl
    | exact ⟨rfl, rfl, rfl, rfl, rfl⟩
    | exact Nat.le_refl _
    | exact List.Sublist.refl _

theorem updEntry_asked (n : Nat) (f : QueueEntry → QueueEntry) (s : State) :
    Asked s (s.updEntry n f) := by
  constructor <;> first
    | rfl
    | exact ⟨rfl, rfl, rfl, rfl, rfl⟩
    | exact Nat.le_refl _
    | exact List.Sublist.refl _

theorem requestOwnAlarm_asked (q : Request) (s : State) : Asked s (requestOwnAlarm q s).1 := by
  unfold requestOwnAlarm
  split
  · exact requestGeneral_asked q s
  · split
    · unfold holdRequest
      split
      · exact (toldDropped_asked _ _ s).trans (setHeld_asked _ _)
      · exact setHeld_asked _ _
    · split
      · exact Asked.refl s
      · exact (updEntry_asked _ _ s).trans (toldDropped_asked _ _ _)

/-- Asking for a frame. -/
theorem requestFrame_asked (q : Request) (s : State) : Asked s (requestFrame q s).1 := by
  unfold requestFrame
  split
  · split
    · exact Asked.refl s
    · exact requestGeneral_asked q s
  · split
    · split
      · split <;> exact Asked.refl s
      · exact requestGeneral_asked q s
    · split
      · exact requestOwnAlarm_asked q s
      · exact requestGeneral_asked q s

/-- Asking for the removal of a frame. -/
theorem removeFrame_asked (kind : FrameKind) (tag : Tag) (s : State) :
    Asked s (removeFrame kind tag s) := by
  have h1 : ∀ u : State, Asked u
      (match u.cau.queue.find? (fun e => e.req.kind = kind && e.req.tag = tag) with
        | none => u
        | some e =>
          match u.cau.inService with
          | some r =>
            if r.entry = e.number then
              { u with cau := { u.cau with inService := some { r with deferred := true } } }
            else dequeue e.number u
          | none => dequeue e.number u) := by
    intro u
    split
    · exact Asked.refl u
    · split
      · rename_i r hr
        split
        · constructor <;> first
            | rfl
            | exact ⟨rfl, rfl, rfl, rfl, rfl⟩
            | exact Nat.le_refl _
            | exact List.Sublist.refl _
            | (rw [hr]; rfl)
        · exact dequeue_asked _ u
      · exact dequeue_asked _ u
  unfold removeFrame
  refine Asked.trans ?_ (h1 _)
  split
  · split
    · exact setHeld_asked none s
    · exact Asked.refl s
  · exact Asked.refl s

theorem askContest_asked (kind : FrameKind) (id : OfferId) (s : State) :
    Asked s (askContest kind id s) := requestFrame_asked _ s

theorem askAlarm_asked (s : State) : Asked s (askAlarm s) := requestFrame_asked _ s

theorem askClear_asked (s : State) : Asked s (askClear s) := by
  unfold askClear
  dsimp only
  split
  · exact (requestFrame_asked _ s).trans (clearDropped_asked _)
  · exact requestFrame_asked _ s

theorem reportTest_asked (s : State) : Asked s (reportTest s) := by
  unfold reportTest
  split
  · split
    · exact Asked.refl s
    · dsimp only
      split
      · exact (requestFrame_asked _ s).trans (setHold_asked _ _)
      · exact (requestFrame_asked _ s).trans (setReport_asked _ _ _)
  · exact Asked.refl s

theorem homeHeard_asked (s : State) : Asked s (homeHeard s) := by
  unfold homeHeard
  split
  · split
    · exact (setHold_asked none s).trans (reportTest_asked _)
    · exact Asked.refl s
  · exact Asked.refl s

theorem admitHeld_asked (s : State) : Asked s (admitHeld s) := by
  unfold admitHeld
  split
  · dsimp only
    split
    · exact ((setHeld_asked none s).trans (requestFrame_asked _ _)).trans (toldDropped_asked _ _ _)
    · exact (setHeld_asked none s).trans (requestFrame_asked _ _)
  · exact Asked.refl s

/-! ## What a request leaves of the store, as its readers see it -/

theorem findLast_isSome {α : Type} (p : α → Bool) (l : List α) : (findLast p l).isSome = l.any p := by
  induction l with
  | nil => rfl
  | cons a l ih =>
    unfold findLast
    rw [List.any_cons, ← ih]
    cases findLast p l with
    | some b => simp
    | none => cases p a <;> simp

theorem evictee_isSome (s : State) :
    (evictee s).isSome =
      (s.mst.entries.any (fun e => e.state = .read && !e.pin) ||
        s.mst.entries.any fun e => e.complete && e.expired) := by
  rw [← findLast_isSome, ← findLast_isSome]
  unfold evictee
  cases findLast (fun e => e.state = .read && !e.pin) s.mst.entries <;> rfl

theorem any_of_map_reply {l m : List MsgEntry} (p : MsgEntry → Bool)
    (hp : ∀ e : MsgEntry, p { e with reply := none } = p e)
    (h : l.map (fun e => { e with reply := none }) = m.map fun e => { e with reply := none }) :
    l.any p = m.any p := by
  have e1 : ∀ n : List MsgEntry, (n.map (fun e => { e with reply := none })).any p = n.any p := by
    intro n
    rw [List.any_map]
    congr 1
    funext e
    exact hp e
  rw [← e1 l, ← e1 m, h]

/-- A request moves no place of the store. -/
theorem Asked.hasPlace {s t : State} (h : Asked s t) : hasPlace t = hasPlace s := by
  have hl : t.mst.entries.length = s.mst.entries.length := by
    simpa using congrArg List.length h.entries
  unfold Machine.hasPlace
  rw [evictee_isSome, evictee_isSome, hl, any_of_map_reply _ (fun _ => rfl) h.entries,
    any_of_map_reply _ (fun _ => rfl) h.entries]

theorem Asked.msgNamed_isSome {s t : State} (h : Asked s t) (name : MsgName) :
    (t.msgNamed name).isSome = (s.msgNamed name).isSome := by
  have e : ∀ u : State, (u.msgNamed name).isSome = u.mst.entries.any (·.name = name) := by
    intro u
    unfold State.msgNamed
    rw [Bool.eq_iff_iff, List.find?_isSome, List.any_eq_true]
  rw [e, e, any_of_map_reply _ (fun _ => rfl) h.entries]

/-! ## What becomes of the queue -/

theorem mem_insertEntry {e x : QueueEntry} {l : List QueueEntry} :
    x ∈ insertEntry e l ↔ x = e ∨ x ∈ l := by
  induction l with
  | nil => simp [insertEntry]
  | cons a l ih =>
    unfold insertEntry
    split
    · simp
    · simp only [List.mem_cons, ih]
      tauto

theorem length_insertEntry (e : QueueEntry) (l : List QueueEntry) :
    (insertEntry e l).length = l.length + 1 := by
  induction l with
  | nil => rfl
  | cons a l ih =>
    unfold insertEntry
    split
    · rfl
    · simp [ih]

/-- A request admitted where there is room. -/
theorem placeRequest_room (q : Request) {s : State} (h : s.cau.queue.length < 16) :
    placeRequest q s = (admitEntry q s, .queued) := by
  unfold placeRequest
  exact if_pos h

theorem mem_admitEntry (q : Request) (s : State) : ∃ e ∈ (admitEntry q s).cau.queue, e.req = q :=
  ⟨_, mem_insertEntry.mpr (.inl rfl), rfl⟩

/-- A request of a record that has no frame in the queue needs a place (R45). -/
theorem requestFrame_places {q : Request} {s : State}
    (hk : q.kind ≠ .withdraw) (ht : ∀ e ∈ s.cau.queue, ¬(e.req.tag = q.tag ∧ e.req.kind = q.kind))
    (hb : q.kind = .beacon → ∀ e ∈ s.cau.queue, e.req.kind ≠ .beacon)
    (hf : q.kind = .fare → ∀ e ∈ s.cau.queue, e.req.kind ≠ .fare)
    (ha : isOwnAlarm q = true → ∀ e ∈ s.cau.queue, isOwnAlarm e.req = false) :
    requestFrame q s = placeRequest q s := by
  have hs : sameRecord q s = false := by
    simp only [sameRecord, List.any_eq_false, Bool.and_eq_true, decide_eq_true_eq]
    exact ht
  have hg : requestGeneral q s = placeRequest q s := by
    simp [requestGeneral, hs, withdrawCancels, hk]
  unfold requestFrame
  split
  · rename_i hq
    have : s.cau.queue.any (·.req.kind = .beacon) = false := by
      simpa using hb hq
    rw [this]
    exact hg
  · split
    · rename_i hq
      have : s.cau.queue.find? (·.req.kind = .fare) = none := by
        simpa using hf hq
      rw [this]
      exact hg
    · split
      · rename_i hq
        have : s.cau.queue.find? (fun e => isOwnAlarm e.req) = none := by
          simpa using ha hq
        unfold requestOwnAlarm
        rw [this]
        exact hg
      · exact hg

/-- A request of a record that has no frame in the queue, with room for it, is queued. -/
theorem requestFrame_room {q : Request} {s : State} (h : s.cau.queue.length < 16)
    (hk : q.kind ≠ .withdraw) (ht : ∀ e ∈ s.cau.queue, ¬(e.req.tag = q.tag ∧ e.req.kind = q.kind))
    (hb : q.kind = .beacon → ∀ e ∈ s.cau.queue, e.req.kind ≠ .beacon)
    (hf : q.kind = .fare → ∀ e ∈ s.cau.queue, e.req.kind ≠ .fare)
    (ha : isOwnAlarm q = true → ∀ e ∈ s.cau.queue, isOwnAlarm e.req = false) :
    requestFrame q s = (admitEntry q s, .queued) :=
  (requestFrame_places hk ht hb hf ha).trans (placeRequest_room q h)

/-! ## A full queue (R48) -/

/-- The worst class of a list that holds it. -/
theorem foldl_worst {w : Nat} (l : List Nat) : ∀ acc : Option Nat, (∀ c ∈ l, c ≤ w) →
    (acc = some w ∨ w ∈ l ∧ ∀ d, acc = some d → d ≤ w) →
    l.foldl (fun acc c => match acc with | none => some c | some d => some (max d c)) acc = some w := by
  induction l with
  | nil => intro acc _ h; simpa using h
  | cons c l ih =>
    intro acc hb h
    have hc : c ≤ w := hb c (by simp)
    rw [List.foldl_cons]
    refine ih _ (fun d hd => hb d (List.mem_cons_of_mem c hd)) ?_
    rcases h with rfl | ⟨hm, hd⟩
    · left; simp [hc]
    · rcases List.mem_cons.mp hm with rfl | hm
      · left
        cases acc with
        | none => rfl
        | some d => simp [hd d rfl]
      · right
        refine ⟨hm, ?_⟩
        cases acc with
        | none => intro d h; cases h; exact hc
        | some d =>
          intro x h
          cases h
          exact Nat.max_le.mpr ⟨hd d rfl, hc⟩

theorem findLast_append {α : Type} {p : α → Bool} {w : α} {after : List α} (hw : p w = true)
    (ha : ∀ a ∈ after, p a = false) (before : List α) : findLast p (before ++ w :: after) = some w := by
  induction before with
  | nil =>
    have : findLast p after = none := by
      rw [← Option.not_isSome_iff_eq_none, findLast_isSome]
      simpa using ha
    simp [findLast, this, hw]
  | cons b l ih => simp [findLast, ih]

/-- A request in a full queue takes the place of the frame that would be displaced, or is refused (R48). -/
theorem placeRequest_full {w : QueueEntry} {s : State} (h : WouldBeDisplaced w s) (q : Request) :
    placeRequest q s =
      if q.cls < w.req.cls then
        (admitEntry q (toldDropped w.req.kind w.req.tag (dequeue w.number s)), .queued)
      else (s, .dropped) := by
  obtain ⟨hl, hw, _, before, after, hq, hb, ha⟩ := h
  have hwm : w ∈ s.cau.queue := by rw [hq]; simp
  have hworst : worstClass s = some w.req.cls := by
    unfold worstClass
    refine foldl_worst _ none ?_ (Or.inr ⟨?_, fun d h => by cases h⟩)
    · intro c hc
      obtain ⟨x, hx, rfl⟩ := List.mem_map.mp hc
      obtain ⟨hm, hn⟩ := List.mem_filter.mp hx
      have hn : s.isInService x = false := by simpa using hn
      rw [hq] at hm
      rcases List.mem_append.mp hm with hm | hm
      · exact hb x hm hn
      · rcases List.mem_cons.mp hm with rfl | hm
        · exact Nat.le_refl _
        · rw [ha x hm] at hn; cases hn
    · exact List.mem_map.mpr ⟨w, List.mem_filter.mpr ⟨hwm, by simp [hw]⟩, rfl⟩
  have hnew : newestOf w.req.cls s = some w := by
    unfold newestOf
    rw [hq]
    exact findLast_append (by simp [hw]) (fun a h => by simp [ha a h]) before
  unfold placeRequest
  rw [if_neg (by unfold queueCapacity; omega), hworst]
  dsimp only
  rw [hnew]

/-! ## SYSTEM notices -/

theorem findLast_eq {α : Type} (p : α → Bool) (l : List α) : findLast p l = (l.filter p).getLast? := by
  induction l with
  | nil => rfl
  | cons a l ih =>
    unfold findLast
    rw [ih, List.filter_cons]
    cases hp : p a <;> cases h : (l.filter p).getLast? <;> simp [List.getLast?_cons, h]

/-- An entry that leaves the store takes no other with it (R156). -/
@[simp] theorem removeMsg_entries (n : Nat) (s : State) :
    (removeMsg n s).mst.entries = s.mst.entries.filter (·.entry ≠ n) := by
  have hf : (freeMsg n s).mst.entries = s.mst.entries.filter (·.entry ≠ n) := by
    unfold freeMsg
    dsimp only
    split <;> rfl
  unfold removeMsg
  split
  · rename_i h
    unfold State.msg? at h
    simp only [List.find?_eq_none, decide_eq_true_eq] at h
    exact (List.filter_eq_self.2 fun e he => by simpa using h e he).symm
  · dsimp only
    split
    · simp [hf]
    · exact hf

/-- In a full store a notice takes the place of the evictee, or failing that of a notice (R147, R151). -/
theorem leavesForNotice_eq (s : State) :
    leavesForNotice s.mst.entries = (evictee s).or (replacedNotice s) := by
  unfold leavesForNotice evictee replacedNotice
  simp only [findLast_eq]
  cases (s.mst.entries.filter fun e => e.state = .read && !e.pin).getLast? <;>
    cases (s.mst.entries.filter fun e => e.kind = .system && !e.pin).getLast? <;> simp

@[simp] theorem removeMsg_nextMsg (n : Nat) (s : State) : (removeMsg n s).mst.nextMsg = s.mst.nextMsg := by
  have hf : (freeMsg n s).mst.nextMsg = s.mst.nextMsg := by
    unfold freeMsg
    dsimp only
    split <;> rfl
  unfold removeMsg
  split
  · rfl
  · dsimp only
    split
    · simp [hf]
    · exact hf

/-- The entries after a notice is raised (R151), in a store whose keys and numbers are told apart. -/
theorem raiseNotice_entries {key : NoticeKey} {pin : Bool} {text : List Byte} {s : State}
    (hw : StoreWf s) (hk : StoreKeysOnce s) :
    (raiseNotice key pin text s).mst.entries =
      storeWithNotice { noticeEntry key pin text with entry := s.mst.nextMsg } s.mst.entries := by
  unfold raiseNotice storeWithNotice
  cases hn : s.msgNamed (.notice key) with
  | some old =>
    unfold State.msgNamed at hn
    have hm := List.mem_of_find?_eq_some hn
    have hname : old.name = .notice key := by simpa using List.find?_some hn
    have hsame : s.mst.entries.filter (·.entry ≠ old.entry) =
        s.mst.entries.filter (·.name ≠ MsgName.notice key) := by
      refine List.filter_congr fun e he => ?_
      simp only [decide_eq_decide, ne_eq, not_iff_not]
      exact ⟨fun h => List.inj_on_of_nodup_map hw.2.1 he hm h ▸ hname,
        fun h => List.inj_on_of_nodup_map hk he hm (h.trans hname.symm) ▸ rfl⟩
    rw [if_pos (List.any_eq_true.2 ⟨old, hm, by simp [hname, noticeEntry]⟩)]
    show { noticeEntry key pin text with entry := (removeMsg old.entry s).mst.nextMsg } ::
      (removeMsg old.entry s).mst.entries = _
    rw [removeMsg_entries, removeMsg_nextMsg, hsame]
    rfl
  | none =>
    have hnone : ¬(s.mst.entries.any fun x => x.name = (noticeEntry key pin text).name) = true := by
      rw [List.any_eq_true]
      rintro ⟨x, hx, h⟩
      exact List.find?_eq_none.1 hn x hx h
    rw [if_neg hnone, leavesForNotice_eq]
    dsimp only
    unfold hasPlace takePlace storeCapacity
    by_cases hl : s.mst.entries.length < 24
    · simp only [hl, decide_true, Bool.true_or, if_true]
      rfl
    · simp only [hl, decide_false, Bool.false_or, if_false]
      cases evictee s <;> cases replacedNotice s <;> simp [addMsg]

/-! ## The access procedure after a service -/

@[simp] theorem finish_access (s : State) : (finish s).cau.access = settledAccess s := by
  simp [finish, settleAccess]

/-- What the settled access procedure of a state that has returned to DEFER is (R52, R59). -/
theorem finish_returnedToDefer {s : State} (hs : s.cau.inService = none)
    (hp : s.cau.access.phase = .defer ∨ s.cau.access.phase = .inhibited) : ReturnedToDefer (finish s) := by
  have hb : bestEntry (finish s) = bestEntry s := by simp [bestEntry]
  have hi : (finish s).inhibited = s.inhibited := by simp [State.inhibited]
  have hc : (finish s).channelBusy = s.channelBusy := by simp [State.channelBusy, State.txKey]
  unfold ReturnedToDefer accessState
  rw [hb, hi, hc]
  simp only [finish_access, finish_fields, finish_frame, hs]
  unfold settledAccess deferFor
  rcases hp with hp | hp <;> cases bestEntry s <;> cases s.inhibited <;> cases s.channelBusy <;>
    simp [hs, hp]

/-- Asking for frames starts no service and leaves the access procedure to settling. -/
theorem Asked.service_none {s t : State} (h : Asked s t) (hs : s.cau.inService = none) :
    t.cau.inService = none ∧ t.cau.access = s.cau.access :=
  ⟨by simpa [hs] using h.service, by rw [h.cau]⟩

/-- So does an emergency that returns to IDLE. -/
theorem returnToIdle_service_none {s : State} (hs : s.cau.inService = none) :
    (returnToIdle s).cau.inService = none ∧ (returnToIdle s).cau.access = s.cau.access := by
  have h := ((removeFrame_asked .alarm .ownAlarm (setMask 4 (updEmu Emu.idled s))).trans
    (removeFrame_asked .alarmClear .ownAlarm _)).service_none hs
  unfold returnToIdle
  dsimp only
  split
  · exact h
  · exact h

/-- So does telling an originator its outcome. -/
theorem told_service_none (o : Outcome) (q : Request) {s : State} (hs : s.cau.inService = none) :
    (told o q s).cau.inService = none ∧ (told o q s).cau.access = s.cau.access := by
  have hd : ∀ n, Asked s (fareDelivered n s) := fun n => by
    unfold fareDelivered
    split
    · exact (setReport_asked n _ s).trans (reportTest_asked _)
    · exact Asked.refl s
  cases o
  · show (toldSent q s).cau.inService = none ∧ (toldSent q s).cau.access = s.cau.access
    unfold toldSent clearSent
    dsimp only
    (repeat' split) <;> first | exact returnToIdle_service_none hs | simp [hs, updEmu]
  · show (toldDelivered q s).cau.inService = none ∧ (toldDelivered q s).cau.access = s.cau.access
    unfold toldDelivered
    split
    · simp [hs]
    · exact (hd _).service_none hs
    all_goals exact ⟨hs, rfl⟩
  · simp [told, hs]

/-- An entry that leaves service leaves the procedure in DEFER, for settling (R52, R62). -/
theorem leaveService_service (o : Outcome) (e : QueueEntry) (s : State) :
    (leaveService o e s).cau.inService = none ∧ (leaveService o e s).cau.access.phase = .defer := by
  have ht := told_service_none o e.req (s := dequeue e.number (endService s)) rfl
  unfold leaveService
  dsimp only
  split
  · have ha := (admitHeld_asked (told o e.req (dequeue e.number (endService s)))).service_none ht.1
    exact ⟨ha.1, by rw [ha.2, ht.2]; rfl⟩
  · exact ⟨ht.1, by rw [ht.2]; rfl⟩

end Sys2Proof.Machine
end

