-- ==== Sys2Proof/Laws/Contest.lean ====
section
/-! SUPPORT. The heard-bid lists: what each change of a list holds, and that no station stands in it twice. -/

namespace Sys2Proof.Machine

open Sys2Proof

/-- A list of heard bids with each station at most once (R84). -/
def StationsOnce (l : List HeardBid) : Prop := (l.map (·.rank.station)).Nodup

theorem insertBid_perm (b : HeardBid) (l : List HeardBid) : (insertBid b l).Perm (b :: l) := by
  induction l with
  | nil => exact List.Perm.refl _
  | cons a l ih =>
    unfold insertBid
    split
    · exact List.Perm.refl _
    · exact (ih.cons a).trans (List.Perm.swap b a l)

theorem removeFirst_sublist {α : Type} (p : α → Bool) (l : List α) : (removeFirst p l).Sublist l := by
  induction l with
  | nil => exact List.Sublist.refl _
  | cons a l ih =>
    unfold removeFirst
    split
    · exact List.sublist_cons_self a l
    · exact ih.cons_cons a

/-- A place is made by taking bids away. -/
theorem placeForBid_sublist {r : BidRank} {l m : List HeardBid} (h : placeForBid r l = some m) :
    m.Sublist l := by
  unfold placeForBid at h
  split at h
  · cases h; exact List.Sublist.refl _
  · split at h
    · cases h; exact removeFirst_sublist _ _
    · split at h
      · split at h
        · cases h; exact List.dropLast_sublist l
        · cases h
      · cases h

theorem StationsOnce.sublist {l m : List HeardBid} (h : StationsOnce l) (k : m.Sublist l) : StationsOnce m :=
  List.Nodup.sublist (k.map _) h

/-- A bid of a station that has none joins the list. -/
theorem StationsOnce.insertBid {b : HeardBid} {l : List HeardBid} (h : StationsOnce l)
    (hb : ∀ a ∈ l, a.rank.station ≠ b.rank.station) : StationsOnce (insertBid b l) := by
  unfold StationsOnce
  rw [((insertBid_perm b l).map _).nodup_iff]
  simp only [List.map_cons, List.nodup_cons]
  refine ⟨?_, h⟩
  simpa using hb

/-- A heard BID or TAKE leaves each station once in the list (R84). -/
theorem StationsOnce.hearBid {l : List HeardBid} (h : StationsOnce l) (take : Bool) (r : BidRank) :
    StationsOnce (hearBid take r l) := by
  unfold Sys2Proof.Machine.hearBid
  dsimp only
  split
  · split
    · exact h
    · refine (h.sublist List.filter_sublist).insertBid fun a ha => ?_
      simpa using (List.mem_filter.mp ha).2
  · rename_i hn
    split
    · rename_i m hm
      have hs := placeForBid_sublist hm
      refine (h.sublist hs).insertBid fun a ha => ?_
      simpa using List.find?_eq_none.mp hn a (hs.subset ha)
    · exact h

/-- A heard WITHDRAW or RELEASE leaves each station once in the list (R84, R90). -/
theorem StationsOnce.withdrawBid {l : List HeardBid} (h : StationsOnce l) (station : Station) :
    StationsOnce (withdrawBid station l) := by
  unfold Sys2Proof.Machine.withdrawBid
  split
  · rename_i b hb
    have hs : b.rank.station = station := by
      have := List.find?_some hb
      simp only [Bool.and_eq_true, decide_eq_true_eq] at this
      exact this.1
    unfold StationsOnce
    rw [List.map_append, List.nodup_append]
    refine ⟨h.sublist List.filter_sublist, by simp, ?_⟩
    intro x hx y hy
    obtain ⟨a, ha, rfl⟩ := List.mem_map.mp hx
    have hne : a.rank.station ≠ station := by simpa using (List.mem_filter.mp ha).2
    simp only [List.map_cons, List.map_nil, List.mem_singleton] at hy
    rw [hy]
    simpa [hs] using hne
  · exact h

end Sys2Proof.Machine
end

