-- ==== Sys2Proof/Laws/Receive.lean ====
section
/-! SUPPORT. What hearing a frame comes to: the header at the NBT, and the payload at its owner. -/

namespace Sys2Proof.Machine

open Sys2Proof

theorem dropNeighbour_nbtOnly (n : Station) (s : State) :
    dropNeighbour n s = { s with nbt := { s.nbt with
      neighbours := s.nbt.neighbours.filter (·.station ≠ n)
      homeLevel := if n = s.stc.config.home then false else s.nbt.homeLevel } } := by
  unfold dropNeighbour loseHome
  dsimp only
  split <;> rfl

theorem roomForNeighbour_nbtOnly (s : State) :
    roomForNeighbour s = { s with nbt := { s.nbt with
      neighbours := (roomForNeighbour s).nbt.neighbours
      homeLevel := (roomForNeighbour s).nbt.homeLevel } } := by
  unfold roomForNeighbour
  split
  · rfl
  · split
    · rw [dropNeighbour_nbtOnly]
    · rfl

theorem refreshNeighbour_nbtOnly (h : Header) (s : State) :
    refreshNeighbour h s = { s with nbt := { s.nbt with
      neighbours := (refreshNeighbour h s).nbt.neighbours
      homeLevel := (refreshNeighbour h s).nbt.homeLevel } } := by
  unfold refreshNeighbour
  split
  · rfl
  · dsimp only
    rw [roomForNeighbour_nbtOnly]

/-- The entry that a header leaves for its source (R68). -/
theorem refreshNeighbour_mem (h : Header) (s : State) :
    { station := h.source, duty := h.duty, emergency := h.emergency, position := headerPosition h,
      lastHeard := s.nbt.ticks,
      framesHeard := match s.neighbour h.source with
        | some old => if h.cause = 0 then satAdd 255 old.framesHeard 1 else 1
        | none => 1 } ∈ (refreshNeighbour h s).nbt.neighbours := by
  unfold refreshNeighbour
  split
  · rename_i old hold
    have hm := List.mem_of_find?_eq_some hold
    have hs : old.station = h.source := by
      have := List.find?_some hold
      simpa using this
    dsimp only
    refine mem_updateWhere.mpr ⟨old, hm, ?_⟩
    have here : decide (old.station = h.source) = true := by simp [hs]
    rw [if_pos here]
    simp [Neighbour.refreshed, hs, hold]
  · rename_i hnone
    dsimp only
    refine List.mem_append_right _ ?_
    have : (roomForNeighbour s).nbt.ticks = s.nbt.ticks := by rw [roomForNeighbour_nbtOnly]
    simp [newNeighbour, this, hnone]

/-- A header at the NBT: the table and the level of home, and what a report test asks for where the source
is home dispatch (R68, R72, R73). -/
theorem hearHeader_asked (h : Header) (s : State) :
    ∃ neighbours level,
      Asked { s with nbt := { s.nbt with neighbours := neighbours, homeLevel := level } }
        (hearHeader h s) ∧
      neighbours = (refreshNeighbour h s).nbt.neighbours ∧ (h.source = s.stc.config.home → level = true) ∧
      (h.source ≠ s.stc.config.home →
        hearHeader h s =
          { s with nbt := { s.nbt with neighbours := neighbours, homeLevel := level } }) := by
  have hr := refreshNeighbour_nbtOnly h s
  by_cases hh : h.source = s.stc.config.home
  · refine ⟨(refreshNeighbour h s).nbt.neighbours, true, ?_, rfl, fun _ => rfl, fun hn => absurd hh hn⟩
    unfold hearHeader hearHome
    dsimp only
    rw [if_pos hh]
    have : { refreshNeighbour h s with nbt := { (refreshNeighbour h s).nbt with homeLevel := true } } =
        { s with nbt := { s.nbt with
          neighbours := (refreshNeighbour h s).nbt.neighbours, homeLevel := true } } := by
      rw [hr]
    rw [this]
    split
    · exact homeHeard_asked _
    · exact (reportTest_asked _).trans (homeHeard_asked _)
  · have he : hearHeader h s = refreshNeighbour h s := by
      unfold hearHeader
      dsimp only
      rw [if_neg hh]
    refine ⟨_, _, ?_, rfl, fun hn => absurd hn hh, fun _ => he.trans hr⟩
    rw [he, ← hr]
    exact Asked.refl _

/-- The state in which the payload of a heard frame meets its owner. -/
def headerTaken (f : AirFrame) (s : State) : State := hearHeader f.header (countGood (resumeReceive s))

/-- A frame that is not the one gathered changes nothing (R29). -/
theorem receiveFrame_same {kind : Nat} {f : AirFrame} {s : State} (h : gathers kind f s = false) :
    receiveFrame kind f s = .next s := by
  simp [receiveFrame, h]

/-- A heard frame. -/
theorem receiveFrame_heard {k : FrameKind} {f : AirFrame} {s : State} (h : Heard (kindCode k) f s) :
    exec (frameCommand k f) s = .next (finish (routeKind (some k) f (headerTaken f s))) := by
  obtain ⟨h1, h2, h3, h4, h5, h6⟩ := h
  have hx : exec (frameCommand k f) s = receiveFrame (kindCode k) f s := by cases k <;> rfl
  have hfo : foreignFrame f (resumeReceive s) = false := by
    simp [foreignFrame, resumeReceive, h3, h4]
  have hown : (countGood (resumeReceive s)).own = s.own := rfl
  have hk : kindOfCode (kindCode k) = some k := by cases k <;> rfl
  rw [hx]
  unfold receiveFrame takeFrame validFrame headerTaken
  simp [h1, hk, hfo, hown, h2, h5, h6]

/-- A state whose receive path has taken a frame: the engine hunts, the frame is counted as good, activity
is signalled, and the neighbour table and home's level are as the header left them. -/
def framed (neighbours : List Neighbour) (level : Bool) (s : State) : State :=
  { s with
    fre := { s.fre with
      rx := .hunt, window := 0, gathering := none
      counters := { s.fre.counters with good := wrapInc 9999 s.fre.counters.good } }
    cns := { s.cns with stretchSince := some s.now }
    nbt := { s.nbt with neighbours := neighbours, homeLevel := level } }

/-- What the receive path leaves for the owner of the payload. -/
theorem headerTaken_asked (f : AirFrame) (s : State) :
    ∃ neighbours level,
      Asked (framed neighbours level s) (headerTaken f s) ∧
      (f.header.source = s.stc.config.home → level = true) ∧
      (f.header.source ≠ s.stc.config.home → headerTaken f s = framed neighbours level s) := by
  obtain ⟨n, l, h1, _, h3, h4⟩ := hearHeader_asked f.header (countGood (resumeReceive s))
  exact ⟨n, l, h1, h3, h4⟩

/-- A frame whose payload reaches its owner: the owner's act, then, where the frame asks for it, a key and a
pending ACK. -/
theorem routeKind_delivered {k : FrameKind} {f : AirFrame} {s : State} (h : Delivered k f s) :
    ∃ dups ack,
      routeKind (some k) f (headerTaken f s) =
        { deliver k f (headerTaken f s) with
          nbt := { (deliver k f (headerTaken f s)).nbt with dups := dups }
          fre := { (deliver k f (headerTaken f s)).fre with pendingAck := ack } } := by
  obtain ⟨_, hw, hs, hd⟩ := h
  obtain ⟨n, l, ha, _, _⟩ := headerTaken_asked f s
  have hown : (headerTaken f s).own = s.own := by unfold State.own; rw [ha.stc]; rfl
  have hdups : (headerTaken f s).nbt.dups = s.nbt.dups := by rw [ha.nbt]; rfl
  have hmst : ∀ p, mstAnswer f.header.source p (headerTaken f s) = mstAnswer f.header.source p s := by
    intro p
    unfold mstAnswer
    rw [ha.hasPlace, ha.msgNamed_isSome]
    rfl
  have hask : asksAck k f.header (headerTaken f s) = asksAck k f.header s := by
    unfold asksAck; rw [hown]
  have hkey : hasKey (frameKey k f.header) (headerTaken f s) = hasKey (frameKey k f.header) s := by
    unfold hasKey; rw [hdups]
  have htake : ownerTakes k f (headerTaken f s) = ownerTakes k f s := by
    unfold ownerTakes
    split
    · exact hmst _
    · rfl
  have hroute : routeKind (some k) f (headerTaken f s) = route k f (headerTaken f s) := by
    simp [routeKind, hw, hs]
  rw [hroute]
  unfold route
  split
  · exact ⟨_, _, rfl⟩
  · rename_i hal
    have hd' := hd.resolve_left hal
    rw [hask]
    split
    · rename_i hak
      obtain ⟨hk, ht⟩ := hd'.2 hak
      unfold acknowledge
      dsimp only
      rw [hkey, htake, hk, ht]
      simp only [Bool.false_eq_true, if_false, if_true]
      unfold enterKey
      split
      · exact ⟨_, _, rfl⟩
      · exact ⟨_, _, rfl⟩
    · rw [if_pos (by rw [hown]; simpa using hd'.1)]
      exact ⟨_, _, rfl⟩

end Sys2Proof.Machine
end

