-- ==== Sys2Proof/Laws/Words.lean ====
section
/-! SUPPORT. What the words of the statements come to in the operations of the model. -/

namespace Sys2Proof.Machine

open Sys2Proof

/-- An item of the image is copied as the word `copied` says. -/
theorem itemIn_eq_copied (x : Item) (lo hi default : Nat) (h : lo ≤ hi) :
    itemIn lo hi default x = copied x lo hi default := by
  unfold itemIn copied clamp
  split
  · rfl
  · split <;> [skip; split] <;> omega

/-- An item that the check finds present is clamped as the word `copied` says. -/
theorem clamp_eq_copied (x : Item) (lo hi default : Nat) (h : lo ≤ hi) (present : x.absent = false) :
    clamp lo hi x.value = copied x lo hi default := by
  rw [← itemIn_eq_copied x lo hi default h, itemIn, present]; rfl

/-- The test of a first copy is R77's. -/
theorem mayRelay_iff (k : RelayKey) (hop : Nat) (s : State) : mayRelay k hop s = true ↔ MayRelay k hop s := by
  have h : serialNewer k s = true ↔
      ∀ a l, s.alarmEntry k.origin = some a → a.lastRelayed = some l →
        1 ≤ (k.serial - l).toNat ∧ (k.serial - l).toNat ≤ 127 := by
    unfold serialNewer newerSerial
    cases s.alarmEntry k.origin with
    | none => simp
    | some a =>
      cases e : a.lastRelayed with
      | none => exact ⟨fun _ b l hb hl => (by cases hb; rw [e] at hl; cases hl), fun _ => by simp only [e]⟩
      | some l =>
        simp only [e, Bool.and_eq_true, decide_eq_true_eq]
        exact ⟨fun hs b m hb hm => (by cases hb; rw [e] at hm; cases hm; exact hs), fun hs => hs a l rfl e⟩
  unfold mayRelay MayRelay
  rw [Bool.and_eq_true, Bool.and_eq_true, Bool.and_eq_true, Bool.and_eq_true, h, Bool.not_eq_true',
    decide_eq_true_eq, decide_eq_true_eq, and_assoc, and_assoc, and_assoc]
  rfl

/-- The delay of a record is counted from the distance of the copy's own header, once it has been heard. -/
theorem relayDelay_eq (h : Header) (s : State) (n : Neighbour)
    (entry : s.neighbour h.source = some n) (position : n.position = headerPosition h) :
    relayDelay h.source s = 8 - min 7 (heardDistance h s / 50) := by
  unfold relayDelay heardDistance State.position
  rw [entry, Option.bind_some, position, headerPosition]
  cases s.dtc.fixValid <;> cases h.fixValid <;> rfl

@[simp] theorem HireRecord.charged_current (second : Bool) (h : HireRecord) :
    (h.charged second).current = chargeSegment second h := rfl

theorem chargeSegment_distance (second : Bool) (h : HireRecord)
    (mode : timeMode h.current.rates h.metres = false) :
    chargeSegment second h = addMetres h.metresAdded h.current := by simp [chargeSegment, mode]

theorem chargeSegment_time (second : Bool) (h : HireRecord) (mode : timeMode h.current.rates h.metres = true) :
    chargeSegment second h = if second && h.waiting < waitingCap then addSecond h.current else h.current := by
  simp [chargeSegment, mode]

end Sys2Proof.Machine
end

