-- ==== Sys2Proof/Tests/Slice0.lean ====
section
/-! SUPPORT. Tests on small states: ill-formed commands are refused, single commands do what the rules
say, and the hypotheses of every statement are met together by a state. -/

namespace Sys2Proof.Machine

open Sys2Proof

-- The kernel's checks run one after another: side by side they ask for more threads than there is room for.
set_option Elab.async false
-- Long conjunctions need room to be decided.
set_option synthInstance.maxSize 2000
set_option synthInstance.maxHeartbeats 200000

/-! ## Small states -/

/-- The state that a command leaves. -/
def after (c : Instr) (s : State) : State :=
  match exec c s with
  | .next t => t
  | .fault _ => s
  | .refused _ => s

def testItem (n : Nat) : Item := ⟨false, n⟩
def absentItem : Item := ⟨true, 0⟩

/-- A tariff set of version 3: two tariffs, two bands, four extras. -/
def testSet : List Byte :=
  [0, 3, 1, 1, 94, 3, 232, 0, 200, 0, 40, 0, 60, 0, 30, 0, 25, 1, 1, 144, 0, 0, 0, 100, 0, 30, 0, 0, 0, 20, 0,
    25] ++
  [0, 0, 0, 0, 0, 0, 10, 0, 0, 0, 0, 0, 1, 0, 0, 0, 0, 0, 0, 0, 0, 10, 0, 0, 0, 0, 0, 1, 0, 0] ++
  [1, 104, 1, 4, 176, 2, 0, 0, 0, 0, 0, 0, 0, 0, 0, 0, 0, 0] ++
  [0, 50, 3, 0, 75, 1, 0, 0, 1, 0, 0, 1]

def testImage : Image :=
  { crcMatches := true, setBytes := testSet, setCrc := 0x90F2#16, ownStation := testItem 1187,
    fleet := testItem 20510, home := testItem 3902, pulsesPerKm := testItem 4000,
    rounding := testItem 10, cancelCode := testItem 4711, duressCode := testItem 1920,
    tBeacon := absentItem, tNbAge := absentItem, tReach := absentItem, tAccept := absentItem,
    tConfirm := absentItem, wv := absentItem, mmax := absentItem, tHoldMs := absentItem,
    relayEnable := absentItem, senseLevel := absentItem, dayLevel := absentItem,
    nightLevel := absentItem, nightStart := absentItem, nightEnd := absentItem, dimming := absentItem,
    keyClick := absentItem, roofAlarm := absentItem,
    phrases := some (codes "YES") :: List.replicate 8 none }

def startOf (e : StartEvent) (image : Image) (good : Bool) : StartInput :=
  { event := e, strap := false, senseMv := 1200, image := image, retainedGood := good }

/-- A 4120 on the road: running in RUN and VACANT, with a position, a time and a tariff set. -/
def ready : State :=
  { State.reset with
    lines := { Lines.reset with ignOn := true, resetAsserted := false }
    stc := { Stc.reset with
      phase := .running, pendingCause := none, config := acceptedConfig testImage, fault := false,
      retStation := 1187, retFleet := 20510, powerLost := false, starts := 1 }
    dtc := { Dtc.reset with
      duty := .vacant, vacantSeconds := 120, pos := ⟨1200, 3400⟩, fixValid := true, timeOfDay := 51120,
      timeValid := true }
    fre := { Fre.reset with rx := .hunt }
    tlu := { Tlu.reset with active := some (decodeImageSet testSet), nextRecord := 1 }
    mst := { Mst.reset with phrases := codes "YES" :: List.replicate 8 [] }
    cns := { Cns.reset with scanner := .free, shown := none }
    now := 60000, tickAt := 60000, slotAt := 60000 }

def inDuty (d : DutyState) (s : State) : State := { s with dtc := { s.dtc with duty := d } }
def inPark (s : State) : State := { s with stc := { s.stc with power := .park } }
def inFault (s : State) : State := { s with stc := { s.stc with fault := true } }
def inEmergency (e : EmuState) (s : State) : State :=
  { s with emu := { s.emu with state := e }, cau := { s.cau with mask := if e = .idle then 4 else 1 } }
def inLampTest (s : State) : State := { s with stc := { s.stc with phase := .lampTest } }
def inLoopback (s : State) : State := { s with stc := { s.stc with loopback := true } }
def heldByReset (s : State) : State :=
  { s with stc := { s.stc with phase := .halted }, lines := { s.lines with resetAsserted := true } }
def quiet (s : State) : State := { s with lines := { s.lines with quiet := true } }
def buttonDown (s : State) : State := { s with lines := { s.lines with alarmPressed := true } }

/-- A key that settles, just pressed. -/
def pressing (k : Key) (s : State) : State :=
  { s with cns := { s.cns with scanner := .settling k s.now, contacts := [k] } }

def withView (v : DriverView) (s : State) : State := { s with cns := { s.cns with view := v } }
def withPending (p : KeyPrefix) (s : State) : State := { s with cns := { s.cns with keyPrefix := some p } }

def testRates : Rates := { f := 350, d0 := 1000, ud := 200, cd := 40, t0 := 60, ut := 30, ct := 25 }

/-- A hire at its opening. -/
def testHire : HireRecord :=
  { state := .opened, startTime := some 51000, endTime := none, offerId := none, closed := [],
    current := openSegment 1 testRates true, extras := [],
    extrasTable := [⟨50, 3⟩, ⟨75, 1⟩, ⟨0, 1⟩, ⟨0, 1⟩], pulsesPerKm := 4000, mmax := 70, rounding := 10,
    intervalMetres := 0, residue := 0, totalMetres := 0, flags := ⟨false, false, false, false⟩,
    fare := 350, payable := none }

def hired : State :=
  { inDuty .hired ready with fmr := { hire := some testHire, intervalSince := some 60000, atInterval := some testHire } }
def paying : State :=
  { inDuty .paying ready with
    fmr := { hire := some { testHire with payable := some 350 }, intervalSince := none,
             atInterval := some testHire } }

def testId : OfferId := ⟨3902, 77⟩

/-- An offer entry with an own score of 640 and a window of 3 s. -/
def testOffer (st : OfferState) : OfferEntry :=
  { id := testId, arrival := 60000, pickup := ⟨1240, 3440⟩, radius := 0, text := codes "RAIL",
    windowEnd := 63000, state := st, ownScore := some 632, ownVacant := some 2, delayDeadline := none,
    bidFrame := .none, jobTimer := none, heard := [], windowTaken := false }

def withOffer (e : OfferEntry) (s : State) : State := { s with ocu := { offers := [e] } }

def testJob : JobRecord := jobOf (testOffer .taken) (some 51000)

/-- A won offer in PENDING. -/
def pendingWon : State :=
  withOffer { testOffer .won with jobTimer := some 72000, windowTaken := true } (inDuty .pending ready)

/-- An accepted job in ASSIGNED, its CONFIRM awaited. -/
def assigned : State :=
  { withOffer { testOffer .taken with jobTimer := some 66000, windowTaken := true } (inDuty .assigned ready)
    with dtc := { ready.dtc with duty := .assigned, job := some testJob } }

/-- A frame of a station to a destination with the fleet's code. -/
def frameOf (source dest : Station) (payload : List Byte) : AirFrame :=
  { header := { fleet := 20510, hop := 0, ackReq := false, source := source, dest := dest, seq := 5,
                duty := 1, emergency := false, fixValid := false, cause := 0, position := ⟨0, 0⟩ },
    payload := payload }
def ackAsked (f : AirFrame) : AirFrame := { f with header := { f.header with ackReq := true } }
def withHop (n : Nat) (f : AirFrame) : AirFrame := { f with header := { f.header with hop := n } }

def offerBytes (radius : Nat) : List Byte :=
  [77] ++ be16 1240 ++ be16 3440 ++ be16 radius ++ [30, 4] ++ codes "RAIL"
def bidOf (score : Nat) : BidPayload := { id := testId, score := score, vacant := 3 }
def msgPart (index count : Nat) : MsgPayload :=
  { number := 57, index := index, count := count, pin := false, replyWanted := true, isReply := false,
    validity := 30, replyTo := 0, phrase := 0, text := codes "TEXT" }
def alarmOf (origin : Station) (serial : Serial) : AlarmPayload :=
  { origin := origin, serial := serial, duress := false, seen := false, fixValid := true, duty := 4,
    elapsed := 0, position := ⟨1000, 3000⟩, job := none }

/-- The frame stands in BODY, gathered but for its last CRC byte. -/
def inBodyOf (kind : Nat) (f : AirFrame) (s : State) : State :=
  { s with fre := { s.fre with rx := .body, gathering := some (⟨kind, f.header⟩, f.payload.length) } }
def inBody (k : FrameKind) (f : AirFrame) (s : State) : State := inBodyOf (kindCode k) f s

/-- The state that a gathered frame of a kind leaves. -/
def heard (k : FrameKind) (f : AirFrame) (s : State) : State := after (frameCommand k f) (inBody k f s)

/-- A queue entry of a request. -/
def queued (q : Request) : QueueEntry :=
  { number := 0, req := q, enqueued := 60000, retries := 0, backoff := none, seq := none }
def beaconEntry : QueueEntry := queued ⟨.beacon, 0, 4, false, 0, .beacon⟩
def replyEntry : QueueEntry := { queued ⟨.msg, 3902, 2, true, 0, .reply 0⟩ with seq := some 9 }
def clearEntry : QueueEntry := queued ⟨.alarmClear, 0, 0, false, 0, .ownAlarm⟩

def withQueue (e : QueueEntry) (s : State) : State :=
  { s with cau := { s.cau with queue := [e], nextEntry := 1 } }
def inAccess (p : AccessPhase) (s : State) : State :=
  { s with cau := { s.cau with access := ⟨p, some 0, 60000⟩ } }
def inServiceOf (e : QueueEntry) (p : ServicePhase) (s : State) : State :=
  { withQueue e s with
    cau := { (withQueue e s).cau with inService := some ⟨0, p, 60000, none, false⟩ } }

/-- A complete message of home dispatch in the store. -/
def testMsg : MsgEntry :=
  { entry := 0, name := .message 3902 57, kind := .direct, state := .unread, pin := false,
    replyWanted := true, count := 1, segments := [(1, codes "TEXT")], assemblyAge := 0, listAge := 0,
    validityMinutes := 0, validityLeft := none, expired := false, reply := none }
def withMsg (e : MsgEntry) (s : State) : State :=
  { s with mst := { s.mst with entries := [e], nextMsg := 1 } }
/-- Two messages in the LIST view, the older one selected. -/
def listing : State :=
  { ready with
    mst := { ready.mst with entries := [{ testMsg with entry := 1, name := .message 3902 58 }, testMsg], nextMsg := 2 }
    cns := { ready.cns with
      view := .list, shown := some .list, pointers := { Pointers.zero with list := 1 }, selection := some 0 } }
def opened (s : State) : State := { s with mst := { s.mst with openEntry := some 0 } }

def testAlarm : AlarmEntry :=
  { origin := 5, lastSerial := 9, lastRelayed := none, seen := false, lastHeard := 60000 }
def withAlarm (s : State) : State := { s with emu := { s.emu with alarms := [testAlarm] } }
def testRelay (st : RelayState) : Relay :=
  { key := ⟨5, .alarm, 9⟩, heardHop := 0, payload := encodeAlarm (alarmOf 5 9), slotsLeft := 0, state := st }
def withRelay (st : RelayState) (s : State) : State :=
  { s with nbt := { s.nbt with relays := [testRelay st] } }

def activeCall : State :=
  { inEmergency .active ready with
    emu := { Emu.reset with state := .active, ownSerial := 1, firstSerial := some 1,
                            schedule := some ⟨.fast 5, 30000, 65000⟩ } }

/-- A full log: every record unreported. -/
def withLog (n : Nat) (s : State) : State :=
  let record := fun k => ({ number := k, body := .shift ⟨none, none, ShiftTotals.zero, Counters.reset, 0⟩,
                            state := .unsent } : LogRecord)
  { s with tlu := { s.tlu with log := (List.range n).map record, nextRecord := n } }

/-! ## Ill-formed commands are refused -/

theorem test_wf_accepts :
    (Instr.start (startOf .resetReleased testImage true)).wf = true ∧
    (Instr.offer (frameOf 4095 0 (List.replicate 64 0))).wf = true ∧ (Instr.badLength 65).wf = true ∧
    (Instr.badLength 255).wf = true ∧ (Instr.headerComplete ⟨15, (frameOf 1 0 []).header⟩ 64).wf = true ∧
    (Instr.bidDelayEnd ⟨3840, 0⟩).wf = true ∧ (Instr.alarmListExpiry 3839).wf = true := by decide +kernel

theorem test_wf_refuses_image :
    (Instr.start (startOf .resetReleased { testImage with setBytes := [] } true)).wf = false ∧
    (Instr.start (startOf .resetReleased { testImage with phrases := [] } true)).wf = false := by
  decide +kernel

theorem test_wf_refuses_position :
    (Instr.navRecord ⟨true, true, true, 0, ⟨65536, 0⟩, .fix⟩).wf = false ∧
    (Instr.navRecord ⟨true, true, true, 0, ⟨0, 65536⟩, .fix⟩).wf = false := by decide

theorem test_wf_refuses_header :
    let h := (frameOf 1187 0 []).header
    let refused := fun h : Header => (Instr.beacon ⟨h, []⟩).wf = false
    refused { h with fleet := 0 } ∧ refused { h with fleet := 65536 } ∧ refused { h with hop := 4 } ∧
    refused { h with source := 4096 } ∧ refused { h with dest := 4096 } ∧ refused { h with duty := 8 } ∧
    refused { h with cause := 4 } ∧ refused { h with position := ⟨65536, 0⟩ } := by decide

theorem test_wf_refuses_payload :
    (Instr.msg (frameOf 3902 0 (List.replicate 65 0))).wf = false := by decide +kernel

theorem test_wf_refuses_kind :
    (Instr.unassignedKind 13 (frameOf 5 0 [])).wf = false ∧
    (Instr.headerComplete ⟨16, (frameOf 5 0 []).header⟩ 0).wf = false ∧
    (Instr.headerComplete ⟨0, { (frameOf 5 0 []).header with hop := 4 }⟩ 0).wf = false := by decide

theorem test_wf_refuses_length :
    (Instr.badLength 64).wf = false ∧ (Instr.badLength 256).wf = false ∧
    (Instr.headerComplete ⟨0, (frameOf 5 0 []).header⟩ 65).wf = false := by decide

theorem test_wf_refuses_station :
    (Instr.relayDelayEnd ⟨4096, .alarm, 0⟩).wf = false ∧ (Instr.neighbourAgeOut 4096).wf = false ∧
    (Instr.duplicateKeyAgeOut ⟨4096, .alarm, 0⟩).wf = false ∧
    (Instr.alarmListExpiry 0).wf = false ∧ (Instr.alarmListExpiry 3840).wf = false := by decide

theorem test_wf_refuses_dispatch :
    (Instr.bidDelayEnd ⟨3839, 0⟩).wf = false ∧ (Instr.windowEnd ⟨4096, 0⟩).wf = false ∧
    (Instr.offerHoldExpiry ⟨0, 0⟩).wf = false ∧ (Instr.assemblyTimeout 3839 0).wf = false ∧
    (Instr.validityExpiry 4096 0).wf = false := by decide

theorem test_wf_refuses_steady_lamp : (Instr.blinkPhaseEnd .roofVacant).wf = false := by decide

/-! ## Words and sums -/

theorem test_crc_of_digits : crc16 (codes "123456789") = 0x29B1#16 := by decide +kernel

/-- A BEACON of station 1187 to all, in the bytes of section 2.7.1. -/
theorem test_header_bytes :
    encodeHeader 0 (frameOf 1187 0 []).header 0 =
      [0x50, 0x1E, 0x00, 0x4A, 0x30, 0x00, 0x05, 0x20, 0, 0, 0, 0, 0] := by decide +kernel

/-- A frame on TXD: preamble, sync word, and the fleet code from its most significant bit. -/
theorem test_air_bits :
    (airBits 0 (frameOf 1187 0 [])).length = airtimeBits 0 ∧
    (airBits 0 (frameOf 1187 0 [])).take 64 =
      [0xAA, 0xAA, 0xAA, 0xAA, 0xB3, 0x4E, 0x50, 0x1E].flatMap byteBits ∧
    byteBits 0xB3 = [true, false, true, true, false, false, true, true] := by decide +kernel

theorem test_airtime : airtimeBits 0 = 168 ∧ airtimeBits 64 = 680 ∧ airtimeMs 0 = 18 := by decide +kernel

theorem test_rank :
    better ⟨10, 0, 7⟩ ⟨11, 9, 5⟩ = true ∧ better ⟨10, 3, 7⟩ ⟨10, 2, 5⟩ = true ∧
    better ⟨10, 2, 5⟩ ⟨10, 2, 7⟩ = true ∧ better ⟨10, 2, 7⟩ ⟨10, 2, 7⟩ = false := by decide

theorem test_payable :
    payableOf 10 1234 = 1230 ∧ payableOf 10 1235 = 1240 ∧ payableOf 5 1232 = 1230 ∧
    payableOf 1 999999 = 999999 ∧ payableOf 10 999999 = 999990 := by decide +kernel

theorem test_image_set :
    (decodeImageSet testSet).version = 3 ∧
    firstTariff (decodeImageSet testSet) (some 359) = 2 ∧
    firstTariff (decodeImageSet testSet) (some 360) = 1 ∧
    firstTariff (decodeImageSet testSet) (some 1200) = 2 := by decide +kernel

/-! ## One command on a small state -/

/-- The in-service notice (R50, R81, R92, R155). -/
theorem test_in_service_notice :
    let ends := fun (q : Request) (s : State) =>
      after .backoffSlotEnd (inAccess .backoff (withQueue { queued q with backoff := some 1 } s))
    let bid := ends ⟨.bid, 0, 1, false, 0, .offer testId⟩ (withOffer (testOffer .passed) ready)
    let relay := ends ⟨.alarm, 0, 0, false, 1, .relay 5 9⟩ (withRelay .queued (withAlarm ready))
    bid.ocu.offers.map (·.bidFrame) = [.sent] ∧ bid.cau.queue.map (·.req.kind) = [.bid, .withdraw] ∧
    relay.nbt.relays.map (·.state) = [.onAir] ∧ relay.emu.alarms.map (·.lastRelayed) = [some 9] ∧
    (ends replyEntry.req (withMsg { testMsg with reply := some ⟨1, 9, .queued⟩ } ready)).mst.entries.map
      (·.reply.map (·.state)) = [some .sent] := by decide +kernel

/-- An own ALARM_CLEAR replaces the ALARM that waits, in its place (R46). -/
theorem test_own_alarm_replaced :
    let own := queued ⟨.alarm, 0, 0, false, 0, .ownAlarm⟩
    let s := { withQueue own ready with emu := { Emu.reset with state := .clearing, clearDue := some 65000 } }
    (after .clearDue s).cau.queue = [{ own with req := { own.req with kind := .alarmClear } }] := by
  decide +kernel

set_option maxRecDepth 100000 in
theorem test_start_from_reset :
    let t := after (.start (startOf .resetReleased testImage false)) State.reset
    t.stc.phase = .lampTest ∧ t.stc.fault = false ∧ t.dtc.duty = .offShift ∧ t.cau.mask = 4 ∧
    t.stc.config.tHoldMs = 2000 := by decide +kernel

set_option maxRecDepth 100000 in
/-- Items are copied as read, clamped to the nearer limit, or given their defaults (R195). -/
theorem test_image_copy :
    let copy := fun i : Image => (after (.start (startOf .resetReleased i false)) State.reset).stc.config
    let c := copy { testImage with
      tBeacon := testItem 60, tNbAge := testItem 29, mmax := testItem 101, rounding := testItem 3,
      duressCode := testItem 4711, relayEnable := testItem 0 }
    c.tBeacon = 60 ∧ c.tNbAge = 30 ∧ c.mmax = 100 ∧ c.rounding = 5 ∧ c.duressCode = none ∧
    c.relayEnable = false ∧ c.tReach = 180 ∧ c.home = 3902 := by decide +kernel

theorem test_lamp_test_end :
    let t := after .lampTestEnd (inLampTest ready)
    t.stc.phase = .running ∧ t.now = 60000 ∧ t.fre.rx = .hunt := by decide +kernel

theorem test_start_with_bad_image_faults :
    (after (.start (startOf .resetReleased { testImage with crcMatches := false } false))
      State.reset).stc.fault = true := by decide +kernel

theorem test_second_tick :
    let t := after .oneSecondTick ready
    t.dtc.vacantSeconds = 121 ∧ t.dtc.timeOfDay = 51121 ∧ t.dtc.posAge = 1 ∧ t.now = 61000 := by
  decide +kernel

theorem test_position_stale :
    (after .positionStale { ready with dtc := { ready.dtc with posAge := 10 } }).position = none := by
  decide +kernel

theorem test_nav_record :
    (after (.navRecord ⟨true, true, true, 86399, ⟨7, 8⟩, .fix⟩) ready).position = some ⟨7, 8⟩ ∧
    (after (.navRecord ⟨true, true, true, 86400, ⟨7, 8⟩, .fix⟩) ready).dtc = ready.dtc := by decide +kernel

theorem test_contact_release_wait :
    let s := after (.keyContact .read) ready
    let t := after (.keyRelease .read) (after .read s)
    s.cns.scanner = .settling .read 60000 ∧ after .read t = t ∧ t.cns.releaseSince = some 60020 ∧
    (after .keyReleaseWaitEnd t).cns.scanner = .free := by decide +kernel

theorem test_two_contacts_lock :
    (after (.keyContact .up) (after (.keyContact .read) ready)).cns.scanner = .locked := by decide +kernel

theorem test_key_repeat :
    let s := { ready with cns := { ready.cns with scanner := .held .down true 60500, contacts := [.down] } }
    (after .keyRepeat s).cns.scanner = .held .down true 60650 := by decide +kernel

theorem test_wake_timer :
    (after .wakeTimerExpiry
      { inPark ready with cns := { ready.cns with wakeSince := some 60000 } }).cns.wakeSince = none := by
  decide +kernel

theorem test_shift_key :
    (after .shift (pressing .shift (inDuty .offShift ready))).dtc.duty = .vacant ∧
    (after .shift (pressing .shift ready)).dtc.duty = .offShift ∧
    (after .shift (pressing .shift hired)).dtc.duty = .hired := by decide +kernel

theorem test_hire_key :
    let t := after .hire (pressing .hire ready)
    t.dtc.duty = .hired ∧ t.fmr.hire.map (·.fare) = some 350 ∧ t.fmr.intervalSince = some 60020 := by
  decide +kernel

theorem test_pay_key : (after .pay (pressing .pay hired)).fmr.hire.map (·.payable) = some (some 350) := by
  decide +kernel

theorem test_vacant_key :
    let t := after .vacant (pressing .vacant paying)
    t.dtc.duty = .vacant ∧ t.fmr.hire = none ∧ t.tlu.totals.payableSum = 350 ∧ t.tlu.log.length = 1 := by
  decide +kernel

theorem test_break_key : (after .onBreak (pressing .onBreak ready)).dtc.duty = .onBreak := by decide +kernel

theorem test_accept_key :
    let t := after .accept (pressing .accept pendingWon)
    t.dtc.duty = .assigned ∧ t.dtc.job.map (·.id) = some testId ∧
    t.cau.queue.map (·.req.kind) = [.take] := by decide +kernel

theorem test_decline_key :
    let t := after .decline (pressing .decline pendingWon)
    t.dtc.duty = .vacant ∧ t.cau.queue.map (·.req.kind) = [.release] := by decide +kernel

theorem test_extra_key :
    let s := after .extra (pressing .extra paying)
    let t := after (.digit 2) (pressing (.digit 2) (withPending .extra paying))
    s.cns.keyPrefix = some .extra ∧ t.fmr.hire.map (·.fare) = some 425 ∧
    t.fmr.hire.map (·.payable) = some (some 430) := by decide +kernel

theorem test_tariff_key :
    let s := after .tariffKey (pressing .tariff hired)
    let t := after (.digit 2) (pressing (.digit 2) (withPending .tariff hired))
    s.cns.keyPrefix = some .tariff ∧ t.fmr.hire.map (·.segments.length) = some 2 := by decide +kernel

theorem test_view_keys :
    (after .read (pressing .read ready)).cns.view = .list ∧
    (after .read (pressing .read (withView .list (withMsg testMsg ready)))).mst.openEntry = some 0 ∧
    (after .clear (pressing .clear (withView .list ready))).cns.view = .none := by decide +kernel

theorem test_arrow_keys :
    let s := withView .list { withMsg testMsg ready with
      mst := { ready.mst with entries := [testMsg, { testMsg with entry := 1 }], nextMsg := 2 } }
    let shown := { s with cns := { s.cns with shown := some .list, selection := some 0 } }
    (after .down (pressing .down shown)).cns.pointers.list = 1 ∧
    (after .up (pressing .up shown)).cns.pointers.list = 0 := by decide +kernel

theorem test_reply_key :
    let s := withView .message (opened (withMsg testMsg ready))
    let t := after (.digit 1) (pressing (.digit 1) (withView .menu (opened (withMsg testMsg ready))))
    (after .reply (pressing .reply s)).cns.view = .menu ∧ t.cau.queue.map (·.req.kind) = [.msg] ∧
    t.cns.view = .message := by decide +kernel

/-- A start goes back to the last interval end; the pulses since then are lost (R124). -/
theorem test_start_in_a_hire :
    let s := after .odoPulse (after .intervalEnd (after .odoPulse hired))
    let t := after (.start (startOf .resetReleased testImage true)) (heldByReset s)
    s.fmr.hire.map (·.residue) = some 2000 ∧ t.fmr.hire.map (·.residue) = some 1000 ∧
    t.fmr.hire.map (·.current.at_) = some 1 ∧ t.fmr.hire.map (·.flags.powerGap) = some true := by
  decide +kernel

theorem test_pulse_and_interval :
    (after .odoPulse hired).fmr.hire.map (·.residue) = some 1000 ∧
    (after .intervalEnd hired).fmr.hire.map (·.current.at_) = some 1 ∧
    (after .intervalEnd hired).now = 61000 := by decide +kernel

theorem test_beacon_frame :
    let t := heard .beacon (frameOf 5 0 []) ready
    t.nbt.neighbours.map (·.station) = [5] ∧ t.fre.counters.good = 1 := by decide +kernel

theorem test_unused_frames :
    (heard .fare (frameOf 5 0 []) ready).nbt.neighbours.map (·.station) = [5] ∧
    (after (.unassignedKind 14 (frameOf 5 0 []))
      (inBodyOf 14 (frameOf 5 0 []) ready)).nbt.neighbours.map (·.station) = [5] ∧
    (heard .beacon ({ frameOf 5 0 [] with header := { (frameOf 5 0 []).header with fleet := 7 } })
      ready).fre.counters.foreign = 1 := by decide +kernel

/-- A header of home dispatch after tREACH asks for a report though no HOME_REACH_EXPIRY came (R72, R135). -/
theorem test_home_header_asks_for_a_report :
    let home : Neighbour := ⟨3902, 1, false, none, 0, 1⟩
    let s := withLog 1 { ready with nbt := { ready.nbt with ticks := 180, neighbours := [home], homeLevel := true } }
    let t := heard .beacon (frameOf 3902 0 []) s
    t.cau.queue.map (·.req.tag) = [.fareRecord 0] ∧ t.tlu.log.map (·.state) = [.inFlight] := by decide +kernel

theorem test_offer_frame :
    (heard .offer (frameOf 3902 0 (offerBytes 0)) ready).ocu.offers.map
        (fun e => (e.state, e.ownScore, e.delayDeadline)) = [(.waiting, some 632, some 60057)] ∧
    (heard .offer (frameOf 3902 0 (offerBytes 79)) ready).ocu.offers.map (·.state) = [.passed] ∧
    (heard .offer (frameOf 3902 0 (offerBytes 80)) ready).ocu.offers.map (·.state) = [.waiting] := by
  decide +kernel

theorem test_bid_and_withdraw_frames :
    let s := withOffer (testOffer .waiting) ready
    let t := heard .bid (frameOf 5 0 (encodeBid (bidOf 600))) s
    t.ocu.offers.map (·.state) = [.yielded] ∧
    (heard .withdraw (frameOf 5 0 (encodeOfferId testId)) t).ocu.offers.map (·.state) = [.waiting] := by
  decide +kernel

/-- A WITHDRAW of an absent station changes no list and moves nothing (R90, R94). -/
theorem test_withdraw_of_absent_station :
    (heard .withdraw (frameOf 5 0 (encodeOfferId testId))
      (withOffer (testOffer .yielded) ready)).ocu.offers = [testOffer .yielded] := by decide +kernel

theorem test_take_and_release_frames :
    let t := heard .take (frameOf 5 0 (encodeBid (bidOf 600))) pendingWon
    t.dtc.duty = .vacant ∧ t.ocu.offers.map (·.state) = [.lost] ∧
    (heard .release (frameOf 5 0 (encodeOfferId testId)) t).ocu.offers.map
      (fun e => e.heard.map (·.withdrawn)) = [[true]] := by decide +kernel

theorem test_confirm_frame :
    (heard .confirm (frameOf 3902 0 ([77] ++ be16 1187)) assigned).dtc.job.map (·.confirm) =
      some .confirmed ∧
    (heard .confirm (frameOf 3902 0 ([77] ++ be16 5)) assigned).dtc.duty = .vacant := by decide +kernel

theorem test_msg_frame :
    let t := heard .msg (frameOf 3902 0 (encodeMsg (msgPart 1 1))) ready
    t.mst.entries.map (fun e => (e.state, e.kind, e.validityLeft)) = [(.unread, .broadcast, some 1800)] ∧
    t.cns.buzzer = some (.message, 60000) := by decide +kernel

theorem test_ack_frame_and_wait :
    let s := inServiceOf replyEntry .ackWait ready
    (heard .ack (frameOf 3902 1187 (encodeAck ⟨7, 9⟩)) s).cau.queue = [] ∧
    (after .ackWaitExpiry s).cau.queue.map (·.retries) = [1] := by decide +kernel

theorem test_tariff_frame :
    let seg : List Byte := be16 4 ++ [0x12] ++ be16 0 ++ testSet.take 56
    let t := heard .tariff (frameOf 3902 0 seg) ready
    t.tlu.staging.map (·.version) = some 4 ∧
    (after .stagingDeadline t).tlu.staging = none ∧ (after .stagingDeadline t).now = 120000 := by
  decide +kernel

theorem test_alarm_frames :
    let t := heard .alarm (frameOf 5 0 (encodeAlarm (alarmOf 5 9))) ready
    t.emu.alarms.map (·.origin) = [5] ∧ t.nbt.relays.map (·.state) = [.delay] ∧
    (heard .alarmClear (frameOf 5 0 (encodeAlarm (alarmOf 5 10))) t).emu.alarms = [] ∧
    (heard .alarmSeen (frameOf 3902 5 [9]) t).nbt.relays = [] := by decide +kernel

/-- An ALARM_CLEAR is relayed like an ALARM, and a copy of a greater hop cancels its record (R77, R80). -/
theorem test_relayed_clear :
    let f := frameOf 5 0 (encodeAlarm (alarmOf 5 10))
    let t := heard .alarmClear f ready
    t.nbt.relays.map (·.key.kind) = [.clear] ∧
    (heard .alarmClear f t).nbt.relays = t.nbt.relays ∧
    (heard .alarmClear (withHop 1 f) t).nbt.relays = [] := by decide +kernel

theorem test_receive_errors :
    let header := after (.syncWordMatched 0xB34E#16) ready
    header.fre.rx = .header ∧ (after (.badLength 65) header).fre.counters.badCrc = 1 ∧
    (after .crcMismatch (inBody .beacon (frameOf 5 0 []) ready)).fre.counters.badCrc = 1 ∧
    after (.headerComplete ⟨9, (frameOf 5 0 []).header⟩ 0) header =
      finish (inBody .fare (frameOf 5 0 []) header) := by
  decide +kernel

/-- A frame ends from BODY alone, and it is the one gathered, of the kind its header gave (R29). -/
theorem test_frame_outside_body :
    let s := inBody .beacon (frameOf 5 0 []) ready
    after (.beacon (frameOf 5 0 [])) ready = ready ∧ after (.beacon (frameOf 6 0 [])) s = s ∧
    after (.fare (frameOf 5 0 [])) s = s ∧ after (.unassignedKind 14 (frameOf 5 0 [])) s = s ∧
    (after (.beacon (frameOf 5 0 [])) s).fre.rx = .hunt ∧
    (after .crcMismatch ready).fre = ready.fre := by decide +kernel

theorem test_carrier :
    let s := after .cdAsserted (withQueue beaconEntry ready)
    s.cau.access.phase = .defer ∧ (after .cdClear s).cau.access.phase = .gap := by decide +kernel

theorem test_gap_and_backoff :
    let s := inAccess .gap (withQueue { beaconEntry with backoff := some 1 } ready)
    let t := after .gapEnd s
    let u := after .backoffSlotEnd t
    t.cau.access.phase = .backoff ∧ t.now = 60120 ∧ u.txKey = true ∧ u.now = 60140 := by decide +kernel

/-- CD at the moment the count reaches 0 sends the candidate back with a count of 0, and CD before it with the
count frozen (R55, R58). -/
theorem test_carrier_at_zero :
    let s := inAccess .backoff (withQueue { beaconEntry with backoff := some 1 } ready)
    let t := after .cdAsserted { s with now := s.now + 20 }
    let u := after .cdAsserted { s with now := s.now + 19 }
    t.cau.access.phase = .defer ∧ t.cau.queue.map (·.backoff) = [some 0] ∧ t.cau.inService = none ∧
    u.cau.access.phase = .defer ∧ u.cau.queue.map (·.backoff) = [some 1] := by decide +kernel

theorem test_keyup_and_last_bit :
    let s := after .keyupEnd (inServiceOf beaconEntry .keyup ready)
    let t := after .transmissionEnd s
    s.fre.onAir.map (·.frame.header.seq) = some 1 ∧ s.fre.counters.transmissions = 1 ∧
    t.cau.queue = [] ∧ t.fre.rx = .hunt ∧ t.now = 60023 := by decide +kernel

/-- A service that ends under QUIET, and QUIET that takes the last entry, leave INHIBITED without a candidate;
IDLE without an entry stays IDLE (R59; log 33). -/
theorem test_inhibited_without_candidate :
    let sent := after .transmissionEnd (quiet (inServiceOf beaconEntry .sending ready))
    let retry := after .ackWaitExpiry (quiet (inServiceOf replyEntry .ackWait ready))
    let bid := queued ⟨.bid, 0, 1, false, 0, .offer testId⟩
    let taken := after .quietAsserted
      (inAccess .gap (withQueue bid (withOffer { testOffer .bid with bidFrame := .inQueue } ready)))
    (accessState sent = .inhibited ∧ sent.cau.access.candidate = none ∧ sent.cau.queue = []) ∧
    (accessState retry = .inhibited ∧ retry.cau.access.candidate = some 0) ∧
    (accessState taken = .inhibited ∧ taken.cau.access.candidate = none ∧ taken.cau.queue = []) ∧
    accessState (after .quietReleased taken) = .idle ∧
    accessState (after .quietAsserted ready) = .idle ∧
    accessState (after .transmissionEnd (inServiceOf beaconEntry .sending ready)) = .idle ∧
    (after .ackWaitExpiry (inServiceOf replyEntry .ackWait ready)).cau.access = ⟨.gap, some 0, 60080⟩ := by
  decide +kernel

/-- A key clicks at the end of its debounce where key click is enabled, a refusal plays ERROR over the click,
and OFFER runs on over both (R171, R175). -/
theorem test_key_tones :
    let plays := fun (t : Tone) (s : State) => { s with cns := { s.cns with buzzer := some (t, 59900) } }
    let off := { ready with stc := { ready.stc with
      config := acceptedConfig { testImage with keyClick := testItem 0 } } }
    (after .read (pressing .read ready)).cns.buzzer = some (.click, 60020) ∧
    (after .read (pressing .read off)).cns.buzzer = none ∧
    (after .pay (pressing .pay ready)).cns.buzzer = some (.error, 60020) ∧
    (after .pay (pressing .pay (plays .message ready))).cns.buzzer = some (.error, 60020) ∧
    (after .pay (pressing .pay (plays .offer ready))).cns.buzzer = some (.offer, 59900) ∧
    (after .pay (pressing .pay (inEmergency .active ready))).cns.buzzer = none := by decide +kernel

theorem test_ack_gap :
    let s := { ready with fre := { ready.fre with pendingAck := some ⟨3902, .msg, 5, 60010⟩ } }
    (after .ackGapEnd s).txKey = true ∧ (after .ackGapEnd s).now = 60010 := by decide +kernel

theorem test_looped_frame :
    let s := inLoopback (inServiceOf beaconEntry .sending ready)
    let t := after .loopedFrameEnd { s with fre := { s.fre with onAir := some ⟨.beacon, frameOf 1187 0 [], []⟩ } }
    t.fre.counters.good = 1 ∧ t.cau.queue = [] := by decide +kernel

theorem test_beacon_timer :
    let t := after .beaconTimerExpiry { ready with cau := { ready.cau with beaconLoaded := true } }
    t.cau.queue.map (·.req.kind) = [.beacon] ∧ t.cau.beaconCount = 31 := by decide +kernel

theorem test_slot_tick :
    let t := after (.slotClockTick 999) ready
    t.cau.rng = 2#15 ∧ t.stc.supply = .low ∧ t.now = 60020 := by decide +kernel

theorem test_relay_delay :
    let t := after (.relayDelayEnd ⟨5, .alarm, 9⟩) (withRelay .delay ready)
    t.nbt.relays.map (·.state) = [.queued] ∧ t.cau.queue.map (·.req.hop) = [1] := by decide +kernel

theorem test_quiet :
    (after .quietAsserted (withOffer (testOffer .waiting) ready)).ocu.offers.map (·.state) = [.passed] ∧
    (after .quietReleased (quiet ready)).cau.beaconLoaded = true := by decide +kernel

theorem test_supply :
    (after (.supplyLow 999) ready).stc.supply = .low ∧ (after (.supplyLow 1000) ready).stc.supply = .normal ∧
    (after (.supplyNormal 1051) { ready with stc := { ready.stc with supply := .low } }).stc.supply =
      .normal := by decide +kernel

theorem test_ignition :
    let t := after .ignOff (inDuty .offShift ready)
    t.stc.parkSince = some 60000 ∧ (after .parkTimerExpiry t).stc.power = .park ∧
    (after .ignOn (inPark ready)).stc.power = .run := by decide +kernel

theorem test_ages :
    let n : Neighbour := ⟨5, 1, false, none, 0, 1⟩
    let s := { ready with nbt := { ready.nbt with
      ticks := 90, neighbours := [n], dups := [⟨⟨5, .msg, 1⟩, 30⟩], homeLevel := true } }
    (after (.neighbourAgeOut 5) s).nbt.neighbours = [] ∧ (after .homeReachExpiry s).nbt.homeLevel = false ∧
    (after (.duplicateKeyAgeOut ⟨5, .msg, 1⟩) s).nbt.dups = [] := by decide +kernel

theorem test_bid_delay_and_window :
    let s := withOffer { testOffer .waiting with delayDeadline := some 60057 } ready
    let t := withOffer { testOffer .bid with bidFrame := .sent } ready
    (after (.bidDelayEnd testId) s).cau.queue.map (·.req.kind) = [.bid] ∧
    (after (.windowEnd testId) t).dtc.duty = .pending ∧ (after (.windowEnd testId) s).dtc.duty = .vacant := by
  decide +kernel

theorem test_job_timers :
    (after .tAcceptExpiry pendingWon).dtc.duty = .vacant ∧ (after .tAcceptExpiry pendingWon).now = 72000 ∧
    (after .tConfirmExpiry assigned).dtc.job.map (·.confirmWait) = some false ∧
    (after .tAcceptLastFiveSeconds pendingWon).now = 67000 ∧
    (after (.offerHoldExpiry testId) (withOffer (testOffer .passed) ready)).ocu.offers = [] := by
  decide +kernel

theorem test_store_ages :
    let young := { testMsg with state := .assembling, assemblyAge := 30 }
    let old := { testMsg with validityLeft := some 0 }
    (after (.assemblyTimeout 3902 57) (withMsg young ready)).mst.entries = [] ∧
    (after (.validityExpiry 3902 57) (withMsg old ready)).mst.entries = [] ∧
    (after (.validityExpiry 3902 57) (withMsg { old with pin := true } ready)).mst.entries.map (·.expired) =
      [true] := by decide +kernel

theorem test_console_timers :
    let s := { ready with cns := { ready.cns with
      level := 3, target := 5, dimSince := some 60000, stretchSince := some 60000,
      buzzer := some (.offer, 60000) } }
    (after .dimStepEnd s).cns.level = 4 ∧ (after .activityStretchEnd s).cns.stretchSince = none ∧
    (after .buzzerPatternEnd s).now = 60650 ∧ (after .displayRefresh s).cns.module = s.cns.display := by
  decide +kernel

/-- The sounds of R175: a tone begins and ends, a gap follows, and a pattern ends silent. -/
theorem test_buzzer_sound :
    let at_ := fun (t : Tone) (ms : Nat) =>
      ({ ready with now := 60000 + ms, cns := { ready.cns with buzzer := some (t, 60000) } } : State).buzz
    [0, 199, 200, 400, 1799, 1800].map (at_ .alarmNear) =
      [.tone, .tone, .silent, .tone, .tone, .silent] ∧
    [149, 150, 250, 649, 650].map (at_ .offer) = [.tone, .silent, .tone, .tone, .silent] ∧
    [99, 100, 200, 299, 300].map (at_ .message) = [.tone, .silent, .tone, .tone, .silent] ∧
    [399, 400].map (at_ .error) = [.lowTone, .silent] ∧ [14, 15].map (at_ .click) = [.tick, .silent] ∧
    ready.buzz = .silent := by decide +kernel

theorem test_blink :
    let s := withMsg testMsg { ready with cns := { ready.cns with
      lamps := { ready.cns.lamps with ledMsg := .blink true 60000 } } }
    (after (.blinkPhaseEnd .ledMsg) s).cns.lamps.ledMsg = .blink false 60500 := by decide +kernel

theorem test_alarm_button :
    let s := after .alarmPressed ready
    let t := after .holdTimerExpiry s
    s.emu.state = .arming ∧ (after .alarmReleased s).emu.state = .idle ∧ t.emu.state = .active ∧
    t.cau.queue.map (·.req.kind) = [.alarm] ∧ t.now = 62000 := by decide +kernel

/-- A call taken back from CLEARING keeps the slow period of before (R181, R185). -/
theorem test_reactivated_call :
    let s := { inEmergency .clearing ready with emu := { Emu.reset with
      state := .clearing, keptPeriod := 60000, holdTimer := some ⟨60000, false⟩ } }
    (after .holdTimerExpiry s).emu.schedule = some ⟨.fast 5, 60000, 67000⟩ := by decide +kernel

theorem test_alarm_schedule :
    let clearing := { inEmergency .clearing ready with
      emu := { Emu.reset with state := .clearing, clearsSent := 1, clearDue := some 65000 } }
    (after .alarmDue activeCall).emu.schedule = some ⟨.fast 4, 30000, 70000⟩ ∧
    (after .clearDue clearing).cau.queue.map (·.req.kind) = [.alarmClear] := by decide +kernel

theorem test_lockout_and_alarm_list :
    let s := { withAlarm ready with
      emu := { Emu.reset with attempts := 3, lockout := some (.running 90000), alarms := [testAlarm] } }
    (after .lockoutExpiry s).emu.attempts = 0 ∧ (after (.alarmListExpiry 5) s).emu.alarms = [] ∧
    (after (.alarmListExpiry 5) s).now = 360000 := by decide +kernel

theorem test_power_loss_and_reset :
    (after .mainPowerLoss ready).stc.phase = .halted ∧ (after .resetAsserted ready).stc.phase = .halted ∧
    (after .mainPowerLoss ready).stc.powerLost = true := by decide +kernel

theorem test_step_takes_the_front :
    step { ready with pending := [.ignOff, .ignOn] } = exec .ignOff { ready with pending := [.ignOn] } ∧
    step ready = .next (idle ready) ∧ (idle ready).now = 60001 :=
  ⟨rfl, rfl, by decide +kernel⟩

/-! ## The hypotheses of the statements are met

One theorem per statement with hypotheses: states and operands that meet them together, clause by clause,
at the boundary values of their ranges. -/

theorem witness_EveryStepRunsAndKeepsTheQueue :
    ready.pending = [] ∧ ready.running = true ∧ State.reset.pending = [] ∧ State.reset.running = false := by
  decide

theorem witness_ColdStartGivesColdValues :
    let lost := { ready with lines := { ready.lines with mainPower := false } }
    (startArises .resetReleased State.reset = true ∧ powered (startLine .resetReleased State.reset) = true ∧
      coldStart (startOf .resetReleased testImage true) State.reset = true) ∧
    (startArises .powerReturned lost = true ∧ powered (startLine .powerReturned lost) = true ∧
      coldStart (startOf .powerReturned testImage false) lost = true) := by decide +kernel

set_option maxRecDepth 100000 in
theorem witness_WarmStartKeepsTheRetainedArea :
    let bad := { testImage with crcMatches := false }
    (startArises .resetReleased (heldByReset ready) = true ∧
      powered (startLine .resetReleased (heldByReset ready)) = true ∧
      coldStart (startOf .resetReleased testImage true) (heldByReset ready) = false ∧
      (heldByReset ready).dtc.duty ≠ .pending ∧ imageAccepted testImage = true) ∧
    (coldStart (startOf .resetReleased bad true) (heldByReset pendingWon) = false ∧
      imageAccepted bad = false) := by decide +kernel

/-- PENDING held by RESET with a pending set of version 4 and the messages `l` in the store. -/
def pendingHeld (l : List MsgEntry) : State :=
  { heldByReset pendingWon with
    tlu := { ready.tlu with pendingSet := some { decodeImageSet testSet with version := 4 } }
    mst := { ready.mst with entries := l, nextMsg := 1 } }

set_option maxRecDepth 100000 in
/-- A retained PENDING with a pending set above the active one, with an empty store and with a message. -/
theorem witness_WarmStartKeepsTheRetainedArea_pending :
    ∀ l ∈ [[], [testMsg]],
      startArises .resetReleased (pendingHeld l) = true ∧
      powered (startLine .resetReleased (pendingHeld l)) = true ∧
      coldStart (startOf .resetReleased testImage true) (pendingHeld l) = false ∧
      (pendingHeld l).dtc.duty = .pending ∧ StoreWf (pendingHeld l) ∧ StoreKeysOnce (pendingHeld l) ∧
      (pendingHeld l).tlu.active = some (decodeImageSet testSet) ∧
      ((pendingHeld l).tlu.pendingSet.filter fun p => (decodeImageSet testSet).version < p.version) =
        some { decodeImageSet testSet with version := 4 } := by
  unfold StoreWf StoreKeysOnce; decide +kernel

set_option maxRecDepth 100000 in
/-- The entry into VACANT of such a start takes up the pending set and raises TARIFF NEW (R23 note 1). -/
theorem test_pending_at_warm_start :
    let t := after (.start (startOf .resetReleased testImage true)) (pendingHeld [testMsg])
    t.dtc.duty = .vacant ∧ t.tlu.active.map (·.version) = some 4 ∧ t.tlu.pendingSet = none ∧
    t.mst.entries.map (·.name) = [.notice .tariffNew, .message 3902 57] ∧
    (t.mst.entries.map (·.segments)).head? = some [(1, codes "TARIFF NEW V4")] := by decide +kernel

/-- The places a notice takes (R147, R151): its own notice's, a free one, the oldest READ entry's, the oldest
expired entry's, the oldest notice's without PIN, the oldest notice's, none. -/
theorem test_store_with_notice :
    let message := fun (n : Nat) => { testMsg with entry := n, name := .message 3902 (BitVec.ofNat 8 n) }
    let notice := fun (key : NoticeKey) (pin : Bool) (n : Nat) => { noticeEntry key pin [] with entry := n }
    let new := notice .tariffNew false 90
    let fill := (List.range 20).map message
    let stores := fun (l : List MsgEntry) => (storeWithNotice new (fill ++ l)).map (·.entry)
    let after := fun (l : List Nat) => 90 :: (List.range 20 ++ l)
    stores [notice .tariffNew false 20, message 21, message 22, message 23] = after [21, 22, 23] ∧
    stores [message 20] = after [20] ∧
    stores [{ message 20 with state := .read }, { message 21 with state := .read },
      { message 22 with state := .read, pin := true }, { message 23 with expired := true }] =
      after [20, 22, 23] ∧
    stores [message 20, { message 21 with expired := true }, notice .logFull false 22, message 23] =
      after [20, 22, 23] ∧
    stores [notice .logFull false 20, notice .jobGone false 21, notice (.alarmNear 5) true 22, message 23] =
      after [20, 22, 23] ∧
    stores [message 20, notice (.alarmNear 5) true 21, notice (.alarmNear 6) true 22, message 23] =
      after [20, 21, 23] ∧
    stores [message 20, message 21, message 22, message 23] = List.range 24 := by decide +kernel

set_option maxRecDepth 100000 in
theorem witness_ImageCheckGivesFaultOrClampedCopy :
    startArises .resetReleased State.reset = true ∧
    powered (startLine .resetReleased State.reset) = true ∧ imageAccepted testImage = true ∧
    imageAccepted { testImage with crcMatches := false } = false ∧ testImage.tBeacon.absent = true ∧
    testImage.home.absent = false := by decide +kernel

theorem witness_LampTestEndBeginsTheBlocks :
    let dark := inDuty .offShift { ready with lines := { ready.lines with ignOn := false } }
    ((inLampTest ready).stc.phase = .lampTest ∧ (inLampTest ready).emu.state = .idle ∧
      (inLampTest ready).lines.alarmPressed = false ∧ (inLampTest ready).parkConditions = false) ∧
    ((inLampTest dark).stc.phase = .lampTest ∧ (inLampTest dark).emu.state = .idle ∧
      (inLampTest dark).lines.alarmPressed = false ∧ (inLampTest dark).parkConditions = true) := by decide

theorem witness_LampTestEndTakesUpTheEmergency :
    (inLampTest ready).stc.fault = false ∧
    ((inLampTest (buttonDown ready)).emu.state = .idle ∧
      (inLampTest (buttonDown ready)).lines.alarmPressed = true) ∧
    (∀ e ∈ [EmuState.active, .acknowledged, .covert, .clearing],
      (inLampTest (inEmergency e ready)).stc.phase = .lampTest ∧
      (inLampTest (inEmergency e ready)).emu.state = e ∧
      (inLampTest (inEmergency e ready)).cau.queue = []) := by decide

theorem witness_OneSecondTickCounts : ready.running = true := by decide

theorem witness_SlotTickAdvancesGeneratorRelaysAndSense :
    (withRelay .delay ready).running = true ∧ (950 < fallingMv 2 ∧ risingMv 2 < 1051) := by decide

theorem witness_NavRecordAndAgeMovePosition :
    let r : NavRecord := ⟨true, true, true, 86399, ⟨0, 65535⟩, .fix⟩
    (r.markerBegins = true ∧ r.allFields = true ∧ r.checkMatches = true ∧ r.timeOfDay ≤ 86399 ∧
      r.fix = .fix) ∧
    ¬(86400 ≤ 86399) ∧
    ({ ready with dtc := { ready.dtc with posAge := 10 } } : State).running = true := by decide

theorem witness_QuietAbandonsContestsAndReloadsBeacon :
    ((withOffer (testOffer .bid) ready).running = true ∧
      ((withOffer (testOffer .bid) ready).ocu.offers.map (·.id)).Nodup ∧
      (withOffer (testOffer .bid) ready).lines.quiet = false ∧
      (testOffer .passed).state.running = false) ∧
    (let s := withQueue beaconEntry (withOffer { testOffer .bid with bidFrame := .sent } ready);
      (s.ocu.offers.map (·.id)).Nodup ∧ QueueWf s ∧ s.cau.queue.length + s.ocu.offers.length ≤ 16 ∧
      ∀ q ∈ s.cau.queue, q.req.kind ≠ .bid) ∧
    ((ready.cau.inService = none ∧ (inAccess .gap ready).cau.access.phase ≠ .idle) ∧
      (withQueue beaconEntry ready).cau.access.phase = .idle ∧
      bestEntry (after .quietAsserted (withQueue beaconEntry ready)) ≠ none ∧
      (inServiceOf beaconEntry .keyup ready).cau.inService ≠ none ∧
      (quiet (inAccess .inhibited ready)).lines.quiet = true ∧
      (quiet (inAccess .inhibited ready)).cau.access.phase = .inhibited) ∧
    (let bid := queued ⟨.bid, 0, 1, false, 0, .offer testId⟩;
      ∀ s ∈ [withQueue bid (withOffer { testOffer .bid with bidFrame := .inQueue } ready),
          inServiceOf bid .keyup (withOffer { testOffer .bid with bidFrame := .inQueue } ready)],
        QueueWf s ∧ s.cau.queue.length + s.ocu.offers.length ≤ 16 ∧
        s.cau.queue.find? (fun x => x.req.kind = .bid && x.req.tag = .offer testId) = some bid ∧
        (s.isInService bid = false ∨ s.isInService bid = true)) ∧
    (quiet ready).running = true ∧ (quiet ready).lines.quiet = true := by
  unfold QueueWf queuedBefore; decide +kernel

theorem witness_IgnitionAndParkTimerMovePower :
    let dark := inDuty .onBreak { ready with lines := { ready.lines with ignOn := false } }
    let timed := { dark with stc := { dark.stc with parkSince := some 60000 } }
    (inPark ready).running = true ∧ (inPark ready).stc.power = .park ∧
    dark.emu.state = .idle ∧ dark.dtc.duty = .onBreak ∧ dark.stc.power = .run ∧
    timed.running = true ∧ timed.stc.parkSince = some 60000 ∧ timed.parkConditions = true := by decide

theorem witness_ScannerFollowsContacts :
    let s := { ready with cns := { ready.cns with
      scanner := .locked, contacts := [], releaseSince := some 60000 } }
    s.running = true ∧ s.cns.releaseSince = some 60000 ∧ s.cns.contacts = [] ∧ waitsForRelease s = true := by
  decide

theorem witness_HeldArrowRepeats :
    let s := { withView .message (opened (withMsg testMsg ready)) with
      cns := { ready.cns with
        view := .message, shown := some .message, scanner := .held .up true 60500, contacts := [.up] } }
    let listed := { listing with cns := { listing.cns with
      scanner := .held .down true 60500, contacts := [.down] } }
    s.running = true ∧ s.stc.power = .run ∧ s.cns.scanner = .held .up true 60500 ∧
    viewShown s = some .message ∧ s.cns.shown = some .message ∧
    s.cns.pointers.get .message ≤ pointerLimit s .message ∧
    pointerLimit (after .keyRepeat s) .message = pointerLimit s .message ∧
    (StoreWf listed ∧ listed.running = true ∧ listed.stc.power = .run ∧
      listed.cns.scanner = .held .down true 60500 ∧ viewShown listed = some .list ∧
      listed.cns.shown = some .list ∧ listed.cns.pointers.list ≤ pointerLimit listed .list) := by
  unfold StoreWf; decide +kernel

theorem witness_DarkDisplayWakesOnAnyKey :
    let s := inPark (pressing .hire ready)
    let t := { s with cns := { s.cns with wakeSince := some 60000 } }
    s.running = true ∧ s.stc.power = .park ∧ canAccept .hire s = true ∧ s.cns.wakeSince = none ∧
    t.running = true ∧ t.stc.power = .park ∧ t.cns.wakeSince = some 60000 := by decide

theorem witness_UnavailableKeyIsRefused :
    (keyTaken .pay (pressing .pay ready) = true ∧ keyAvailable .pay .vacant = false) ∧
    (keyTaken .accept (pressing .accept ready) = true ∧ keyAvailable .accept .vacant = false ∧
      (pressing .accept ready).emu.state = .idle ∧ (pressing .accept ready).stc.power = .run) ∧
    (let dark := inPark (pressing .hire ready)
     let s := { inDuty .onBreak dark with cns := { dark.cns with wakeSince := some 60000 } }
     keyTaken .hire s = true ∧ keyAvailable .hire .onBreak = false ∧ s.stc.power = .park) ∧
    (keyTaken .pay (pressing .pay (inEmergency .active ready)) = true ∧
      (inEmergency .active ready).emu.state ≠ .idle) := by decide

theorem witness_ShiftKeyStartsAndEndsTheShift :
    (keyTaken .shift (pressing .shift (inDuty .offShift ready)) = true) ∧
    (startArises .resetReleased State.reset = true ∧
      powered (startLine .resetReleased State.reset) = true) ∧
    (keyTaken .shift (pressing .shift (withLog 63 ready)) = true ∧
      (pressing .shift (withLog 63 ready)).dtc.duty = .vacant ∧
      (withLog 63 ready).tlu.log.length ≤ 64 ∧ unreported (withLog 63 ready) < 64) ∧
    (keyTaken .shift (pressing .shift (withLog 64 ready)) = true ∧
      (withLog 64 ready).tlu.log.length ≤ 64 ∧ ¬unreported (withLog 64 ready) < 64 ∧
      hasPlace (withLog 64 ready) = true) := by decide +kernel

theorem witness_HireOpensNewHireOrIsRefused :
    (keyTaken .hire (pressing .hire (inFault ready)) = true ∧ (inFault ready).stc.fault = true ∧
      (inFault ready).dtc.duty = .vacant) ∧
    (keyTaken .hire (pressing .hire (withLog 63 ready)) = true ∧ ¬unreported (withLog 63 ready) < 63 ∧
      (withLog 63 ready).stc.fault = false ∧ hasPlace (withLog 63 ready) = true) ∧
    (keyTaken .hire (pressing .hire (withLog 62 ready)) = true ∧ unreported (withLog 62 ready) < 63 ∧
      (withLog 62 ready).tlu.active = some (decodeImageSet testSet)) ∧
    (keyTaken .hire (pressing .hire assigned) = true ∧ assigned.dtc.duty = .assigned ∧
      assigned.stc.fault = false ∧ unreported assigned < 63 ∧
      assigned.tlu.active = some (decodeImageSet testSet)) := by decide +kernel

theorem witness_PayStopsAndHireResumesMeter :
    (hired.fmr.hire = some testHire ∧ keyTaken .pay (pressing .pay hired) = true ∧
      hired.dtc.duty = .hired ∧ hired.stc.fault = false ∧
      timeMode testHire.current.rates (min testHire.intervalMetres testHire.mmax) = true) ∧
    timeMode testRates (min 70 70) = false ∧
    (keyTaken .pay (pressing .pay (inFault hired)) = true ∧ (inFault hired).stc.fault = true) ∧
    (paying.fmr.hire.isSome = true ∧ keyTaken .hire (pressing .hire paying) = true ∧
      paying.dtc.duty = .paying) := by decide

theorem witness_VacantEndsHireAndAppendsRecord :
    let s := withLog 63 paying
    let home : Neighbour := ⟨3902, 1, false, none, 0, 1⟩
    let near := pressing .vacant { s with nbt := { s.nbt with neighbours := [home] } }
    (keyTaken .vacant (pressing .vacant s) = true ∧ s.dtc.duty = .paying ∧ s.fmr.hire.isSome = true ∧
      unreported s ≤ 63 ∧ s.tlu.log.length ≤ 64 ∧ s.homeReachable = false) ∧
    (keyTaken .vacant near = true ∧ near.dtc.duty = .paying ∧ near.fmr.hire.isSome = true ∧
      unreported near ≤ 63 ∧ near.tlu.log.length ≤ 64 ∧ near.homeReachable = true ∧
      (∀ x ∈ near.tlu.log, x.state ≠ .inFlight) ∧ near.tlu.hold = none ∧ QueueWf near ∧
      near.cau.queue.length < 16 ∧ ∀ q ∈ near.cau.queue, q.req.kind ≠ .fare) := by
  unfold QueueWf queuedBefore; decide +kernel

theorem witness_BreakKeyBeginsAndEndsBreak :
    (keyTaken .onBreak (pressing .onBreak ready) = true ∧ ready.dtc.duty = .vacant) ∧
    (keyTaken .onBreak (pressing .onBreak (inDuty .onBreak ready)) = true ∧
      (inDuty .onBreak ready).dtc.duty = .onBreak) := by decide

theorem witness_AcceptTakesTheWonOffer :
    keyTaken .accept (pressing .accept pendingWon) = true ∧ pendingWon.emu.state = .idle ∧
    pendingWon.dtc.duty = .pending ∧
    pendingWon.wonOffer? = some { testOffer .won with jobTimer := some 72000, windowTaken := true } ∧
    pendingWon.cau.queue.length < 16 := by decide +kernel

theorem witness_DeclineAndTAcceptReleaseTheOffer :
    (QueueWf pendingWon ∧ pendingWon.cau.queue.length < 16 ∧ pendingWon.dtc.duty = .pending ∧
      keyTaken .decline (pressing .decline pendingWon) = true ∧ pendingWon.running = true ∧
      pendingWon.wonOffer?.map (·.jobTimer) = some (some 72000)) ∧
    (QueueWf assigned ∧ assigned.cau.queue.length < 16 ∧ assigned.dtc.duty = .assigned ∧
      assigned.dtc.job = some testJob ∧ keyTaken .decline (pressing .decline assigned) = true) := by
  unfold QueueWf queuedBefore; decide +kernel

theorem witness_PrefixDigitChargesExtraOrTariff :
    (keyTaken .extra (pressing .extra paying) = true ∧ keyAvailable .extra paying.dtc.duty = true) ∧
    (keyTaken .tariff (pressing .tariff hired) = true ∧ keyAvailable .tariff hired.dtc.duty = true) ∧
    (let s := pressing (.digit 2) (withPending .extra hired);
      keyTaken (.digit 2) s = true ∧ s.emu.state = .idle ∧ s.fmr.hire = some testHire ∧
      s.cns.keyPrefix = some .extra ∧ s.dtc.duty = .hired ∧ testHire.amountOf 2 ≠ 0 ∧
      testHire.extraLeft 2 = true ∧ testHire.amountOf 4 = 0) ∧
    (let s := pressing (.digit 2) (withPending .tariff hired);
      keyTaken (.digit 2) s = true ∧ s.emu.state = .idle ∧ s.fmr.hire = some testHire ∧
      s.cns.keyPrefix = some .tariff ∧ s.dtc.duty = .hired ∧
      s.tlu.active = some (decodeImageSet testSet) ∧
      ((decodeImageSet testSet).enabledRates 2).isSome = true ∧
      (decodeImageSet testSet).enabledRates 3 = none ∧ testHire.current.tariffId ≠ 2 ∧
      testHire.segments.length < 4) := by decide +kernel

theorem witness_ViewKeysMoveThroughViews :
    let list := withView .list (withMsg testMsg ready)
    let message := withView .message (opened (withMsg testMsg ready))
    (keyTakenInRun .read (pressing .read ready) = true ∧ ready.cns.view = .none) ∧
    (keyTakenInRun .read (pressing .read list) = true ∧ listEntryAt list list.cns.pointers.list = some 0) ∧
    listEntryAt (withView .list ready) 0 = none ∧
    keyTakenInRun .read (pressing .read message) = true ∧
    (keyTakenInRun .clear (pressing .clear message) = true ∧ message.emu.state = .idle ∧
      message.mst.openEntry = some 0 ∧ message.msg? 0 = some testMsg ∧ testMsg.expired = false) ∧
    (∀ k ∈ [Key.up, .down], keyTakenInRun k (pressing k message) = true ∧
      viewShown message = some .message ∧
      (pressing k { message with cns := { message.cns with shown := some .message } }).cns.pointers.get
        .message ≤ pointerLimit message .message) ∧
    (∀ k ∈ [Key.up, .down], keyTakenInRun k (pressing k listing) = true ∧ StoreWf (pressing k listing) ∧
      (pressing k listing).cns.view = .list ∧ (pressing k listing).cns.shown = some .list ∧
      (pressing k listing).cns.pointers.list ≤ pointerLimit (pressing k listing) .list) ∧
    (listing.running = true ∧ StoreWf listing ∧ viewShown listing = some .list ∧
      listing.cns.selection = some 0 ∧ viewShown (after .oneSecondTick listing) = some .list) := by
  unfold StoreWf; decide +kernel

theorem witness_ViewKeysMoveThroughViews_follows : ViewFollows listing :=
  fun _ => ⟨by decide, fun v h => by cases h; decide +kernel, fun _ => by decide +kernel⟩

theorem witness_ReplyMenuMakesReply :
    let message := withView .message (opened (withMsg testMsg ready))
    let menu := withView .menu (opened (withMsg testMsg ready))
    (message.openMsg = some testMsg ∧ keyTakenInRun .reply (pressing .reply message) = true ∧
      message.cns.view = .message) ∧
    (menu.openMsg = some testMsg ∧ keyTakenInRun (.digit 1) (pressing (.digit 1) menu) = true ∧
      menu.emu.state = .idle ∧ menu.cns.view = .menu ∧ menu.cns.keyPrefix = none ∧
      phraseOf menu 1 = some (codes "YES") ∧ menu.cau.queue.length < 16 ∧ menu.cau.queue = []) ∧
    (keyTakenInRun (.digit 9) (pressing (.digit 9) menu) = true ∧ phraseOf menu 9 = none ∧
      phraseOf menu 0 = none) := by decide +kernel

theorem witness_EmergencyCodeKeys :
    let coded := fun (e : EmuState) (code : List (Fin 10)) =>
      { inEmergency e ready with emu := { Emu.reset with state := e, code := code } }
    let s := coded .active [4, 7, 1, 1]
    (s.stc.fault = false ∧ s.emu.state.takesCode = true ∧
      keyTaken (.digit 0) (pressing (.digit 0) s) = true ∧ s.cns.keyPrefix = none ∧
      viewShown s ≠ some .menu) ∧
    keyTakenInRun .clear (pressing .clear s) = true ∧
    (keyTaken .accept (pressing .accept s) = true ∧ s.emu.lockout = none ∧ s.emu.state ≠ .clearing ∧
      s.emu.code = codeDigits s.stc.config.cancelCode ∧ s.cau.queue = [] ∧
      activeCall.emu.schedule = some ⟨.fast 5, 30000, 65000⟩) ∧
    (∀ e ∈ [EmuState.active, .covert],
      (coded e [1, 9, 2, 0]).emu.code ≠ codeDigits s.stc.config.cancelCode ∧
      s.stc.config.duressCode = some 1920 ∧ (coded e [1, 9, 2, 0]).emu.code = codeDigits 1920 ∧
      keyTaken .accept (pressing .accept (coded e [1, 9, 2, 0])) = true) ∧
    ((coded .active [4, 7]).emu.code ≠ codeDigits s.stc.config.cancelCode ∧
      (coded .active [4, 7]).emu.code ≠ codeDigits 1920) ∧
    (keyTaken .accept (pressing .accept (coded .clearing [])) = true ∧
      (coded .clearing []).emu.state.takesCode = true) := by decide +kernel

theorem witness_PulsesAndIntervalsCharge :
    (hired.running = true ∧ hired.fmr.hire = some testHire ∧ hired.dtc.duty = .hired ∧
      hired.stc.fault = false ∧ hired.fmr.intervalSince = some 60000) ∧
    (paying.running = true ∧ paying.fmr.hire.isSome = true ∧ paying.dtc.duty ≠ .hired) ∧
    (inFault hired).stc.fault = true ∧
    min 0 70 * testRates.cd * testRates.ut < testRates.ct * testRates.ud ∧
    ¬min 70 70 * testRates.cd * testRates.ut < testRates.ct * testRates.ud := by decide

theorem witness_StepsCountCompletedUnits :
    (1 ≤ testRates.ud ∧ 1 ≤ testRates.ut) ∧
    1 ≤ ({ testHire.current with distanceCounter := 1 } : Segment).distanceCounter ∧
    1 ≤ ({ testHire.current with timeCounter := 1 } : Segment).timeCounter := by decide

theorem witness_PayableIsTheRoundedFare :
    (∀ r ∈ [1, 5, 10], (r = 1 ∨ r = 5 ∨ r = 10) ∧ 999999 ≤ 999999) ∧
    (hired.fmr.hire = some testHire ∧ keyTaken .pay (pressing .pay hired) = true ∧
      hired.dtc.duty = .hired) ∧
    (let s := pressing (.digit 1) (withPending .extra paying);
      s.fmr.hire.map (·.payable.isSome) = some true ∧ keyTaken (.digit 1) s = true ∧
      s.emu.state = .idle ∧ s.cns.keyPrefix = some .extra ∧ s.dtc.duty = .paying ∧ s.stc.fault = false ∧
      s.fmr.hire.map (·.extraLeft 1) = some true) := by decide +kernel

theorem witness_LengthTestLeadsToBodyOrHunt :
    let header := { ready with fre := { ready.fre with rx := .header } }
    ready.running = true ∧ ready.fre.rx = .hunt ∧ header.running = true ∧ header.fre.rx = .header ∧
    64 < 65 := by decide

theorem witness_DiscardedFramesAreCounted :
    let f := frameOf 5 0 []
    let s := inBody .beacon f ready
    ((inLampTest s).running = false ∧ ready.fre.rx ≠ .body ∧
      s.fre.gathering ≠ some (⟨kindCode .beacon, (frameOf 6 0 []).header⟩, 0) ∧
      s.fre.gathering ≠ some (⟨kindCode .fare, f.header⟩, 0)) ∧
    (s.running = true ∧ s.fre.rx = .body ∧ s.fre.gathering = some (⟨kindCode .beacon, f.header⟩, f.payload.length) ∧
      f.header.fleet = s.stc.config.fleet ∧ s.stc.config.fleet ≠ 0 ∧ s.stc.config.fleet ≠ 7) ∧
    (∀ n ∈ [0, 1187], (inBody .fare (frameOf n 0 []) ready).running = true ∧
      (inBody .fare (frameOf n 0 []) ready).fre.gathering =
        some (⟨kindCode .fare, (frameOf n 0 []).header⟩, 0)) ∧
    ((frameOf 0 0 []).header.source = 0 ∧ (frameOf 1187 0 []).header.source = ready.own) ∧
    (inFault s).stc.fault = true := by decide

theorem witness_HeaderRefreshesTheNeighbour :
    let f := frameOf 3902 0 []
    let s := inBody .beacon f (withLog 1 ready)
    let held := { s with tlu := { s.tlu with hold := some 0 }, nbt := { s.nbt with ticks := 1 } }
    let sent := { s with tlu := { s.tlu with
      log := s.tlu.log.map fun x => { x with state := .inFlight } } }
    let full := { s with cau := { s.cau with queue := List.replicate 16 clearEntry } }
    (∀ kind ∈ [0, 9, 14, 15], Heard kind (frameOf 5 0 []) (inBodyOf kind (frameOf 5 0 []) ready)) ∧
    (Heard 0 f s ∧ f.header.source = s.stc.config.home ∧ 1 ≤ s.stc.config.tReach ∧ s.tlu.hold = none ∧
      s.homeReachable = false ∧ (∀ x ∈ s.tlu.log, x.state ≠ .inFlight) ∧
      (s.tlu.log.find? (·.state = .unsent)).isSome = true ∧ s.cau.queue = [] ∧ ClassesByKind s) ∧
    (Heard 0 f held ∧ held.tlu.hold = some 0 ∧ 0 < held.nbt.ticks) ∧
    (Heard 0 f sent ∧ sent.homeReachable = false ∧ ∃ x ∈ sent.tlu.log, x.state = .inFlight) ∧
    (Heard 0 f full ∧ (∀ q ∈ full.cau.queue, q.req.kind ≠ .fare) ∧ 16 ≤ full.cau.queue.length ∧
      ∀ q ∈ full.cau.queue, q.req.cls ≤ 3) ∧
    ClassesByKind (withQueue beaconEntry s) ∧
    (Heard 0 f { s with tlu := { s.tlu with hold := some 0 } } ∧ s.nbt.ticks ≤ 0) := by
  unfold Heard ClassesByKind; decide +kernel

theorem witness_OfferMakesAnEntry :
    let f := frameOf 3902 0 (offerBytes 0)
    let entries := (List.range 8).map fun n => { testOffer .passed with id := ⟨3900, BitVec.ofNat 8 n⟩ }
    let s := inBody .offer f ready
    let full := { s with ocu := { offers := entries } }
    let p : OfferPayload := ⟨77, ⟨1240, 3440⟩, 0, 30, codes "RAIL"⟩
    (Delivered .offer f s ∧ parseOffer f.payload = some p ∧ s.offer? testId = none ∧
      s.ocu.offers.length < 8 ∧ eligible p s = true) ∧
    (Delivered .offer f full ∧ full.offer? testId = none ∧ full.ocu.offers.length = 8 ∧
      (∃ o ∈ full.ocu.offers, o.state.spent = true)) ∧
    (Delivered .offer f (quiet s) ∧ (quiet s).offer? testId = none ∧ eligible p (quiet s) = false) ∧
    (Delivered .offer f (withOffer (testOffer .won) s) ∧
      ((withOffer (testOffer .won) s).offer? testId).isSome = true) := by
  unfold Delivered Heard; decide +kernel

theorem witness_RankOrdersBids :
    ((⟨1, 2, 3⟩ : BidRank).station ≠ (⟨1, 2, 4⟩ : BidRank).station) ∧
    better ⟨1, 2, 3⟩ ⟨1, 2, 4⟩ = true ∧ better ⟨1, 2, 4⟩ ⟨2, 2, 4⟩ = true := by decide

theorem witness_HeardBidsMoveTheContest :
    let bid := frameOf 5 0 (encodeBid (bidOf 600))
    let back := frameOf 5 0 (encodeOfferId testId)
    let yielded := { testOffer .yielded with heard := [⟨⟨600, 3, 5⟩, false⟩] }
    let contest := fun (k : FrameKind) (e : OfferEntry) => withOffer e (inBody k back ready)
    (∀ st ∈ [OfferState.waiting, .bid, .passed],
      let s := withOffer (testOffer st) (inBody .bid bid ready)
      Delivered .bid bid s ∧ parseBid bid.payload = some (bidOf 600) ∧
      bid.header.source ≠ s.stc.config.home ∧ s.offer? testId = some (testOffer st) ∧
      (testOffer st).ended s.now = false) ∧
    (Delivered .withdraw back (contest .withdraw yielded) ∧ Delivered .release back (contest .release yielded) ∧
      parseOfferId back.payload = some testId ∧ (contest .withdraw yielded).offer? testId = some yielded ∧
      withdrawBid 5 yielded.heard ≠ yielded.heard ∧ yielded.ended 63000 = false ∧
      yielded.ended 63001 = true) ∧
    (Delivered .withdraw back (contest .withdraw (testOffer .yielded)) ∧
      (contest .withdraw (testOffer .yielded)).offer? testId = some (testOffer .yielded) ∧
      withdrawBid 5 (testOffer .yielded).heard = (testOffer .yielded).heard) := by
  unfold Delivered Heard; decide +kernel

theorem witness_BetterTakeEndsTheWin :
    let better_ := frameOf 5 0 (encodeBid (bidOf 600))
    let worse := frameOf 5 0 (encodeBid (bidOf 640))
    let won : OfferEntry := { testOffer .won with jobTimer := some 72000, windowTaken := true }
    let s := inBody .take better_ pendingWon
    (Delivered .take better_ s ∧ parseBid better_.payload = some (bidOf 600) ∧
      s.offer? testId = some won ∧ won.state = .won ∧ s.dtc.duty = .pending ∧
      won.ownRank s.own = some ⟨632, 2, 1187⟩ ∧ better ⟨600, 3, 5⟩ ⟨632, 2, 1187⟩ = true ∧
      hasPlace s = true ∧ s.now < won.windowEnd + 60000) ∧
    (Delivered .take worse (inBody .take worse pendingWon) ∧ better ⟨640, 3, 5⟩ ⟨632, 2, 1187⟩ = false) ∧
    (Delivered .take better_ (withOffer (testOffer .waiting) s) ∧ (testOffer .waiting).state ≠ .won) := by
  unfold Delivered Heard; decide +kernel

theorem witness_ConfirmSettlesTheOffer :
    let mine := frameOf 3902 0 ([77] ++ be16 1187)
    let other := frameOf 3902 0 ([77] ++ be16 5)
    let ours := inBody .confirm mine assigned
    let theirs := inBody .confirm other assigned
    let driving := { theirs with dtc := { theirs.dtc with duty := .hired } }
    let won := inBody .confirm other pendingWon
    (Delivered .confirm mine ours ∧ parseConfirm mine.payload = some ⟨77, 1187⟩ ∧
      ours.dtc.job = some testJob ∧ testJob.id = testId ∧
      (ours.offer? testId).map (·.state) = some .taken ∧ ours.own = 1187) ∧
    (Delivered .confirm other theirs ∧ parseConfirm other.payload = some ⟨77, 5⟩ ∧
      theirs.dtc.duty = .assigned ∧ hasPlace theirs = true) ∧
    (Delivered .confirm other driving ∧ driving.dtc.duty = .hired) ∧
    (Delivered .confirm mine (inBody .confirm mine pendingWon) ∧ Delivered .confirm other won ∧
      (won.offer? testId).map (·.state) = some .won ∧ won.dtc.duty = .pending) ∧
    (∀ st ∈ [OfferState.waiting, .passed, .late, .declined, .lost, .closed],
      let s := withOffer (testOffer st) (inBody .confirm other ready)
      Delivered .confirm other s ∧ s.offer? testId = some (testOffer st)) ∧
    (let gone := fun s : State => { s with ocu := Ocu.reset };
      Delivered .confirm mine (gone ours) ∧ Delivered .confirm other (gone theirs) ∧
      Delivered .confirm other (gone driving) ∧ (gone theirs).offer? testId = none ∧
      hasPlace (gone theirs) = true ∧ hasPlace won = true ∧ won.now < 63000 + 60000 ∧
      Delivered .confirm other (inBody .confirm other ready) ∧ ready.dtc.job = none) := by
  unfold Delivered Heard; decide +kernel

theorem witness_MsgSegmentsBuildTheEntry :
    let f := frameOf 3902 1187 (encodeMsg (msgPart 2 2))
    let name := MsgName.message 3902 57
    let part := { testMsg with state := .assembling, count := 2 }
    let s := inBody .msg f ready
    let aged := fun n => withMsg { testMsg with listAge := n } s
    (StoreWf s ∧ Delivered .msg f s ∧ parseMsg f.payload = some (msgPart 2 2) ∧
      s.msgNamed name = none ∧ hasPlace s = true) ∧
    (StoreWf (aged 601) ∧ Delivered .msg f (aged 601) ∧
      (aged 601).msgNamed name = some { testMsg with listAge := 601 }) ∧
    (StoreWf (withMsg part s) ∧ Delivered .msg f (withMsg part s) ∧
      (withMsg part s).msgNamed name = some part ∧ (∀ g ∈ part.segments, g.1 ≠ 2) ∧
      ({ part with segments := part.segments ++ [(2, codes "TEXT")] } : MsgEntry).whole = true) ∧
    (StoreWf (aged 600) ∧ Delivered .msg f (aged 600) ∧
      (aged 600).msgNamed name = some { testMsg with listAge := 600 }) := by
  unfold StoreWf Delivered Heard; decide +kernel

theorem witness_AcknowledgementsArePreparedAndKeyed :
    let f := ackAsked (frameOf 3902 1187 (encodeMsg (msgPart 1 1)))
    let road := inBody .msg f ready
    let s := { road with nbt := { ready.nbt with dups := [⟨frameKey .msg f.header, 0⟩] } }
    let part := { testMsg with state := .assembling, count := 2 }
    let pinned := { road with
      mst := { ready.mst with
        entries := (List.range 24).map fun n =>
          { testMsg with entry := n, name := .message 3901 (BitVec.ofNat 8 n), pin := true } } }
    let waits := { ready with fre := { ready.fre with pendingAck := some ⟨3902, .msg, 5, 60010⟩ } }
    (Heard 7 f s ∧ payloadWellFormed .msg f.payload = true ∧ sourceAccepted .msg 3902 = true ∧
      asksAck .msg f.header s = true ∧ hasKey (frameKey .msg f.header) s = true) ∧
    (Heard 7 f road ∧ asksAck .msg f.header road = true ∧ ownerTakes .msg f road = true) ∧
    (Heard 7 f pinned ∧ asksAck .msg f.header pinned = true ∧ hasKey (frameKey .msg f.header) pinned = false ∧
      ownerTakes .msg f pinned = false ∧ part.count = 2) ∧
    (waits.running = true ∧ waits.fre.pendingAck.isSome = true ∧ waits.lines.cd = false ∧
      waits.txKey = false ∧ waits.lines.quiet = false ∧ waits.stc.supply = .normal ∧
      waits.stc.fault = false ∧ waits.stc.loopback = false ∧ waits.fre.rx = .hunt) ∧
    ¬(quiet waits).lines.quiet = false := by
  unfold Heard; decide +kernel

theorem witness_AckOrExpiryEndsTheWait :
    let f := frameOf 3902 1187 (encodeAck ⟨7, 9⟩)
    let told := { testMsg with reply := some ⟨1, 9, .sent⟩ }
    let s := inBody .ack f (withMsg told (inServiceOf replyEntry .ackWait ready))
    let last := { replyEntry with retries := 4 }
    (s.running = true ∧ s.cau.inService = some ⟨0, .ackWait, 60000, none, false⟩ ∧
      s.serviceEntry = some replyEntry ∧ replyEntry.number < s.cau.nextEntry ∧ Delivered .ack f s ∧
      parseAck f.payload = some ⟨7, 9⟩ ∧ f.header.dest = s.own ∧
      replyEntry.req.dest = f.header.source ∧ kindCode replyEntry.req.kind = 7 ∧
      replyEntry.seq = some 9 ∧ replyEntry.retries < 4 ∧ replyEntry.req.tag = .reply 0 ∧
      told ∈ s.mst.entries ∧ told.entry = 0 ∧ told.reply.map (·.state) = some .sent ∧
      (∀ q ∈ s.cau.queue, q.req.tag = replyEntry.req.tag → q.number = replyEntry.number)) ∧
    ¬replyEntry.seq = some 10 ∧
    ((inServiceOf last .ackWait ready).serviceEntry = some last ∧ ¬last.retries < 4) := by
  unfold Delivered Heard; decide +kernel

theorem witness_TariffSegmentsMakeThePendingSet :
    let seg := fun (v i c : Nat) => frameOf 3902 0 (be16 v ++ [byte (i * 16 + c)] ++ be16 0 ++ [1])
    let staged := { ready with tlu := { ready.tlu with staging := some ⟨4, 2, 0, [(1, [1])], 70000⟩ } }
    let taken := fun (v i c : Nat) (s : State) =>
      Delivered .tariff (seg v i c) (inBody .tariff (seg v i c) s)
    (taken 3 1 1 ready ∧ newerVersion 3 ready = false) ∧
    (taken 4 1 1 staged ∧ parseTariff (seg 4 1 1).payload = some ⟨4, 1, 1, 0, [1]⟩ ∧
      newerVersion 4 staged = true) ∧
    (taken 5 1 1 staged ∧ newerVersion 5 staged = true) ∧
    (taken 4 2 2 staged ∧ parseTariff (seg 4 2 2).payload = some ⟨4, 2, 2, 0, [1]⟩) := by
  unfold Delivered Heard; decide +kernel

theorem witness_AlarmFramesKeepListAndRelays :
    let f := frameOf 5 0 (encodeAlarm (alarmOf 5 9))
    let far := frameOf 5 0 (encodeAlarm (alarmOf 3839 9))
    let seen := frameOf 3902 5 [9]
    let answer := frameOf 3902 1187 [1]
    let road := inBody .alarm f ready
    let own := frameOf 5 0 (encodeAlarm (alarmOf 1187 9))
    let keyed := { road with nbt := { road.nbt with dups := [⟨⟨5, .alarm, 9⟩, 0⟩] } }
    let s := inBody .alarm (withHop 1 f) (withRelay .delay (withAlarm ready))
    let call := inBody .alarmSeen answer activeCall
    (Delivered .alarm f road ∧ parseAlarm f.payload = some (alarmOf 5 9) ∧ isCab 5 = true ∧
      road.own ≠ 5 ∧ road.alarmEntry 5 = none ∧ road.relay? ⟨5, .alarm, 9⟩ = none ∧
      hasKey ⟨5, .alarm, 9⟩ road = false ∧ 2 < 3 ∧ road.stc.config.relayEnable = true ∧
      road.lines.quiet = false ∧ road.nbt.relays.length < 8 ∧ f.header.source ≠ road.stc.config.home ∧
      StoreWf road ∧ hasPlace road = true) ∧
    (Delivered .alarm far (inBody .alarm far ready) ∧ isCab 3839 = true) ∧
    (Delivered .alarm own (inBody .alarm own ready) ∧ parseAlarm own.payload = some (alarmOf ready.own 9)) ∧
    (Delivered .alarm (withHop 1 f) s ∧ s.alarmEntry 5 = some testAlarm ∧
      s.relay? ⟨5, .alarm, 9⟩ = some (testRelay .delay) ∧ (testRelay .delay).heardHop < 1) ∧
    (Delivered .alarm f (inBody .alarm f s) ∧ f.header.hop ≤ (testRelay .delay).heardHop) ∧
    (Delivered .alarm f keyed ∧ keyed.relay? ⟨5, .alarm, 9⟩ = none ∧ hasKey ⟨5, .alarm, 9⟩ keyed = true) ∧
    (Delivered .alarmClear f (inBody .alarmClear f ready) ∧ road.relay? ⟨5, .clear, 9⟩ = none ∧
      hasKey ⟨5, .alarmClear, 9⟩ road = false ∧ road.alarmEntry 5 = none) ∧
    (Delivered .alarmClear f (inBody .alarmClear f s) ∧ s.alarmEntry 5 = some testAlarm ∧
      newerSerial 10 9 = true ∧ newerSerial 9 9 = false) ∧
    (Delivered .alarmSeen seen (inBody .alarmSeen seen s) ∧ seen.header.dest ≠ s.own) ∧
    (Delivered .alarmSeen answer call ∧ answer.header.dest = call.own ∧ seenMatches 1 call = true) := by
  unfold StoreWf Delivered Heard; decide +kernel

theorem witness_CarrierGapAndBackoffLeadToService :
    let one := { beaconEntry with backoff := some 1 }
    let s := withQueue one ready
    (s.running = true ∧ s.cau.inService = none ∧ bestEntry s = some one ∧ s.inhibited = false ∧
      s.fre.ackTx = none) ∧
    (∀ p ∈ [AccessPhase.gap, .backoff],
      (inAccess p s).cau.access.phase = p ∧ (inAccess p s).cau.access.candidate = some one.number ∧
      (inAccess p s).channelBusy = false ∧ (inAccess p s).entry? one.number = some one) ∧
    (let reached : State := { inAccess .backoff s with now := s.now + 20 };
      reached.cau.access.since + 20 ≤ reached.now ∧ bestEntry reached = some one ∧
      reached.channelBusy = false ∧ s.now < (inAccess .gap s).cau.access.since + 20) ∧
    (inAccess .defer s).cau.access.phase = .defer := by decide +kernel

/-- A frame of each originator that is told of its service, at the end of its backoff, and a retry. -/
theorem witness_CarrierGapAndBackoffLeadToService_told :
    let first := fun q => { queued q with backoff := some 1 }
    let bid := first ⟨.bid, 0, 1, false, 0, .offer testId⟩
    let reply := first replyEntry.req
    let relay := first ⟨.alarm, 0, 0, false, 1, .relay 5 9⟩
    let retry := { replyEntry with backoff := some 1 }
    let waits := { testMsg with reply := some ⟨1, 9, .queued⟩ }
    (∀ x ∈ [(bid, withOffer (testOffer .passed) ready), (bid, withOffer (testOffer .bid) ready),
        (reply, withMsg waits ready), (relay, withRelay .queued (withAlarm ready)), (retry, ready),
        (bid, withOffer (testOffer .bid) (inLoopback ready))],
      let s := inAccess .backoff (withQueue x.1 x.2)
      s.running = true ∧ s.cau.inService = none ∧ bestEntry s = some x.1 ∧ s.inhibited = false ∧
      x.1.backoff = some (0 + 1) ∧ s.channelBusy = false ∧ s.entry? x.1.number = some x.1 ∧
      s.cau.queue.length < 16) ∧
    (bid.seq = none ∧ retry.seq.isSome = true ∧ (testOffer .passed).state = .passed ∧
      waits.reply.map (·.state) = some .queued ∧
      (withRelay .queued ready).relay? ⟨5, .alarm, 9⟩ = some (testRelay .queued) ∧
      (withAlarm ready).alarmEntry 5 = some testAlarm ∧ ready.alarmEntry 5 = none) := by decide +kernel

theorem witness_KeyupEndBuildsTheFrame :
    let s := inServiceOf beaconEntry .keyup ready
    let a : AckTx := ⟨⟨3902, .msg, 5, 60000⟩, false, 60000⟩
    (s.running = true ∧ s.fre.ackTx = none ∧ s.cau.inService = some ⟨0, .keyup, 60000, none, false⟩ ∧
      s.serviceEntry = some beaconEntry) ∧
    (({ ready with fre := { ready.fre with ackTx := some a } } : State).running = true ∧
      a.sent = false) ∧
    s.stc.loopback = false := by decide

/-- A state for each payload of R28: its entry is in service, and its originator's record stands. -/
theorem witness_KeyupEndBuildsTheFrame_payloads :
    let keyed := fun (q : Request) => inServiceOf (queued q) .keyup
    let reply := { testMsg with reply := some ⟨1, 9, .sent⟩ }
    (∀ k ∈ [FrameKind.bid, .take, .withdraw, .release],
      let s := keyed ⟨k, 0, 1, false, 0, .offer testId⟩ (withOffer (testOffer .bid) ready)
      s.serviceEntry.map (·.req.tag) = some (.offer testId) ∧ s.offer? testId = some (testOffer .bid) ∧
      (testOffer .bid).ownScore = some 632) ∧
    (let s := keyed replyEntry.req (withMsg reply ready);
      s.serviceEntry.map (·.req.tag) = some (.reply 0) ∧ s.msg? 0 = some reply ∧
      s.mst.phrases[0]? = some (codes "YES")) ∧
    (let s := keyed ⟨.fare, 3902, 3, true, 0, .fareRecord 0⟩ (withLog 1 ready);
      s.serviceEntry.map (·.req.tag) = some (.fareRecord 0) ∧
      (s.tlu.log.find? (·.number = 0)).isSome = true) ∧
    ((keyed clearEntry.req ready).serviceEntry.map (·.req.tag) = some .ownAlarm) ∧
    (let s := keyed ⟨.alarm, 0, 0, false, 1, .relay 5 9⟩ (withRelay .queued ready);
      s.serviceEntry.map (·.req.tag) = some (.relay 5 9) ∧
      s.relay? ⟨5, .alarm, 9⟩ = some (testRelay .queued)) := by decide +kernel

theorem witness_LastBitReleasesTheChannel_level :
    ready.txKey = false ∧ (inServiceOf beaconEntry .keyup ready).fre.onAir = none ∧
    (inServiceOf beaconEntry .keyup ready).txKey = true := by decide

theorem witness_LastBitReleasesTheChannel :
    let s := inServiceOf beaconEntry .sending ready
    let a : AckTx := ⟨⟨3902, .msg, 5, 60000⟩, true, 60000⟩
    (s.running = true ∧ s.fre.ackTx = none ∧ s.serviceEntry = some beaconEntry ∧
      s.stc.loopback = false ∧ beaconEntry.number < s.cau.nextEntry ∧ beaconEntry.req.ackReq = false) ∧
    ((inServiceOf replyEntry .sending ready).serviceEntry = some replyEntry ∧
      replyEntry.req.ackReq = true) ∧
    (({ ready with fre := { ready.fre with ackTx := some a } } : State).running = true ∧ a.sent = true) ∧
    ((inLoopback s).running = true ∧ (inLoopback s).stc.loopback = true ∧
      (inLoopback s).serviceEntry = some beaconEntry) := by decide

/-- A relay, a contest frame and an own ALARM with another request held, each at its last bit. -/
theorem witness_LastBitReleasesTheChannel_told :
    let relay := queued ⟨.alarm, 0, 0, false, 1, .relay 5 9⟩
    let bid := queued ⟨.bid, 0, 1, false, 0, .offer testId⟩
    let own := queued ⟨.alarm, 0, 0, false, 0, .ownAlarm⟩
    let holds := { inServiceOf own .sending ready with
      cau := { (inServiceOf own .sending ready).cau with held := some clearEntry.req } }
    (∀ e ∈ [relay, bid, own], (inServiceOf e .sending ready).running = true ∧
      (inServiceOf e .sending ready).serviceEntry = some e ∧ e.req.ackReq = false) ∧
    (holds.cau.held = some ⟨.alarmClear, 0, 0, false, 0, .ownAlarm⟩ ∧ holds.cau.queue.length ≤ 16 ∧
      ∀ x ∈ holds.cau.queue, x.number ≠ own.number → isOwnAlarm x.req = false) := by decide

/-- A looped frame of each kind that LoopedAtOwner speaks of. -/
theorem witness_LastBitReleasesTheChannel_looped :
    let looped := fun (e : QueueEntry) (payload : List Byte) (s : State) =>
      inLoopback { inServiceOf e .sending s with fre := { s.fre with
        onAir := some ⟨e.req.kind, frameOf 1187 e.req.dest payload, []⟩ } }
    let relay := fun (k : FrameKind) => queued ⟨k, 0, 0, false, 1, .relay 5 10⟩
    (∀ x ∈ [(relay .alarm, encodeAlarm (alarmOf 5 10), ready),
        (relay .alarm, encodeAlarm (alarmOf 5 10), withAlarm ready),
        (relay .alarmClear, encodeAlarm (alarmOf 5 10), withAlarm ready),
        (clearEntry, encodeAlarm (alarmOf 1187 10), ready),
        (queued ⟨.bid, 0, 1, false, 0, .offer testId⟩, encodeBid (bidOf 600), ready),
        (replyEntry, [], withMsg { testMsg with reply := some ⟨1, 9, .sent⟩ } ready),
        (queued ⟨.fare, 3902, 3, true, 0, .fareRecord 0⟩, [], ready), (beaconEntry, [], ready)],
      let s := looped x.1 x.2.1 x.2.2
      s.running = true ∧ s.serviceEntry = some x.1 ∧ s.stc.loopback = true ∧ s.fre.onAir.isSome = true ∧
      x.1.number < s.cau.nextEntry) ∧
    (parseAlarm (encodeAlarm (alarmOf 5 10)) = some (alarmOf 5 10) ∧ isCab 5 = true ∧ ready.own ≠ 5 ∧
      parseAlarm (encodeAlarm (alarmOf 1187 10)) = some (alarmOf ready.own 10) ∧
      sourceAccepted .alarm 1187 = true ∧ sourceAccepted .alarmClear 1187 = true ∧
      newerSerial 10 testAlarm.lastSerial = true ∧ replyEntry.req.dest ≠ 0 ∧ replyEntry.req.dest ≠ ready.own ∧
      recordInFlight 0 { withLog 1 ready with tlu := { (withLog 1 ready).tlu with
        log := (withLog 1 ready).tlu.log.map fun r => { r with state := .inFlight } } } = true) := by
  decide +kernel

/-- A queue of fifteen frames `l` and one more, `w`. -/
def fullQueue (l w : QueueEntry) (s : State) : State :=
  { s with cau := { s.cau with queue := List.replicate 15 l ++ [w], nextEntry := 2 } }

/-- Full queues whose last frame is of a worse class than 0 and 1, of class 0, and of class 1 alone. -/
theorem witness_WouldBeDisplaced :
    let beacon := { beaconEntry with number := 1 }
    let bid := queued ⟨.bid, 0, 1, false, 0, .offer ⟨3902, 78⟩⟩
    let relay := queued ⟨.alarm, 0, 0, false, 1, .relay 6 1⟩
    let full := fun l w => fullQueue l w ready
    WouldBeDisplaced beacon (full bid beacon) ∧ WouldBeDisplaced relay (full relay relay) ∧
    WouldBeDisplaced bid (full relay bid) ∧ ClassesByKind (full bid beacon) ∧ ClassesByKind (full relay relay) ∧
    ClassesByKind (full relay bid) ∧
    (∀ s ∈ [full bid beacon, full relay relay, full relay bid], ∀ q ∈ s.cau.queue,
      isOwnAlarm q.req = false ∧ q.req.tag ≠ .offer testId ∧ q.req.tag ≠ .relay 5 9 ∧ q.req.cls ≤ 4) ∧
    (∀ q ∈ (full relay bid).cau.queue, q.req.kind ≠ .beacon) := by
  have shown : ∀ l w : QueueEntry, w.number < 2 → l.req.cls ≤ w.req.cls →
      WouldBeDisplaced w (fullQueue l w ready) := fun l w hw hc =>
    ⟨by simp [fullQueue], rfl, hw, List.replicate 15 l, [], rfl,
      fun q hq _ => by rw [List.eq_of_mem_replicate hq]; exact hc, by simp⟩
  refine ⟨shown _ _ (by decide) (by decide), shown _ _ (by decide) (by decide),
    shown _ _ (by decide) (by decide), ?_⟩
  unfold ClassesByKind
  decide +kernel

/-- The answers of R45 to R47: a waiting BID, one in service, and a FARE that stands. -/
theorem witness_BeaconAndRelayTimersAskForFrames_answers :
    let bid := queued ⟨.bid, 0, 1, false, 0, .offer testId⟩
    let fare := queued ⟨.fare, 3902, 3, true, 0, .fareRecord 0⟩
    let waits := withQueue bid ready
    let same := withQueue (queued ⟨.alarm, 0, 0, false, 1, .relay 5 9⟩) (withRelay .delay ready)
    (bid ∈ waits.cau.queue ∧ waits.isInService bid = false ∧ waits.cau.queue.length < 16 ∧
      (∀ x ∈ waits.cau.queue, x.req.kind ≠ .withdraw)) ∧
    (inServiceOf bid .sending ready).isInService bid = true ∧
    (withQueue fare ready).cau.queue.find? (·.req.kind = .fare) = some fare ∧
    (∃ q ∈ same.cau.queue, q.req.tag = .relay 5 9 ∧ q.req.kind = alarmFrameKind .alarm) := by
  decide +kernel

theorem witness_BeaconAndRelayTimersAskForFrames :
    let s := { ready with cau := { ready.cau with beaconLoaded := true } }
    let r := withRelay .delay ready
    (s.running = true ∧ s.cau.beaconCount = 0 ∧ s.cau.beaconLoaded = true ∧ s.lines.quiet = false ∧
      s.stc.fault = false ∧ s.cau.queue = []) ∧
    (∃ q ∈ (withQueue beaconEntry s).cau.queue, q.req.kind = .beacon) ∧
    (r.running = true ∧ r.relay? ⟨5, .alarm, 9⟩ = some (testRelay .delay) ∧
      (testRelay .delay).slotsLeft = 0 ∧ serialNewer ⟨5, .alarm, 9⟩ r = true ∧ r.cau.queue = []) ∧
    (quiet r).lines.quiet = true := by decide +kernel

theorem witness_AgesAndDeadlinesEndEntries :
    let n : Neighbour := ⟨5, 1, false, none, 0, 1⟩
    let s := { ready with
      nbt := { ready.nbt with neighbours := [n] }
      tlu := { ready.tlu with staging := some ⟨4, 2, 0, [(1, [1])], 70000⟩ } }
    let young := withMsg { testMsg with state := .assembling, assemblyAge := 30 } ready
    let old := withMsg { testMsg with validityLeft := some 0 } ready
    (s.running = true ∧ s.neighbour 5 = some n ∧ s.tlu.staging.isSome = true) ∧
    (StoreWf young ∧
      (young.msgNamed (.message 3902 57)).map (fun e => (e.state, e.assemblyAge)) =
        some (.assembling, 30)) ∧
    (StoreWf old ∧
      (old.msgNamed (.message 3902 57)).map (fun e => (e.state, e.validityLeft)) =
        some (.unread, some 0)) := by
  unfold StoreWf; decide +kernel

theorem witness_ContestDeadlinesAct :
    let waiting := { testOffer .waiting with delayDeadline := some 60057 }
    let sent := { testOffer .bid with bidFrame := .sent }
    (ready.running = true ∧ (withOffer waiting ready).offer? testId = some waiting ∧
      waiting.windowTaken = false ∧ ready.cau.queue = []) ∧
    ((withOffer sent ready).offer? testId = some sent ∧ sent.windowTaken = false ∧
      betterKnown ready.own sent = false ∧ ready.dtc.duty = .vacant) ∧
    (assigned.running = true ∧ (confirmingOffer assigned).map (·.jobTimer) = some (some 66000) ∧
      (confirmingOffer assigned).map (·.id) = some testId) ∧
    (pendingWon.running = true ∧ pendingWon.wonOffer?.map (·.jobTimer) = some (some 72000) ∧
      pendingWon.stc.power = .run ∧ pendingWon.dtc.duty = .pending) := by decide +kernel

theorem witness_ConsoleTimersAct :
    let s := withMsg testMsg { ready with cns := { ready.cns with
      dimSince := some 60000, stretchSince := some 60000, buzzer := some (.click, 60000),
      lamps := { ready.cns.lamps with ledMsg := .blink true 60000 } } }
    s.running = true ∧ s.cns.dimSince.isSome = true ∧ s.cns.stretchSince.isSome = true ∧
    s.cns.lamps.get .ledMsg = .blink true 60000 ∧ lampRule .ledMsg s = .blinking ∧
    s.cns.buzzer = some (.click, 60000) ∧ ready.cns.buzzer = none := by decide +kernel

theorem witness_AlarmButtonRaisesTheCall :
    let timed := fun (acted : Bool) (s : State) =>
      buttonDown { s with emu := { s.emu with holdTimer := some ⟨60000, acted⟩ } }
    let arming := timed false (inEmergency .arming ready)
    (ready.running = true ∧ ready.stc.fault = false ∧ ready.lines.alarmPressed = false) ∧
    (arming.running = true ∧ arming.stc.fault = false ∧ arming.lines.alarmPressed = true ∧
      arming.emu.state = .arming ∧ arming.emu.holdTimer = some ⟨60000, false⟩ ∧ PendingWf arming ∧
      arming.cau.queue = [] ∧ arming.ocu.offers = []) ∧
    PendingWf (timed false (inEmergency .arming pendingWon)) ∧
    ((timed false activeCall).emu.state = .active ∧ (timed false activeCall).emu.schedule.isSome = true) ∧
    (timed false (inEmergency .clearing ready)).emu.state = .clearing ∧
    (timed true activeCall).emu.holdTimer = some ⟨60000, true⟩ := by
  unfold PendingWf; decide +kernel

theorem witness_EmergencyTimersAct :
    let clearing := { inEmergency .clearing ready with
      emu := { Emu.reset with state := .clearing, clearDue := some 65000, clearsSent := 2 } }
    let s := { inServiceOf clearEntry .sending ready with emu := clearing.emu }
    let locked := { withAlarm activeCall with
      emu := { activeCall.emu with lockout := some (.running 90000), alarms := [testAlarm] } }
    (activeCall.running = true ∧ activeCall.stc.fault = false ∧ activeCall.emu.schedule.isSome = true ∧
      activeCall.cau.queue = []) ∧
    (clearing.running = true ∧ clearing.emu.clearDue = some 65000 ∧ clearing.cau.queue.length < 16 ∧
      clearing.cau.queue = []) ∧
    (s.running = true ∧ s.fre.ackTx = none ∧ s.serviceEntry = some clearEntry ∧
      s.stc.loopback = false ∧ clearEntry.req = ⟨.alarmClear, 0, 0, false, 0, .ownAlarm⟩ ∧
      s.emu.state = .clearing ∧ 2 ≤ s.emu.clearsSent ∧ s.lines.alarmPressed = false) ∧
    (locked.emu.lockout = some (.running 90000) ∧ locked.alarmEntry 5 = some testAlarm) := by decide

/-- Own frames that a due time meets: in service with a clear held, waiting of each kind. -/
theorem witness_EmergencyTimersAct_meets :
    let own := queued ⟨.alarm, 0, 0, false, 0, .ownAlarm⟩
    let clearing := fun s : State => { s with
      emu := { Emu.reset with state := .clearing, clearDue := some 65000, schedule := some ⟨.slow, 30000, 65000⟩ } }
    (∀ e ∈ [own, clearEntry], ∀ s ∈ [withQueue e activeCall, inServiceOf e .sending activeCall],
      (clearing s).running = true ∧ s.emu.schedule.isSome = true ∧ (clearing s).emu.clearDue = some 65000 ∧
      (clearing s).stc.fault = false ∧ s.cau.queue.find? (fun q => isOwnAlarm q.req) = some e) ∧
    (withQueue own activeCall).isInService own = false ∧
    (inServiceOf own .sending activeCall).isInService own = true := by decide

theorem witness_FramesDecodeAsEncoded :
    (15 ≤ 15 ∧ 255 ≤ 255 ∧ Header.wf ⟨65535, 3, true, 4095, 4095, 255, 7, true, true, 3, ⟨65535, 65535⟩⟩ =
      true) ∧
    (1 ≤ (msgPart 8 8).index ∧ (msgPart 8 8).index ≤ (msgPart 8 8).count ∧ (msgPart 8 8).count ≤ 8 ∧
      (msgPart 8 8).text.length ≤ 40) ∧
    ((bidOf 32767).id.dispatch ≤ 4095 ∧ (bidOf 32767).score ≤ 32767) ∧
    ((alarmOf 4095 0).position.wf = true ∧ (alarmOf 4095 0).job = none) := by decide

/-- A state of the road that keeps every property, and a step from it. -/
theorem witness_StepsKeepTheConsole :
    let s := after .lampTestEnd (inLampTest ready)
    s.running = true ∧ DisplayWf s ∧ ConsoleFollows s ∧ step s = .next (idle s) ∧ s.stc.power = .run ∧
    CountersWf s ∧ MeterWf s ∧ ViewFollows s := by
  refine ⟨by decide +kernel, by unfold DisplayWf RowWf; decide +kernel, fun _ => ⟨by decide +kernel, ?_, ?_⟩,
    rfl, by decide +kernel, by unfold CountersWf; decide +kernel,
    ⟨?_, (by intro t h; cases h), by decide +kernel, (by intro h e; cases e), by intro h e; cases e⟩,
    fun _ => ⟨by decide +kernel, (by intro v h; cases h), by intro h; cases h⟩⟩
  · intro lamp
    have rule : lampRule lamp (after .lampTestEnd (inLampTest ready)) =
        if lamp = .roofVacant then .lit else .dark := by cases lamp <;> decide +kernel
    have drive : (after .lampTestEnd (inLampTest ready)).cns.lamps.get lamp =
        if lamp = .roofVacant then .lit else .dark := by cases lamp <;> decide +kernel
    unfold LampFollows
    rw [rule, drive]
    cases lamp <;> rfl
  · decide +kernel
  · intro t h; cases h; unfold TariffSet.flagFallsBounded; decide +kernel

theorem witness_StepsKeepTheQueue :
    let s := inAccess .gap (withQueue beaconEntry ready)
    QueueWf s ∧ ClassesByKind s ∧ MaskWf s ∧ AccessFollows s ∧ step s = .next (idle s) := by
  refine ⟨?_, ?_, rfl, fun _ => ⟨rfl, Or.inl rfl⟩, rfl⟩
  · unfold QueueWf queuedBefore; decide
  · unfold ClassesByKind; decide

theorem witness_StepsKeepTheTables :
    let twoBids := { testOffer .waiting with heard := [⟨⟨600, 3, 5⟩, false⟩, ⟨⟨600, 3, 6⟩, true⟩] }
    let s := withRelay .delay (withAlarm (withMsg testMsg (withOffer twoBids (withLog 64 ready))))
    NbtWf s ∧ OffersWf s ∧ AlarmsWf s ∧ StoreWf s ∧ StoreKeysOnce s ∧ LogWf s ∧ step s = .next (idle s) := by
  refine ⟨?_, ?_, ?_, ?_, ?_, ?_, rfl⟩
  · unfold NbtWf; decide
  · unfold OffersWf; decide
  · unfold AlarmsWf; decide
  · unfold StoreWf; decide
  · unfold StoreKeysOnce; decide
  · unfold LogWf; decide +kernel

theorem witness_StepsKeepTheRecords :
    (PendingWf pendingWon ∧ NoContestInEmergency pendingWon ∧ RecordsWf assigned ∧ RecordsWf hired ∧
      NoContestInEmergency activeCall ∧ ScheduleWf activeCall) ∧
    step activeCall = .next (idle activeCall) := by
  refine ⟨?_, rfl⟩
  unfold PendingWf NoContestInEmergency RecordsWf ScheduleWf; decide

theorem witness_StepsKeepTheMeter :
    (MeterWf paying ∧ CountersWf paying) ∧ step paying = .next (idle paying) := by
  refine ⟨⟨⟨?_, ?_, by decide, ?_, ?_⟩, by unfold CountersWf; decide⟩, rfl⟩
  · intro t h; cases h; unfold TariffSet.flagFallsBounded; decide +kernel
  · intro t h; cases h
  · intro h e; cases e; unfold HireRecord.bounded; decide +kernel
  · intro h e; cases e; unfold HireRecord.bounded; decide +kernel

end Sys2Proof.Machine
end

section
/-! PROOFS. The length test of the receive engine, and the SHIFT key: what a key leaves before its act, what an
abandoned contest, a pending tariff set and a raised notice come to, and how a SHIFT record joins the log. -/

namespace Sys2Proof.Machine

open Sys2Proof

/-! ## The receive engine up to BODY (R29, R30) -/

/-- A frame that ends as bad leaves the engine hunting and one bad CRC more (R30, R31). -/
theorem endBad_eq (s : State) :
    endBad s = huntingAfter (fun c => { c with badCrc := min 255 (c.badCrc + 1) }) s := rfl

/-- In HUNT the window is taken, and the sync word leads to HEADER (R29). -/
theorem syncWordMatched_gives {s : State} (hr : s.running = true) (hunt : s.fre.rx = .hunt)
    (window : BitVec 16) :
    Gives (.syncWordMatched window) s
      (if window = syncWord then { s with fre := { s.fre with rx := .header, window := 0 } }
       else { s with fre := { s.fre with window := window } }) :=
  gives_of_whenRunning rfl hr (if_pos hunt)

/-- In HEADER the length tells whether the frame goes on to BODY or ends as bad (R30). -/
theorem headerComplete_gives {s : State} (hr : s.running = true) (header : s.fre.rx = .header)
    (h : FrameHead) (length : Nat) :
    Gives (.headerComplete h length) s
      (if length ≤ 64 then
        { s with fre := { s.fre with rx := .body, window := 0, gathering := some (h, length) } }
       else endBad s) :=
  gives_of_whenRunning rfl hr (if_pos header)

/-- In HEADER a length above 64 ends the frame as bad (R30). -/
theorem badLength_gives {s : State} (hr : s.running = true) (header : s.fre.rx = .header)
    {length : Nat} (long : 64 < length) : Gives (.badLength length) s (endBad s) :=
  gives_of_whenRunning rfl hr (if_pos (by simp [header, long]))

/-- Settles O32: each row of the header's gathering, in the state of the engine in which it arises. -/
theorem lengthTestLeadsToBodyOrHunt : Obligations.LengthTestLeadsToBodyOrHunt := by
  intro s hr
  refine ⟨fun window hunt => syncWordMatched_gives hr hunt window, fun h length header => ?_,
    fun length long header => ?_⟩
  · rw [← endBad_eq]
    exact headerComplete_gives hr header h length
  · rw [← endBad_eq]
    exact badLength_gives hr header long

/-! ## A key before its act -/

/-- A duty key is heard with nothing pending before its digit, and then its act runs (R171). -/
theorem acceptKey_dropPrefix {k : Key} {s : State} (act : State → State) (taken : keyTaken k s = true)
    (hv : viewKey k = false) :
    ∃ u, KeyHeard k none s u ∧ acceptKey k (fun s => act (dropPrefix s)) s = .next (finish (act u)) := by
  obtain ⟨u, heard, run⟩ := acceptKey_taken (fun s => act (dropPrefix s)) taken (.inr hv)
  exact ⟨dropPrefix u, heard.dropPrefix, run⟩

/-- What a key event leaves: everything but the clock and the console. -/
theorem KeyHeard.keeps {k : Key} {p : Option KeyPrefix} {s u : State} (h : KeyHeard k p s u) :
    u.lines = s.lines ∧ u.stc = s.stc ∧ u.dtc = s.dtc ∧ u.fre = s.fre ∧ u.cau = s.cau ∧ u.nbt = s.nbt ∧
    u.ocu = s.ocu ∧ u.fmr = s.fmr ∧ u.tlu = s.tlu ∧ u.mst = s.mst ∧ u.emu = s.emu := by
  obtain ⟨since, now, -, -, rfl⟩ := h
  exact ⟨rfl, rfl, rfl, rfl, rfl, rfl, rfl, rfl, rfl, rfl, rfl⟩

/-! ## Readers of single parts -/

theorem minute_congr {s t : State} (h : t.dtc = s.dtc) : t.minute = s.minute := by
  simp [State.minute, State.time, h]

theorem unreported_congr {s t : State} (h : t.tlu = s.tlu) : unreported t = unreported s := by
  simp [unreported, h]

theorem evictee_congr {s t : State} (h : t.mst = s.mst) : evictee t = evictee s := by
  simp [evictee, h]

theorem hasPlace_congr {s t : State} (h : t.mst = s.mst) : hasPlace t = hasPlace s := by
  simp [hasPlace, h, evictee_congr h]

/-! ## A pending tariff set (R127) -/

theorem applyPendingSet_tlu (s : State) :
    (applyPendingSet s).tlu =
      { s.tlu with active := s.tlu.pendingSet.or s.tlu.active, pendingSet := none } := by
  unfold applyPendingSet
  cases h : s.tlu.pendingSet with
  | some p => simp
  | none =>
    have same : s.tlu = { s.tlu with pendingSet := none } := by rw [← h]
    exact same

/-- A state whose sets are those of `applyPendingSet` has the pending set of `s` applied. -/
theorem appliesPendingSet_of_tlu {s t : State} (active : t.tlu.active = s.tlu.pendingSet.or s.tlu.active)
    (pending : t.tlu.pendingSet = none) : AppliesPendingSet s t := by
  refine ⟨pending, active.trans ?_⟩
  cases s.tlu.pendingSet <;> rfl

/-! ## Entry into VACANT (R8) -/

theorem toRun_power (s : State) : (toRun s).stc.power = .run := by
  unfold toRun
  cases h : s.stc.power with
  | run => exact h
  | park => simp

@[simp] theorem enterVacant_dtc (s : State) :
    (enterVacant s).dtc = { s.dtc with duty := .vacant, vacantSeconds := 0 } := by
  unfold enterVacant
  dsimp only
  split <;> simp

@[simp] theorem enterVacant_tlu (s : State) :
    (enterVacant s).tlu =
      { s.tlu with active := s.tlu.pendingSet.or s.tlu.active, pendingSet := none } := by
  unfold enterVacant
  dsimp only
  split <;> simp [applyPendingSet_tlu]

/-- From OFF_SHIFT and BREAK the entry into VACANT ends PARK (R8, R168). -/
theorem enterVacant_power {s : State} (h : s.dtc.duty = .offShift ∨ s.dtc.duty = .onBreak) :
    (enterVacant s).stc.power = .run := by
  unfold enterVacant
  dsimp only
  rw [if_pos (by simpa using h)]
  exact toRun_power _

/-! ## Contests abandoned (R9, R102) -/

/-- What a request leaves, it leaves whatever the offers are put to. -/
theorem Asked.withOffers {s t : State} (h : Asked s t) (o : Ocu) :
    Asked { s with ocu := o } { t with ocu := o } :=
  { h with ocu := rfl }

theorem abandonFrame_asked (e : OfferEntry) (s : State) : Asked s (abandonFrame e s) := by
  unfold abandonFrame
  cases e.bidFrame with
  | none => exact Asked.refl s
  | inQueue => exact removeFrame_asked _ _ s
  | sent => exact askContest_asked _ _ s

/-- Abandoning an entry does no more than a request, the offers aside. -/
theorem abandonOffer_asked (e : OfferEntry) (s : State) :
    Asked { s with ocu := (abandonOffer e s).ocu } (abandonOffer e s) := by
  unfold abandonOffer
  split
  · exact (abandonFrame_asked e (s.updOffer e.id OfferEntry.abandoned)).withOffers _
  · exact Asked.refl s

/-- Abandoning the contests does no more than a request, the offers aside. -/
theorem abandonContests_asked (s : State) :
    Asked { s with ocu := (abandonContests s).ocu } (abandonContests s) := by
  unfold abandonContests
  generalize s.ocu.offers = l
  induction l generalizing s with
  | nil => exact Asked.refl s
  | cons e l ih => exact ((abandonOffer_asked e s).withOffers _).trans (ih (abandonOffer e s))

/-- Every contest that runs belongs to an offer of the list, where its contest ran too. -/
def RunsOnlyIn (l : List OfferEntry) (s : State) : Prop :=
  ∀ x ∈ s.ocu.offers, x.state.running = true → ∃ e ∈ l, e.id = x.id ∧ e.state.running = true

/-- A request moves no contest. -/
theorem Asked.runsOnlyIn {s t : State} (h : Asked s t) {l : List OfferEntry} (hs : RunsOnlyIn l s) :
    RunsOnlyIn l t := by
  intro x hx hr
  obtain ⟨y, hy, heq⟩ := List.mem_map.mp (h.ocu ▸ List.mem_map_of_mem hx)
  injection heq with hid _ _ _ _ _ hstate
  rw [← hid]
  exact hs y hy (hstate ▸ hr)

/-- The offer abandoned is no longer among those whose contests run. -/
theorem abandonOffer_runsOnlyIn {e : OfferEntry} {l : List OfferEntry} {s : State}
    (hs : RunsOnlyIn (e :: l) s) : RunsOnlyIn l (abandonOffer e s) := by
  have others : ∀ x : OfferEntry, (∃ a ∈ e :: l, a.id = x.id ∧ a.state.running = true) →
      ¬(e.id = x.id ∧ e.state.running = true) → ∃ a ∈ l, a.id = x.id ∧ a.state.running = true := by
    rintro x ⟨a, ha, hrun⟩ hne
    rcases List.mem_cons.mp ha with rfl | ha
    · exact absurd hrun hne
    · exact ⟨a, ha, hrun⟩
  unfold abandonOffer
  split
  · refine (abandonFrame_asked e _).runsOnlyIn ?_
    intro x hx hr
    obtain ⟨y, hy, rfl⟩ := mem_updateWhere.mp hx
    by_cases hid : y.id = e.id
    · rw [if_pos (by simpa using hid)] at hr
      cases hr
    · rw [if_neg (by simpa using hid)] at hr ⊢
      exact others y (hs y hy hr) fun h => hid h.1.symm
  · rename_i hidle
    exact fun x hx hr => others x (hs x hx hr) fun h => hidle h.2

theorem foldl_abandonOffer_runsOnlyIn {l : List OfferEntry} {s : State} (hs : RunsOnlyIn l s) :
    RunsOnlyIn [] (l.foldl (fun s e => abandonOffer e s) s) := by
  induction l generalizing s with
  | nil => exact hs
  | cons e l ih => exact ih (abandonOffer_runsOnlyIn hs)

/-- After the contests are abandoned none runs. -/
theorem abandonContests_noContestRuns (s : State) : NoContestRuns (abandonContests s) := by
  have start : RunsOnlyIn s.ocu.offers s := fun x hx hr => ⟨x, hx, rfl, hr⟩
  intro x hx
  simpa using foldl_abandonOffer_runsOnlyIn start x hx

/-! ## Entry into BREAK and OFF_SHIFT (R9) -/

theorem enterIdleDuty_noContestRuns (d : DutyState) (s : State) : NoContestRuns (enterIdleDuty d s) := by
  intro e he
  exact abandonContests_noContestRuns (setDuty d s) e (by simpa [enterIdleDuty] using he)

@[simp] theorem enterIdleDuty_dtc (d : DutyState) (s : State) :
    (enterIdleDuty d s).dtc = { s.dtc with duty := d } := by
  simp [enterIdleDuty, setDuty]

/-- The abandoned contests' frames may put a record's report off (R136); the sets are those of R127. -/
theorem enterIdleDuty_tlu (d : DutyState) (s : State) :
    ∃ log hold, (enterIdleDuty d s).tlu = { s.tlu with
        active := s.tlu.pendingSet.or s.tlu.active, pendingSet := none, log := log, hold := hold } ∧
      log.map (fun r => (r.number, r.body)) = s.tlu.log.map fun r => (r.number, r.body) := by
  have asked := abandonContests_asked (setDuty d s)
  refine ⟨(abandonContests (setDuty d s)).tlu.log, (abandonContests (setDuty d s)).tlu.hold,
    (applyPendingSet_tlu _).trans ?_, asked.log⟩
  rw [asked.tlu]
  rfl

/-- The abandoned contests' frames may displace an ALARM_CLEAR, which is asked for again later (R48, R188). -/
theorem enterIdleDuty_emu (d : DutyState) (s : State) :
    ∃ due, (enterIdleDuty d s).emu = { s.emu with clearDue := due } := by
  have kept : (enterIdleDuty d s).emu = (abandonContests (setDuty d s)).emu := by simp [enterIdleDuty]
  exact ⟨_, kept.trans (abandonContests_asked (setDuty d s)).emu⟩

/-! ## The fare log (R133, R134, R138) -/

theorem length_removeFirst_lt {α : Type} {p : α → Bool} {l : List α} (h : ∃ a ∈ l, p a = true) :
    (removeFirst p l).length < l.length := by
  induction l with
  | nil => simp at h
  | cons a l ih =>
    unfold removeFirst
    split
    · exact Nat.lt_succ_self _
    · rename_i ha
      obtain ⟨b, hb, hp⟩ := h
      rcases List.mem_cons.mp hb with rfl | hb
      · exact absurd hp ha
      · exact Nat.succ_lt_succ (ih ⟨b, hb, hp⟩)

/-- A log of at most 64 records with fewer unreported ones takes one more (R133, R134). -/
theorem roomInLog_length_lt {s : State} (short : s.tlu.log.length ≤ 64) (room : unreported s < 64) :
    (roomInLog s.tlu.log).length < logCapacity := by
  unfold roomInLog
  split
  · assumption
  · rename_i full
    have reported : ∃ r ∈ s.tlu.log, decide (r.state = .reported) = true := by
      by_contra unreportedAll
      have all : s.tlu.log.filter (·.state ≠ .reported) = s.tlu.log :=
        List.filter_eq_self.mpr fun r hr => by
          simpa using fun h => unreportedAll ⟨r, hr, by simpa using h⟩
      unfold unreported at room
      rw [all] at room
      exact full room
    exact Nat.lt_of_lt_of_le (length_removeFirst_lt reported) short

/-- Where the log has room, a record appended stands in it under the next number, and no more is done than a
report test does (R133). -/
theorem appendRecord_asked (body : LogBody) {s : State} (room : (roomInLog s.tlu.log).length < logCapacity) :
    Asked { s with tlu := { s.tlu with
      log := roomInLog s.tlu.log ++ [{ number := s.tlu.nextRecord, body := body, state := .unsent }]
      nextRecord := s.tlu.nextRecord + 1 } } (appendRecord body s) := by
  unfold appendRecord
  rw [if_pos room]
  exact reportTest_asked _

/-- A record of one log stands, whatever its report state, in a log of the same numbers and bodies. -/
theorem record_of_log_map {l m : List LogRecord} {r : LogRecord} (hr : r ∈ l)
    (h : m.map (fun r => (r.number, r.body)) = l.map fun r => (r.number, r.body)) :
    ∃ x ∈ m, x.number = r.number ∧ x.body = r.body := by
  have hm : (r.number, r.body) ∈ m.map fun r => (r.number, r.body) :=
    h ▸ List.mem_map_of_mem (f := fun r : LogRecord => (r.number, r.body)) hr
  obtain ⟨x, hx, heq⟩ := List.mem_map.mp hm
  exact ⟨x, hx, congrArg Prod.fst heq, congrArg Prod.snd heq⟩

/-- The end of a shift zeroes the channel counters and nothing else of the frame engine (R41). -/
@[simp] theorem logShift_fre (s : State) :
    (logShift s).fre = { s.fre with counters := Counters.reset } := by
  simp [logShift]

/-- Where the log has room, the end of a shift leaves the SHIFT record in it under the next number, with the
counters as they stood before (R41, R138). -/
theorem logShift_leaves {s : State} (short : s.tlu.log.length ≤ 64) (room : unreported s < 64) :
    (∃ log hold, (logShift s).tlu =
        { s.tlu with log := log, hold := hold, nextRecord := s.tlu.nextRecord + 1 } ∧
      ∃ r ∈ log, r.number = s.tlu.nextRecord ∧ r.body = .shift (shiftReport s)) ∧
    ∃ due, (logShift s).emu = { s.emu with clearDue := due } := by
  have asked := appendRecord_asked (.shift (shiftReport s))
    (s := { s with fre := { s.fre with counters := Counters.reset } }) (roomInLog_length_lt short room)
  have record := record_of_log_map (List.mem_append_right _ (List.mem_singleton_self _)) asked.log
  exact ⟨⟨_, _, asked.tlu, record⟩, _, asked.emu⟩

/-! ## A raised notice (R16, R151) -/

/-- A notice raised in a store with a place stands at its head, unread. -/
theorem raiseNotice_head (key : NoticeKey) (pin : Bool) (text : List Byte) {s : State}
    (place : hasPlace s = true) :
    ∃ n rest, (raiseNotice key pin text s).mst.entries =
      { noticeEntry key pin text with entry := n } :: rest := by
  unfold raiseNotice
  split
  · exact ⟨_, _, rfl⟩
  · rw [if_pos place]
    exact ⟨_, _, rfl⟩

/-- A new record refused for want of room in the log raises LOG FULL where the store has a place (R16). -/
theorem refuseLogFull_notice {s : State} (place : hasPlace s = true) :
    ∃ e ∈ (refuseLogFull s).mst.entries, e.name = .notice .logFull ∧ e.state = .unread := by
  have same : (refuse s).mst = s.mst := by simp
  obtain ⟨n, rest, h⟩ := raiseNotice_head .logFull false (codes "LOG FULL")
    ((hasPlace_congr same).trans place)
  exact ⟨_, List.mem_of_mem_head? (by rw [refuseLogFull, noticeLogFull, h]; rfl), rfl, rfl⟩

/-! ## The SHIFT key (R2) -/

/-- SHIFT in OFF_SHIFT (R2, R8, R137). -/
theorem shift_startsTheShift {s : State} (taken : keyTaken .shift s = true) (off : s.dtc.duty = .offShift) :
    ∃ t, exec .shift s = .next t ∧ EntersVacant s t ∧
      t.tlu.totals = ⟨0, 0, 0, 0, 0, 0⟩ ∧ t.tlu.implausible = 0 ∧ t.tlu.shiftStart = s.minute ∧
      t.tlu.log = s.tlu.log ∧ t.stc.power = .run ∧ t.fre = s.fre ∧ t.nbt = s.nbt ∧ t.ocu = s.ocu ∧
      t.fmr = s.fmr ∧ t.emu = s.emu ∧ t.dtc.job = s.dtc.job := by
  obtain ⟨u, heard, run⟩ := acceptKey_dropPrefix shiftKey taken rfl
  obtain ⟨-, -, dtc, fre, -, nbt, ocu, fmr, tlu, -, emu⟩ := heard.keeps
  have act : shiftKey u = beginShift (enterVacant u) := by simp [shiftKey, dtc, off]
  have power : (enterVacant u).stc.power = .run := enterVacant_power (.inl (by rw [dtc, off]))
  have minute : (enterVacant u).minute = s.minute := by
    simp [State.minute, State.time, dtc]
  refine ⟨finish (beginShift (enterVacant u)), act ▸ run,
    ⟨?_, ?_, appliesPendingSet_of_tlu ?_ ?_⟩, ?_⟩
  all_goals simp [beginShift, ShiftTotals.zero, dtc, fre, nbt, ocu, fmr, tlu, emu, power, minute]

/-- A start zeroes the counters (R43). -/
theorem start_zeroesTheCounters {i : StartInput} {s : State} (arises : startArises i.event s = true)
    (power : powered (startLine i.event s) = true) :
    ∃ t, exec (.start i) s = .next t ∧ t.fre.counters = ⟨0, 0, 0, 0, 0⟩ := by
  have run : exec (.start i) s = .next (endPending (startValues i (startLine i.event s))) := by
    simp [exec, execStart, arises, power]
  refine ⟨_, run, ?_⟩
  have kept : (endPending (startValues i (startLine i.event s))).fre =
      (startValues i (startLine i.event s)).fre := by simp
  rw [kept]
  rfl

/-- SHIFT in VACANT with room for the record (R2, R9, R41, R138). -/
theorem shift_endsTheShift {s : State} (taken : keyTaken .shift s = true) (vacant : s.dtc.duty = .vacant)
    (short : s.tlu.log.length ≤ 64) (room : unreported s < 64) :
    ∃ t, exec .shift s = .next t ∧ t.dtc = { s.dtc with duty := .offShift } ∧
      (∃ r ∈ t.tlu.log, r.number = s.tlu.nextRecord ∧ r.body = .shift
        { startMinute := s.tlu.shiftStart, endMinute := s.minute, totals := s.tlu.totals,
          counters := s.fre.counters, implausible := s.tlu.implausible }) ∧
      t.fre = { s.fre with counters := ⟨0, 0, 0, 0, 0⟩ } ∧ t.tlu.totals = s.tlu.totals ∧
      t.tlu.implausible = s.tlu.implausible ∧ AppliesPendingSet s t ∧ NoContestRuns t ∧
      t.fmr = s.fmr ∧ t.emu = { s.emu with clearDue := t.emu.clearDue } := by
  obtain ⟨u, heard, run⟩ := acceptKey_dropPrefix shiftKey taken rfl
  obtain ⟨-, -, dtc, fre, -, -, -, fmr, tlu, -, emu⟩ := heard.keeps
  have room' : unreported u < 64 := by rwa [unreported_congr tlu]
  have act : shiftKey u = enterIdleDuty .offShift (logShift u) := by
    simp [shiftKey, dtc, vacant, endShift, takesShift, room']
  have report : shiftReport u =
      { startMinute := s.tlu.shiftStart, endMinute := s.minute, totals := s.tlu.totals,
        counters := s.fre.counters, implausible := s.tlu.implausible } := by
    simp [shiftReport, tlu, fre, minute_congr dtc]
  obtain ⟨⟨log, _, logged, r, hr, number, body⟩, _, clear⟩ := logShift_leaves (by rwa [tlu]) room'
  obtain ⟨log', _, left, same⟩ := enterIdleDuty_tlu .offShift (logShift u)
  obtain ⟨_, clear'⟩ := enterIdleDuty_emu .offShift (logShift u)
  obtain ⟨x, hx, number', body'⟩ := record_of_log_map (by rw [logged]; exact hr) same
  refine ⟨finish (enterIdleDuty .offShift (logShift u)), act ▸ run, ?_,
    ⟨x, ?_, number'.trans (number.trans (by rw [tlu])), body'.trans (body.trans (by rw [report]))⟩,
    ?_, ?_, ?_, appliesPendingSet_of_tlu ?_ ?_, ?_, ?_, ?_⟩
  · simp [dtc]
  · simpa [left] using hx
  · simp [fre, Counters.reset]
  · simp [left, logged, tlu]
  · simp [left, logged, tlu]
  · simp [left, logged, tlu]
  · simp [left]
  · simpa [NoContestRuns] using enterIdleDuty_noContestRuns .offShift (logShift u)
  · simp [fmr]
  · simp [clear', clear, emu]

/-- SHIFT in VACANT with every record unreported is refused (R16, R134). -/
theorem shift_refusedLogFull {s : State} (taken : keyTaken .shift s = true) (vacant : s.dtc.duty = .vacant)
    (full : ¬unreported s < 64) :
    ∃ t, exec .shift s = .next t ∧ t.dtc = s.dtc ∧ t.fre = s.fre ∧ t.tlu = s.tlu ∧ t.ocu = s.ocu ∧
      t.fmr = s.fmr ∧ t.nbt = s.nbt ∧ t.emu = s.emu ∧
      (hasPlace s = true → ∃ e ∈ t.mst.entries, e.name = .notice .logFull ∧ e.state = .unread) := by
  obtain ⟨u, heard, run⟩ := acceptKey_dropPrefix shiftKey taken rfl
  obtain ⟨-, -, dtc, fre, -, nbt, ocu, fmr, tlu, mst, emu⟩ := heard.keeps
  have act : shiftKey u = refuseLogFull u := by
    simp [shiftKey, dtc, vacant, endShift, takesShift, unreported_congr tlu, full]
  refine ⟨finish (refuseLogFull u), act ▸ run, ?_, ?_, ?_, ?_, ?_, ?_, ?_, fun place => ?_⟩
  · simp [refuseLogFull, dtc]
  · simp [refuseLogFull, fre]
  · simp [refuseLogFull, tlu]
  · simp [refuseLogFull, ocu]
  · simp [refuseLogFull, fmr]
  · simp [refuseLogFull, nbt]
  · simp [refuseLogFull, emu]
  · simpa using refuseLogFull_notice ((hasPlace_congr mst).trans place)

/-- Settles O18: a shift's start, every start's zeroed counters, and a shift's end by the room in the log. -/
theorem shiftKeyStartsAndEndsTheShift : Obligations.ShiftKeyStartsAndEndsTheShift :=
  ⟨fun _ taken off => shift_startsTheShift taken off,
    fun _ _ arises power => start_zeroesTheCounters arises power,
    fun _ taken vacant short =>
      ⟨fun room => shift_endsTheShift taken vacant short room,
        fun full => shift_refusedLogFull taken vacant full⟩⟩

end Sys2Proof.Machine
end

section
/-! PROOFS. The fare computation: what the two step counters of a segment count, and the payable amount at PAY
and at an extra. -/

namespace Sys2Proof.Machine

open Sys2Proof

/-! ## A step counter (R113) -/

/-- A step counter of a segment: the unit it is reloaded with, what is left to count, and the steps made. -/
structure StepCounter where
  unit  : Nat
  left  : Nat
  steps : Nat

/-- One metre or second counted. -/
def StepCounter.count (c : StepCounter) : StepCounter :=
  if c.left ≤ 1 then { c with left := c.unit, steps := c.steps + 1 } else { c with left := c.left - 1 }

theorem StepCounter.count_of_last {c : StepCounter} (last : c.left = 1) :
    c.count = ⟨c.unit, c.unit, c.steps + 1⟩ :=
  if_pos last.le

theorem StepCounter.count_of_more {c : StepCounter} (more : 1 < c.left) :
    c.count = ⟨c.unit, c.left - 1, c.steps⟩ :=
  if_neg (Nat.not_le.mpr more)

/-- A counter that counts has made one step for each unit completed past the first `left - unit`. -/
theorem StepCounter.iterate_count_steps (n : Nat) {c : StepCounter} (unit : 1 ≤ c.unit) (left : 1 ≤ c.left) :
    (StepCounter.count^[n] c).steps = c.steps + (n + c.unit - c.left) / c.unit := by
  induction n generalizing c with
  | zero =>
    have none : (0 + c.unit - c.left) / c.unit = 0 := Nat.div_eq_of_lt (by omega)
    rw [none]
    rfl
  | succ n ih =>
    rw [Function.iterate_succ_apply]
    rcases left.eq_or_lt with last | more
    · rw [count_of_last last.symm, ih (c := ⟨c.unit, c.unit, c.steps + 1⟩) unit unit, ← last]
      have reload : (n + 1 + c.unit - 1) / c.unit = n / c.unit + 1 := by
        rw [Nat.add_right_comm, Nat.add_sub_cancel, Nat.add_div_right n unit]
      simp only [reload, Nat.add_sub_cancel]
      omega
    · rw [count_of_more more, ih (c := ⟨c.unit, c.left - 1, c.steps⟩) unit (Nat.le_sub_one_of_lt more)]
      have same : n + c.unit - (c.left - 1) = n + 1 + c.unit - c.left := by omega
      simp only [same]

/-! ## The two counters of a segment (R113) -/

/-- The distance counter of a segment with its unit and steps. -/
def Segment.distanceSteps (g : Segment) : StepCounter := ⟨g.rates.ud, g.distanceCounter, g.nd⟩

/-- The time counter of a segment with its unit and steps. -/
def Segment.timeSteps (g : Segment) : StepCounter := ⟨g.rates.ut, g.timeCounter, g.nt⟩

theorem addMetre_of_last {g : Segment} (last : g.distanceCounter ≤ 1) :
    addMetre g = { g with ad := g.ad + 1, nd := g.nd + 1, distanceCounter := g.rates.ud } :=
  if_pos last

theorem addMetre_of_more {g : Segment} (more : ¬g.distanceCounter ≤ 1) :
    addMetre g = { g with ad := g.ad + 1, distanceCounter := g.distanceCounter - 1 } :=
  if_neg more

theorem addSecond_of_last {g : Segment} (last : g.timeCounter ≤ 1) :
    addSecond g = { g with at_ := g.at_ + 1, nt := g.nt + 1, timeCounter := g.rates.ut } :=
  if_pos last

theorem addSecond_of_more {g : Segment} (more : ¬g.timeCounter ≤ 1) :
    addSecond g = { g with at_ := g.at_ + 1, timeCounter := g.timeCounter - 1 } :=
  if_neg more

/-- A metre counts on the distance counter. -/
theorem distanceSteps_addMetre : Function.Semiconj Segment.distanceSteps addMetre StepCounter.count := by
  intro g
  by_cases last : g.distanceCounter ≤ 1
  · rw [addMetre_of_last last]
    exact (if_pos last).symm
  · rw [addMetre_of_more last]
    exact (if_neg last).symm

/-- A second counts on the time counter. -/
theorem timeSteps_addSecond : Function.Semiconj Segment.timeSteps addSecond StepCounter.count := by
  intro g
  by_cases last : g.timeCounter ≤ 1
  · rw [addSecond_of_last last]
    exact (if_pos last).symm
  · rw [addSecond_of_more last]
    exact (if_neg last).symm

theorem ad_addMetre : Function.Semiconj Segment.ad addMetre Nat.succ := by
  intro g
  unfold addMetre
  split <;> rfl

theorem at_addSecond : Function.Semiconj Segment.at_ addSecond Nat.succ := by
  intro g
  unfold addSecond
  split <;> rfl

theorem addMetres_eq_iterate (n : Nat) (g : Segment) : addMetres n g = addMetre^[n] g := by
  induction n generalizing g with
  | zero => rfl
  | succ n ih => exact ih (addMetre g)

theorem addMetres_ad (n : Nat) (g : Segment) : (addMetres n g).ad = g.ad + n := by
  rw [addMetres_eq_iterate, ad_addMetre.iterate_right n g, Nat.succ_iterate]

theorem addSecond_iterate_at (n : Nat) (g : Segment) : (addSecond^[n] g).at_ = g.at_ + n := by
  rw [at_addSecond.iterate_right n g, Nat.succ_iterate]

/-- The distance steps after `n` metres. -/
theorem addMetres_nd (n : Nat) {g : Segment} (unit : 1 ≤ g.rates.ud) (left : 1 ≤ g.distanceCounter) :
    (addMetres n g).nd = g.nd + (n + g.rates.ud - g.distanceCounter) / g.rates.ud := by
  have steps := StepCounter.iterate_count_steps n (c := g.distanceSteps) unit left
  rwa [← distanceSteps_addMetre.iterate_right n g, ← addMetres_eq_iterate] at steps

/-- The time steps after `n` seconds. -/
theorem addSecond_iterate_nt (n : Nat) {g : Segment} (unit : 1 ≤ g.rates.ut) (left : 1 ≤ g.timeCounter) :
    (addSecond^[n] g).nt = g.nt + (n + g.rates.ut - g.timeCounter) / g.rates.ut := by
  have steps := StepCounter.iterate_count_steps n (c := g.timeSteps) unit left
  rwa [← timeSteps_addSecond.iterate_right n g] at steps

/-! ## An opened segment and a charged interval (R107, R112, R113) -/

/-- In the first segment of a hire the distance steps are the units completed after the allowance. -/
theorem addMetres_openFirst_nd (id n : Nat) {r : Rates} (unit : 1 ≤ r.ud) :
    (addMetres n (openSegment id r true)).nd = (n - r.d0) / r.ud := by
  rw [addMetres_nd n unit (Nat.le_add_left_of_le unit)]
  simp [openSegment, Nat.add_sub_add_right]

/-- In a later segment the distance steps are the units completed. -/
theorem addMetres_openLater_nd (id n : Nat) {r : Rates} (unit : 1 ≤ r.ud) :
    (addMetres n (openSegment id r false)).nd = n / r.ud := by
  rw [addMetres_nd n unit unit]
  simp [openSegment]

/-- In the first segment of a hire the time steps are the units completed after the allowance. -/
theorem addSecond_iterate_openFirst_nt (id n : Nat) {r : Rates} (unit : 1 ≤ r.ut) :
    (addSecond^[n] (openSegment id r true)).nt = (n - r.t0) / r.ut := by
  rw [addSecond_iterate_nt n unit (Nat.le_add_left_of_le unit)]
  simp [openSegment, Nat.add_sub_add_right]

/-- In a later segment the time steps are the units completed. -/
theorem addSecond_iterate_openLater_nt (id n : Nat) {r : Rates} (unit : 1 ≤ r.ut) :
    (addSecond^[n] (openSegment id r false)).nt = n / r.ut := by
  rw [addSecond_iterate_nt n unit unit]
  simp [openSegment]

theorem addSecond_nt_le (g : Segment) : (addSecond g).nt ≤ g.nt + 1 := by
  by_cases last : g.timeCounter ≤ 1
  · rw [addSecond_of_last last]
  · rw [addSecond_of_more last]
    exact Nat.le_succ g.nt

/-- Metres leave the seconds charged and the time steps. -/
theorem addMetres_time (n : Nat) (g : Segment) : (addMetres n g).at_ = g.at_ ∧ (addMetres n g).nt = g.nt := by
  induction n generalizing g with
  | zero => exact ⟨rfl, rfl⟩
  | succ n ih =>
    obtain ⟨seconds, steps⟩ : (addMetre g).at_ = g.at_ ∧ (addMetre g).nt = g.nt := by
      unfold addMetre
      split <;> exact ⟨rfl, rfl⟩
    rw [← seconds, ← steps]
    exact ih (addMetre g)

/-- An interval adds one second and one time step at most, whichever mode it is charged in (R112). -/
theorem chargeSegment_time_le (second : Bool) (h : HireRecord) :
    (chargeSegment second h).at_ ≤ h.current.at_ + 1 ∧ (chargeSegment second h).nt ≤ h.current.nt + 1 := by
  cases mode : timeMode h.current.rates h.metres with
  | false =>
    obtain ⟨seconds, steps⟩ := addMetres_time h.metresAdded h.current
    rw [chargeSegment_distance second h mode, seconds, steps]
    exact ⟨Nat.le_succ _, Nat.le_succ _⟩
  | true =>
    rw [chargeSegment_time second h mode]
    split
    · exact ⟨(at_addSecond h.current).le, addSecond_nt_le h.current⟩
    · exact ⟨Nat.le_succ _, Nat.le_succ _⟩

/-- Settles O30: the count of an opened segment, one unit on each counter, and one interval. -/
theorem stepsCountCompletedUnits : Obligations.StepsCountCompletedUnits := by
  refine ⟨fun id r n ud ut => ⟨rfl, rfl, rfl, rfl, ?_, addMetres_openFirst_nd id n ud,
    addMetres_openLater_nd id n ud, ?_, addSecond_iterate_openFirst_nt id n ut,
    addSecond_iterate_openLater_nt id n ut⟩, fun g left => ?_, fun g left => ?_, chargeSegment_time_le true⟩
  · exact (addMetres_ad n _).trans (Nat.zero_add n)
  · exact (addSecond_iterate_at n _).trans (Nat.zero_add n)
  · exact if_congr left.ge_iff_eq' rfl rfl
  · exact if_congr left.ge_iff_eq' rfl rfl

/-! ## The payable amount (R116) -/

theorem payableOf_eq (r fare : Nat) :
    payableOf r fare =
      if 999999 < (2 * fare + r) / (2 * r) * r then 999999 / r * r else (2 * fare + r) / (2 * r) * r := rfl

/-- The nearest multiple of `r` stands within half of `r`, with halves up. -/
theorem nearestMultiple_bounds {r : Nat} (pos : 0 < r) (fare : Nat) :
    2 * ((2 * fare + r) / (2 * r) * r) ≤ 2 * fare + r ∧
    2 * fare + r < 2 * ((2 * fare + r) / (2 * r) * r) + 2 * r := by
  have below := Nat.div_mul_le_self (2 * fare + r) (2 * r)
  have above := Nat.lt_div_mul_add (a := 2 * fare + r) (Nat.mul_pos Nat.two_pos pos)
  rw [Nat.mul_left_comm] at below above
  exact ⟨below, above⟩

theorem payableOf_mod (r fare : Nat) : payableOf r fare % r = 0 := by
  rw [payableOf_eq]
  split <;> exact Nat.mul_mod_left _ _

theorem payableOf_le_cap (r fare : Nat) : payableOf r fare ≤ 999999 := by
  rw [payableOf_eq]
  split
  · exact Nat.div_mul_le_self _ _
  · omega

/-- The payable amount of a fare within the cap differs from it by less than `r`. -/
theorem payableOf_near {r fare : Nat} (pos : 0 < r) (cap : fare ≤ 999999) :
    payableOf r fare < fare + r ∧ fare < payableOf r fare + r := by
  obtain ⟨below, above⟩ := nearestMultiple_bounds pos fare
  rw [payableOf_eq]
  split
  · have capBelow := Nat.div_mul_le_self 999999 r
    have capAbove := Nat.lt_div_mul_add (a := 999999) pos
    omega
  · omega

/-! ## PAY (R115, R116) -/

theorem closeInterval_hire (second : Bool) {s : State} {h : HireRecord} (hire : s.fmr.hire = some h) :
    (closeInterval second s).fmr.hire = some (h.charged second) := by
  simp [closeInterval, hire]

/-- The meter stopped holds the hire with the payable amount of its fare. -/
theorem stopMeter_hire {s : State} {h : HireRecord} (hire : s.fmr.hire = some h) :
    ∃ p, (stopMeter s).fmr.hire = some p ∧ p.payable = some (payableOf h.rounding p.fare) := by
  unfold stopMeter
  cases s.stc.fault with
  | true => exact ⟨_, congrArg (Option.map _) hire, rfl⟩
  | false => exact ⟨_, congrArg (Option.map _) (closeInterval_hire false hire), rfl⟩

/-- PAY taken in HIRED (R4, R116). -/
theorem pay_computesThePayable {s : State} {h : HireRecord} (hire : s.fmr.hire = some h)
    (taken : keyTaken .pay s = true) (hired : s.dtc.duty = .hired) :
    ∃ t p, exec .pay s = .next t ∧ t.dtc.duty = .paying ∧ t.fmr.hire = some p ∧
      p.payable = some (payableOf h.rounding p.fare) := by
  obtain ⟨u, heard, run⟩ := acceptKey_dropPrefix payKey taken rfl
  obtain ⟨-, -, dtc, -, -, -, -, fmr, -⟩ := heard.keeps
  have act : payKey u = setDuty .paying (stopMeter u) := by simp [payKey, dtc, hired]
  obtain ⟨p, held, payable⟩ := stopMeter_hire (s := u) (by rw [fmr, hire])
  exact ⟨finish (setDuty .paying (stopMeter u)), p, act ▸ run, by simp [setDuty], by simpa using held, payable⟩

/-! ## An extra in PAYING (R120) -/

theorem withExtra_payable {h : HireRecord} (id : Nat) (payable : h.payable.isSome = true) :
    (h.withExtra id).payable = some (payableOf h.rounding (h.withExtra id).fare) := by
  obtain ⟨p, hp⟩ := Option.isSome_iff_exists.mp payable
  simp [HireRecord.withExtra, HireRecord.withFare, hp]

/-- An extra that is left is taken in HIRED and PAYING. -/
theorem extraDigit_taken {d : Nat} {s : State} {h : HireRecord} (hire : s.fmr.hire = some h)
    (duty : s.dtc.duty = .hired ∨ s.dtc.duty = .paying) (fault : s.stc.fault = false)
    (left : h.extraLeft d = true) :
    extraDigit d s = some { s with fmr := { s.fmr with hire := some (h.withExtra d) } } := by
  simp [extraDigit, hire, duty, fault, left]

/-- Without an emergency a digit after EXTRA or TARIFF goes to the meter alone (R171). -/
theorem digitRoute_pending {p : KeyPrefix} {s : State} (d : Fin 10) (pending : s.cns.keyPrefix = some p)
    (idle : (prefixDigit p d s).emu.state = .idle) : digitRoute d s = prefixDigit p d s := by
  simp [digitRoute, consoleDigit, pending, State.emergencyIdle, idle]

/-- The digit of an extra that is left, in PAYING without an emergency (R120). -/
theorem extra_computesThePayable {s : State} {h : HireRecord} {d : Fin 10} (hire : s.fmr.hire = some h)
    (payable : h.payable.isSome = true) (taken : keyTaken (.digit d) s = true) (idle : s.emu.state = .idle)
    (pending : s.cns.keyPrefix = some .extra) (paying : s.dtc.duty = .paying) (fault : s.stc.fault = false)
    (left : h.extraLeft d.val = true) :
    ∃ t p, exec (.digit d) s = .next t ∧ t.dtc.duty = .paying ∧ t.fmr.hire = some p ∧
      p.payable = some (payableOf h.rounding p.fare) := by
  obtain ⟨u, heard, run⟩ := acceptKey_taken (digitRoute d) taken (.inr rfl)
  obtain ⟨-, stc, dtc, -, -, -, -, fmr, -, -, emu⟩ := heard.keeps
  have heldPending : u.cns.keyPrefix = some .extra := by
    obtain ⟨_, _, -, -, rfl⟩ := heard
    exact pending
  have extra : prefixDigit .extra d u =
      dropPrefix { u with fmr := { u.fmr with hire := some (h.withExtra d.val) } } := by
    simp [prefixDigit, extraDigit_taken (s := u) (by rw [fmr, hire]) (.inr (by rw [dtc, paying]))
      (by rw [stc, fault]) left]
  have route : digitRoute d u = dropPrefix { u with fmr := { u.fmr with hire := some (h.withExtra d.val) } } :=
    (digitRoute_pending d heldPending (by simp [extra, emu, idle])).trans extra
  refine ⟨_, h.withExtra d.val, run, ?_, ?_, withExtra_payable d.val payable⟩
  · simp [route, dtc, paying]
  · simp [route]

/-- Settles O31: the formula of R116 with its bounds, and the two acts that compute it. -/
theorem payableIsTheRoundedFare : Obligations.PayableIsTheRoundedFare := by
  refine ⟨fun r fare rounding cap => ?_, fun _ _ hire taken hired => pay_computesThePayable hire taken hired,
    fun _ _ _ hire payable taken idle pending paying fault left =>
      extra_computesThePayable hire payable taken idle pending paying fault left⟩
  have pos : 0 < r := by omega
  exact ⟨payableOf_eq r fare, payableOf_mod r fare, payableOf_le_cap r fare, payableOf_near pos cap⟩

end Sys2Proof.Machine
end

section
/-! PROOFS. What follows every command: each step ends in the layout of its state, so the display, the lamps, the
park timer, the view shown and the access procedure follow it. -/

namespace Sys2Proof.Machine

open Sys2Proof

-- The kernel's checks run one after another: side by side they ask for more threads than there is room for.
set_option Elab.async false

/-! ## How a step ends -/

/-- `t` is `s` but for the two lines of a start, the display module's copy and the queue of commands, none of
which the console or the access procedure reads. -/
def SameButModule (s t : State) : Prop :=
  ∃ reset power module pending,
    t = { s with
      lines := { s.lines with resetAsserted := reset, mainPower := power }
      cns := { s.cns with module := module }
      pending := pending }

/-- The block does not run, and the display memory is as it was or blank. -/
def Halts (s t : State) : Prop :=
  t.running = false ∧ (t.cns.display = s.cns.display ∨ t.cns.display = blankDisplay)

/-- A command ends where the levels have followed, with the block not running, or with nothing of them changed. -/
def Ends (s t : State) : Prop := (∃ u, t = finish u) ∨ Halts s t ∨ SameButModule s t

theorem Ends.refl (s : State) : Ends s s :=
  .inr (.inr ⟨s.lines.resetAsserted, s.lines.mainPower, s.cns.module, s.pending, rfl⟩)

theorem ends_finish (s u : State) : Ends s (finish u) := .inl ⟨u, rfl⟩

/-- A command of the running block ends with what follows; of the halted one it leaves the display. -/
theorem ends_whenRunning {s v : State} (f : State → State) (display : v.cns.display = s.cns.display) :
    Ends s (whenRunning f v) := by
  cases h : v.running with
  | true =>
    rw [whenRunning_of_running f h]
    exact ends_finish s _
  | false =>
    rw [whenRunning_of_not_running f h]
    exact .inr (.inl ⟨h, .inl display⟩)

theorem ends_ite {s t u : State} {p : Prop} [Decidable p] (ht : Ends s t) (hu : Ends s u) :
    Ends s (if p then t else u) := by
  split
  · exact ht
  · exact hu

theorem ends_receiveFrame {kind : Nat} {f : AirFrame} {s t : State} (h : receiveFrame kind f s = .next t) :
    Ends s t := by
  injection h with h
  exact h ▸ ends_ite (ends_finish s _) (Ends.refl s)

theorem ends_acceptKey {k : Key} {act : State → State} {s t : State} (h : acceptKey k act s = .next t) :
    Ends s t := by
  injection h with h
  exact h ▸ ends_ite (ends_finish s _) (Ends.refl s)

/-! ## The display through a start -/

theorem setTarget_display (n : Nat) (s : State) : (setTarget n s).cns.display = s.cns.display := by
  unfold setTarget
  split <;> rfl

theorem toRun_display (s : State) :
    (toRun s).cns.display = s.cns.display ∧ (toRun s).stc.phase = s.stc.phase := by
  unfold toRun refreshTarget
  cases s.stc.power with
  | run => exact ⟨rfl, rfl⟩
  | park =>
    dsimp only
    split
    · exact ⟨setTarget_display _ _, by simp⟩
    · exact ⟨rfl, rfl⟩

theorem removeMsg_display (n : Nat) (s : State) : (removeMsg n s).cns.display = s.cns.display := by
  have free : (freeMsg n s).cns.display = s.cns.display := by
    unfold freeMsg
    dsimp only
    split <;> rfl
  unfold removeMsg
  split
  · rfl
  · dsimp only
    split
    · simp [free]
    · exact free

theorem takePlace_display (s : State) : (takePlace s).cns.display = s.cns.display := by
  unfold takePlace
  split
  · rfl
  · split
    · exact removeMsg_display _ s
    · rfl

theorem raiseNotice_display (key : NoticeKey) (pin : Bool) (text : List Byte) (s : State) :
    (raiseNotice key pin text s).cns.display = s.cns.display := by
  unfold raiseNotice
  split
  · simp [removeMsg_display]
  · split
    · simp [takePlace_display]
    · split
      · simp [removeMsg_display]
      · rfl

theorem applyPendingSet_display (s : State) : (applyPendingSet s).cns.display = s.cns.display := by
  unfold applyPendingSet
  split
  · exact raiseNotice_display _ _ _ _
  · rfl

theorem enterVacant_display (s : State) :
    (enterVacant s).cns.display = s.cns.display ∧ (enterVacant s).stc.phase = s.stc.phase := by
  unfold enterVacant
  dsimp only
  split
  · obtain ⟨display, phase⟩ := toRun_display
      (applyPendingSet { s with dtc := { s.dtc with duty := .vacant, vacantSeconds := 0 } })
    exact ⟨display.trans (applyPendingSet_display _), by simp [phase]⟩
  · exact ⟨applyPendingSet_display _, by simp⟩

theorem endPending_display (s : State) :
    (endPending s).cns.display = s.cns.display ∧ (endPending s).stc.phase = s.stc.phase := by
  unfold endPending
  split
  · exact enterVacant_display s
  · exact ⟨rfl, rfl⟩

theorem ends_start {i : StartInput} {s t : State} (h : exec (.start i) s = .next t) : Ends s t := by
  injection h with h
  subst h
  refine ends_ite ?_ (Ends.refl s)
  dsimp only
  split
  · obtain ⟨display, phase⟩ := endPending_display (startValues i (startLine i.event s))
    refine .inr (.inl ⟨?_, .inr display⟩)
    unfold State.running
    rw [phase]
    rfl
  · refine .inr (.inr ?_)
    unfold startLine
    cases i.event with
    | resetReleased => exact ⟨false, s.lines.mainPower, s.cns.module, s.pending, rfl⟩
    | powerReturned => exact ⟨s.lines.resetAsserted, true, s.cns.module, s.pending, rfl⟩

theorem halts_halt (s v : State) : Ends s (halt v) := .inr (.inl ⟨rfl, .inr rfl⟩)

theorem removeFrame_display (k : FrameKind) (g : Tag) (s : State) :
    (removeFrame k g s).cns.display = s.cns.display := by rw [(removeFrame_asked k g s).cns]

theorem expireMsg_display (n : Nat) (s : State) :
    (expireMsg n s).cns.display = s.cns.display ∧ (expireMsg n s).stc = s.stc := by
  unfold expireMsg
  split
  · exact ⟨rfl, rfl⟩
  · split
    · exact ⟨rfl, rfl⟩
    · exact ⟨removeMsg_display n s, by simp⟩

theorem endValidity_display (source : Station) (number : Serial) (s : State) :
    (endValidity source number s).cns.display = s.cns.display ∧ (endValidity source number s).stc = s.stc := by
  unfold endValidity
  split
  · split
    · exact expireMsg_display _ s
    · exact ⟨rfl, rfl⟩
  · exact ⟨rfl, rfl⟩

theorem halts_of_phase {s t : State} (phase : t.stc = s.stc) (notRunning : s.stc.phase ≠ .running)
    (display : t.cns.display = s.cns.display) : Halts s t :=
  ⟨by simp [State.running, phase, notRunning], .inl display⟩

theorem ends_oneSecondTick {s t : State} (h : exec .oneSecondTick s = .next t) : Ends s t := by
  injection h with h
  cases phase : s.stc.phase with
  | halted => rw [phase] at h; exact h ▸ Ends.refl s
  | lampTest =>
    rw [phase] at h
    exact h ▸ .inr (.inl (halts_of_phase rfl (by simp [phase]) rfl))
  | running => rw [phase] at h; exact h ▸ ends_finish s _

theorem ends_validityExpiry {source : Station} {number : Serial} {s t : State}
    (h : exec (.validityExpiry source number) s = .next t) : Ends s t := by
  injection h with h
  cases phase : s.stc.phase with
  | halted => rw [phase] at h; exact h ▸ Ends.refl s
  | lampTest =>
    rw [phase] at h
    obtain ⟨display, stc⟩ := endValidity_display source number s
    exact h ▸ .inr (.inl (halts_of_phase stc (by simp [phase]) display))
  | running => rw [phase] at h; exact h ▸ ends_finish s _

theorem ends_displayRefresh {s t : State} (h : exec .displayRefresh s = .next t) : Ends s t := by
  injection h with h
  exact h ▸ ends_ite (Ends.refl s)
    (.inr (.inr ⟨s.lines.resetAsserted, s.lines.mainPower, s.cns.display, s.pending, rfl⟩))

theorem ends_unassignedKind {kind : Nat} {f : AirFrame} {s t : State}
    (h : exec (.unassignedKind kind f) s = .next t) : Ends s t := by
  change (if _ then _ else _) = _ at h
  split at h
  · exact ends_receiveFrame h
  · injection h with h
    exact h ▸ Ends.refl s

theorem countAtCarrier_display (s : State) : (countAtCarrier s).cns.display = s.cns.display := by
  simp

theorem ends_cdAsserted {s t : State} (h : exec .cdAsserted s = .next t) : Ends s t := by
  injection h with h
  refine h ▸ ends_whenRunning id ?_
  split
  · exact countAtCarrier_display s
  · rfl

/-- How every command ends. -/
theorem exec_ends {c : Instr} {s t : State} (h : exec c s = .next t) : Ends s t := by
  cases c with
  | start i => exact ends_start h
  | oneSecondTick => exact ends_oneSecondTick h
  | validityExpiry source number => exact ends_validityExpiry h
  | displayRefresh => exact ends_displayRefresh h
  | unassignedKind kind f => exact ends_unassignedKind h
  | cdAsserted => exact ends_cdAsserted h
  | mainPowerLoss => injection h with h; exact h ▸ halts_halt s _
  | resetAsserted => injection h with h; exact h ▸ halts_halt s _
  | lampTestEnd => injection h with h; exact h ▸ ends_ite (ends_finish s _) (Ends.refl s)
  | quietAsserted => injection h with h; exact h ▸ ends_ite (Ends.refl s) (ends_whenRunning _ rfl)
  | quietReleased => injection h with h; exact h ▸ ends_ite (ends_whenRunning _ rfl) (Ends.refl s)
  | alarmPressed => injection h with h; exact h ▸ ends_ite (Ends.refl s) (ends_whenRunning _ rfl)
  | alarmReleased => injection h with h; exact h ▸ ends_ite (ends_whenRunning _ rfl) (Ends.refl s)
  | shift | hire | pay | vacant | onBreak | accept | decline | extra | tariffKey | digit _ | read | up | down
  | reply | clear => exact ends_acceptKey h
  | beacon _ | offer _ | bid _ | withdraw _ | take _ | release _ | confirm _ | msg _ | ack _ | fare _
  | tariff _ | alarm _ | alarmClear _ | alarmSeen _ => exact ends_receiveFrame h
  | _ => injection h with h; exact h ▸ ends_whenRunning _ rfl

/-- How every step ends. -/
theorem step_ends {s t : State} (h : step s = .next t) : Ends s t := by
  unfold step at h
  split at h
  · injection h with h
    exact h ▸ ends_whenRunning id rfl
  · rename_i c rest _
    rcases exec_ends h with ends | ⟨halted, display⟩ | ⟨r, p, m, q, rfl⟩
    · exact .inl ends
    · exact .inr (.inl ⟨halted, display⟩)
    · exact .inr (.inr ⟨r, p, m, q, rfl⟩)

end Sys2Proof.Machine
end

section
/-! PROOFS. What `finish` leaves: the display laid out, the lamps by their rules, the park timer, the view shown
with its pointer, and the access procedure, each as the state asks; and so every step keeps them. -/

namespace Sys2Proof.Machine

open Sys2Proof

-- The kernel's checks run one after another: side by side they ask for more threads than there is room for.
set_option Elab.async false

/-! ## Readers that what follows does not move -/

theorem Settled.lampRule {u t : State} (h : Settled u t) (lamp : Lamp) : lampRule lamp t = lampRule lamp u := by
  obtain ⟨_, _, _, _, _, _, _, rfl⟩ := h
  cases lamp <;> rfl

theorem Settled.viewShown {u t : State} (h : Settled u t) : viewShown t = viewShown u := by
  obtain ⟨_, _, _, _, _, _, _, rfl⟩ := h
  rfl

theorem Settled.pointerLimit {u t : State} (h : Settled u t) (v : View) : pointerLimit t v = pointerLimit u v := by
  obtain ⟨_, _, _, _, _, _, _, rfl⟩ := h
  cases v <;> rfl

theorem Settled.listEntryAt {u t : State} (h : Settled u t) (n : Nat) : listEntryAt t n = listEntryAt u n := by
  obtain ⟨_, _, _, _, _, _, _, rfl⟩ := h
  rfl

theorem Settled.parkConditions {u t : State} (h : Settled u t) : t.parkConditions = u.parkConditions := by
  obtain ⟨_, _, _, _, _, _, _, rfl⟩ := h
  rfl

/-! ## The display (R158) -/

theorem finish_display (s : State) : (finish s).cns.display = displayNow (finish s) := rfl

theorem printable_range (b : Byte) : 0x20#8 ≤ printable b ∧ printable b ≤ 0x7E#8 := by
  unfold printable
  split
  · assumption
  · decide

theorem rowWf_of {r : List Byte} (length : r.length = 24) (codes : ∀ b ∈ r, ∃ c, b = printable c) : RowWf r :=
  ⟨length, fun b hb => by obtain ⟨c, rfl⟩ := codes b hb; exact printable_range c⟩

theorem row_length (l : List Byte) : (row l).length = 24 := by
  simp [row, blanks]

/-- Every row laid out holds 24 printable codes. -/
theorem rowWf_row (l : List Byte) : RowWf (row l) := by
  refine rowWf_of (row_length l) fun b hb => ?_
  rcases List.mem_append.mp hb with hb | hb
  · obtain ⟨c, -, rfl⟩ := List.mem_map.mp hb
    exact ⟨c, rfl⟩
  · exact ⟨blank, (List.eq_of_mem_replicate hb).trans (by decide)⟩

theorem rowWf_emptyRow : RowWf emptyRow :=
  rowWf_of List.length_replicate fun _ hb => ⟨blank, (List.eq_of_mem_replicate hb).trans (by decide)⟩

/-- The lines of the scroll area before it is filled up. -/
def scrollLines (s : State) : List (List Byte) :=
  match viewShown s with
  | some v => (((viewLines s v).drop (s.cns.pointers.get v)).take (scrollRows s)).map row
  | none => []

theorem scrollArea_eq (s : State) :
    scrollArea s = scrollLines s ++ List.replicate (scrollRows s - (scrollLines s).length) emptyRow := rfl

theorem scrollLines_length_le (s : State) : (scrollLines s).length ≤ scrollRows s := by
  unfold scrollLines
  split
  · rw [List.length_map]
    exact List.length_take_le _ _
  · exact Nat.zero_le _

theorem scrollArea_length (s : State) : (scrollArea s).length = scrollRows s := by
  rw [scrollArea_eq, List.length_append, List.length_replicate]
  exact Nat.add_sub_cancel' (scrollLines_length_le s)

theorem pinnedRows_length (s : State) : (pinnedRows s).length = min 2 s.pinned.length := by
  simp [pinnedRows]

theorem scrollRows_eq (s : State) : scrollRows s = 6 - (pinnedRows s).length := by
  simp [scrollRows, pinnedRows]

theorem displayNow_wf (s : State) : (displayNow s).length = 8 ∧ ∀ r ∈ displayNow s, RowWf r := by
  unfold displayNow
  cases s.stc.power with
  | run =>
    dsimp only
    constructor
    · simp only [List.length_append, List.length_cons, List.length_nil, scrollArea_length, scrollRows_eq]
      have := pinnedRows_length s
      omega
    · intro r hr
      simp only [List.mem_append, List.mem_cons, List.not_mem_nil, or_false, scrollArea_eq] at hr
      rcases hr with ((hr | hr) | hr | hr) | hr
      · exact hr ▸ rowWf_row _
      · obtain ⟨e, -, rfl⟩ := List.mem_map.mp hr
        exact rowWf_row _
      · unfold scrollLines at hr
        split at hr
        · obtain ⟨l, -, rfl⟩ := List.mem_map.mp hr
          exact rowWf_row l
        · cases hr
      · exact List.eq_of_mem_replicate hr ▸ rowWf_emptyRow
      · subst hr
        unfold legendRow
        split <;> exact rowWf_row _
  | park =>
    dsimp only
    split
    · refine ⟨rfl, fun r hr => ?_⟩
      rcases List.mem_cons.mp hr with rfl | hr
      · exact rowWf_row _
      · exact List.eq_of_mem_replicate hr ▸ rowWf_emptyRow
    · exact ⟨rfl, fun r hr => List.eq_of_mem_replicate hr ▸ rowWf_emptyRow⟩

theorem finish_displayWf (s : State) : DisplayWf (finish s) := displayNow_wf (finish s)

theorem displayWf_of_blank {s : State} (h : s.cns.display = blankDisplay) : DisplayWf s := by
  unfold DisplayWf
  rw [h]
  exact ⟨rfl, fun r hr => List.eq_of_mem_replicate hr ▸ rowWf_emptyRow⟩

theorem step_keeps_displayWf : KeptByStep DisplayWf := by
  intro s t wf h
  rcases step_ends h with ⟨u, rfl⟩ | ⟨-, same | blank⟩ | ⟨_, _, _, _, rfl⟩
  · exact finish_displayWf u
  · unfold DisplayWf
    rwa [same]
  · exact displayWf_of_blank blank
  · exact wf

/-! ## The lamps (R172) -/

/-- A lamp driven by its rule. -/
def DrivenBy (rule : LampRule) (d : LampDrive) : Prop :=
  match rule with
  | .dark => d = .dark
  | .lit => d = .lit
  | .blinking => ∃ on since, d = .blink on since

theorem drivenBy_drive (now : Moment) (rule : LampRule) (cur : LampDrive) : DrivenBy rule (drive now rule cur) := by
  cases rule with
  | dark => exact rfl
  | lit => exact rfl
  | blinking =>
    cases cur with
    | blink on since => exact ⟨on, since, rfl⟩
    | dark => exact ⟨true, now, rfl⟩
    | lit => exact ⟨true, now, rfl⟩

theorem lampFollows_iff (lamp : Lamp) (s : State) :
    LampFollows lamp s ↔ DrivenBy (lampRule lamp s) (s.cns.lamps.get lamp) := by
  unfold LampFollows DrivenBy
  cases lampRule lamp s <;> exact Iff.rfl

theorem followLamps_follows (lamp : Lamp) (s : State) : LampFollows lamp (followLamps s) := by
  rw [lampFollows_iff, (followLamps_settled s).lampRule lamp]
  cases lamp <;> exact drivenBy_drive _ _ _

theorem followView_lamps (s : State) : (followView s).cns.lamps = s.cns.lamps := by
  unfold followView
  split <;> rfl

theorem finish_lampFollows (lamp : Lamp) (s : State) : LampFollows lamp (finish s) := by
  rw [lampFollows_iff]
  have rest := (followView_settled (followLamps (followPark (settleAccess s)))).trans (layOut_settled _)
  have lamps : (finish s).cns.lamps = (followLamps (followPark (settleAccess s))).cns.lamps :=
    followView_lamps _
  rw [lamps, show lampRule lamp (finish s) = _ from rest.lampRule lamp, ← lampFollows_iff]
  exact followLamps_follows lamp _

/-! ## The park timer (R199) -/

theorem followPark_parkSince (s : State) :
    (followPark s).stc.parkSince.isSome = true ↔ s.stc.power = .run ∧ s.parkConditions = true := by
  unfold followPark
  split
  · rename_i h
    have both : s.stc.power = .run ∧ s.parkConditions = true := by simpa using h
    split <;> simp_all
  · rename_i h
    simpa using h

theorem finish_parkSince (s : State) :
    (finish s).stc.parkSince.isSome = true ↔
      (finish s).stc.power = .run ∧ (finish s).parkConditions = true := by
  have park : (finish s).stc.parkSince = (followPark (settleAccess s)).stc.parkSince := by
    simp [finish]
  rw [park, followPark_parkSince, (finish_settled s).parkConditions, (settleAccess_settled s).parkConditions]
  simp

theorem finish_consoleFollows (s : State) : ConsoleFollows (finish s) :=
  fun _ => ⟨finish_display s, fun lamp => finish_lampFollows lamp s, finish_parkSince s⟩

theorem step_keeps_consoleFollows : KeptByStep ConsoleFollows := by
  intro s t follows h
  rcases step_ends h with ⟨u, rfl⟩ | ⟨halted, -⟩ | ⟨_, _, _, _, rfl⟩
  · exact finish_consoleFollows u
  · exact fun running => absurd running (by rw [halted]; decide)
  · intro running
    obtain ⟨display, lamps, park⟩ := follows running
    refine ⟨display, fun lamp => (lampFollows_iff lamp _).mpr ?_, park⟩
    have rule := (lampFollows_iff lamp s).mp (lamps lamp)
    cases lamp <;> exact rule

/-! ## The view shown (R161, R164) -/

theorem Pointers.get_set (p : Pointers) (v : View) (n : Nat) : (p.set v n).get v = n := by
  cases v <;> rfl

/-- The line of an entry of the message list lies within it. -/
theorem listLineOf_le {s : State} {n line : Nat} (h : listLineOf s n = some line) :
    line ≤ pointerLimit s .list := by
  obtain ⟨within, -⟩ := List.findIdx?_eq_some_iff_findIdx_eq.mp h
  exact Nat.le_sub_one_of_lt within

theorem pointerNow_le (s : State) (v : View) : pointerNow s v ≤ pointerLimit s v := by
  have other : ∀ n : Nat, (if s.cns.shown = some v then min n (pointerLimit s v) else 0) ≤ pointerLimit s v := by
    intro n
    split
    · exact Nat.min_le_right _ _
    · exact Nat.zero_le _
  cases v with
  | list =>
    unfold pointerNow
    dsimp only
    split
    · split
      · rename_i line h
        obtain ⟨n, -, hline⟩ := Option.bind_eq_some_iff.mp h
        exact listLineOf_le hline
      · exact Nat.min_le_right _ _
    · exact Nat.zero_le _
  | meter => exact other _
  | offer => exact other _
  | job => exact other _
  | totals => exact other _
  | message => exact other _
  | menu => exact other _

theorem followView_shows (s : State) :
    (followView s).cns.shown = viewShown s ∧
    (∀ v, viewShown s = some v → (followView s).cns.pointers.get v ≤ pointerLimit s v) ∧
    (viewShown s = some .list →
      (followView s).cns.selection = listEntryAt s (followView s).cns.pointers.list) := by
  unfold followView
  cases h : viewShown s with
  | none => exact ⟨rfl, fun _ hv => (by cases hv), fun hv => (by cases hv)⟩
  | some v =>
    refine ⟨rfl, fun w hw => ?_, fun hw => ?_⟩
    · cases hw
      exact (Pointers.get_set _ _ _).trans_le (pointerNow_le s v)
    · cases hw
      rfl

theorem finish_viewFollows (s : State) : ViewFollows (finish s) := by
  intro _
  have settled := (followView_settled (followLamps (followPark (settleAccess s)))).trans (layOut_settled _)
  change Settled _ (finish s) at settled
  obtain ⟨shown, pointers, selection⟩ := followView_shows (followLamps (followPark (settleAccess s)))
  rw [settled.viewShown]
  refine ⟨shown, fun v hv => ?_, fun hv => ?_⟩
  · rw [settled.pointerLimit]
    exact pointers v hv
  · rw [settled.listEntryAt]
    exact selection hv

theorem step_keeps_viewFollows : KeptByStep ViewFollows := by
  intro s t follows h
  rcases step_ends h with ⟨u, rfl⟩ | ⟨halted, -⟩ | ⟨_, _, _, _, rfl⟩
  · exact finish_viewFollows u
  · exact fun running => absurd running (by rw [halted]; decide)
  · intro running
    obtain ⟨shown, pointers, selection⟩ := follows running
    exact ⟨shown, fun v hv => (pointers v hv).trans_eq (by cases v <;> rfl), selection⟩

/-! ## The access procedure (R51 to R53, R56, R59) -/

theorem Settled.bestEntry {u t : State} (h : Settled u t) : bestEntry t = bestEntry u := by
  obtain ⟨_, _, _, _, _, _, _, rfl⟩ := h
  rfl

theorem Settled.inhibited {u t : State} (h : Settled u t) : t.inhibited = u.inhibited := by
  obtain ⟨_, _, _, _, _, _, _, rfl⟩ := h
  rfl

theorem Settled.channelBusy {u t : State} (h : Settled u t) : t.channelBusy = u.channelBusy := by
  obtain ⟨_, _, _, _, _, _, _, rfl⟩ := h
  rfl

theorem finish_accessFollows (s : State) : AccessFollows (finish s) := by
  intro _
  rw [(finish_settled s).bestEntry, (finish_settled s).inhibited, (finish_settled s).channelBusy]
  simp only [finish_access, finish_fields]
  cases service : s.cau.inService with
  | some r => simp [settledAccess, service]
  | none =>
    cases best : bestEntry s with
    | none =>
      unfold settledAccess
      simp only [service, best, Option.isSome_none, Bool.false_eq_true, if_false]
      split
      · rename_i inhibit
        exact ⟨rfl, .inr ⟨rfl, by simp at inhibit; exact inhibit.1⟩⟩
      · exact ⟨rfl, .inl rfl⟩
    | some e =>
      unfold settledAccess deferFor
      simp only [service, best, Option.isSome_none, Bool.false_eq_true, if_false]
      cases s.inhibited <;> cases s.channelBusy <;> cases phase : s.cau.access.phase <;> simp
      all_goals split <;> simp_all

theorem step_keeps_accessFollows : KeptByStep AccessFollows := by
  intro s t follows h
  rcases step_ends h with ⟨u, rfl⟩ | ⟨halted, -⟩ | ⟨_, _, _, _, rfl⟩
  · exact finish_accessFollows u
  · exact fun running => absurd running (by rw [halted]; decide)
  · exact follows

end Sys2Proof.Machine
end

section
/-! PROOFS. What the display and the lamps show where they follow the state: the layout's texts are those of
R159, R160, R162 and R165, and the lamps' rules those of R172 and R173. -/

namespace Sys2Proof.Machine

open Sys2Proof

-- The kernel's checks run one after another: side by side they ask for more threads than there is room for.
set_option Elab.async false

/-! ## The lamps (R172, R173) -/

theorem drivenBy_ite_lit {c : Prop} [Decidable c] {d : LampDrive} (h : DrivenBy (if c then .lit else .dark) d) :
    d = if c then .lit else .dark := by
  split at h <;> simpa [DrivenBy, *] using h

theorem drivenBy_ite_blinking {c : Prop} [Decidable c] {d : LampDrive}
    (h : DrivenBy (if c then .blinking else .dark) d) : if c then d.blinks else d = .dark := by
  split at h <;> simpa [DrivenBy, LampDrive.blinks, *] using h

theorem anyUnread_iff (s : State) : anyUnread s = true ↔ ∃ e ∈ s.mst.entries, e.state = .unread := by
  simp [anyUnread]

/-- Within tACCEPT's last five seconds LED_OFFER blinks, and before them it is lit (R172). -/
theorem ledOffer_of_won {s : State} {e : OfferEntry} {due : Moment} (power : s.stc.power = .run)
    (duty : s.dtc.duty = .pending) (won : s.wonOffer? = some e) (timer : e.jobTimer = some due)
    (follows : DrivenBy (lampRule .ledOffer s) s.cns.lamps.ledOffer) :
    (s.now + 5000 < due → s.cns.lamps.ledOffer = .lit) ∧
    (due ≤ s.now + 5000 → s.cns.lamps.ledOffer.blinks) := by
  have left : acceptLeftMs s = some (due - s.now) := by simp [acceptLeftMs, won, timer]
  have rule : lampRule .ledOffer s = if due ≤ s.now + 5000 then .blinking else .lit := by
    simp [lampRule, power, duty, left, Nat.add_comm s.now]
  rw [rule] at follows
  constructor
  · intro early
    rwa [if_neg (Nat.not_le.mpr early)] at follows
  · intro late
    rwa [if_pos late] at follows

theorem lampsShow_of_follows {s : State} (follows : ∀ lamp, LampFollows lamp s) : LampsShow s := by
  have driven := fun lamp => (lampFollows_iff lamp s).mp (follows lamp)
  refine ⟨?_, ?_, ?_, ?_, fun e due power duty won timer =>
    ledOffer_of_won power duty won timer (driven .ledOffer), fun other => ?_⟩
  · simpa [Lamps.get] using drivenBy_ite_lit (driven .roofVacant)
  · simpa [Lamps.get] using drivenBy_ite_blinking (driven .roofAlarm)
  · simpa [Lamps.get] using drivenBy_ite_lit (driven .ledRadio)
  · simpa [Lamps.get, anyUnread_iff] using drivenBy_ite_blinking (driven .ledMsg)
  · have rule : lampRule .ledOffer s = .dark := by
      simp only [lampRule, Bool.and_eq_true, decide_eq_true_eq]
      exact if_neg other
    have dark := driven .ledOffer
    rwa [rule] at dark

/-! ## Numbers in their columns (R159) -/

theorem digitsFrom_succ (fuel n : Nat) (acc : List Byte) :
    digitsFrom (fuel + 1) n acc =
      if n / 10 = 0 then digitCell n :: acc else digitsFrom fuel (n / 10) (digitCell n :: acc) := rfl

/-- A number below ten takes one digit. -/
theorem digitsFrom_last {n : Nat} (h : n < 10) (fuel : Nat) (acc : List Byte) :
    digitsFrom (fuel + 1) n acc = digitCell n :: acc :=
  (digitsFrom_succ fuel n acc).trans (if_pos (by omega))

/-- From ten on the last digit is put in front, and the rest follows. -/
theorem digitsFrom_more {n : Nat} (h : 10 ≤ n) (fuel : Nat) (acc : List Byte) :
    digitsFrom (fuel + 1) n acc = digitsFrom fuel (n / 10) (digitCell n :: acc) :=
  (digitsFrom_succ fuel n acc).trans (if_neg (by omega))

/-- Units and cents of an amount below a million cents: one to four digits before the point. -/
theorem dec_below_10000 {n : Nat} (h : n < 10000) :
    dec n =
      if n < 10 then [digitCell n]
      else if n < 100 then [digitCell (n / 10), digitCell n]
      else if n < 1000 then [digitCell (n / 100), digitCell (n / 10), digitCell n]
      else [digitCell (n / 1000), digitCell (n / 100), digitCell (n / 10), digitCell n] := by
  unfold dec
  by_cases h1 : n < 10
  · rw [if_pos h1, digitsFrom_last h1]
  rw [if_neg h1, digitsFrom_more (by omega)]
  by_cases h2 : n < 100
  · rw [if_pos h2, digitsFrom_last (by omega)]
  rw [if_neg h2, digitsFrom_more (by omega), Nat.div_div_eq_div_mul]
  by_cases h3 : n < 1000
  · rw [if_pos h3, digitsFrom_last (by omega)]
  rw [if_neg h3, digitsFrom_more (by omega), Nat.div_div_eq_div_mul, digitsFrom_last (by omega)]

theorem digitCell_congr {m n : Nat} (h : m % 10 = n % 10) : digitCell m = digitCell n := by
  unfold digitCell
  rw [h]

theorem dec2_eq (n : Nat) : dec2 n = [digitCell (n / 10), digitCell n] := rfl

/-- An amount within the fare cap fills its eight columns (R159). -/
theorem rightAligned_money {cents : Nat} (h : cents ≤ 999999) :
    rightAligned 8 (money cents) = amountCells cents := by
  have tens : dec2 (cents % 100) = [digitCell (cents / 10), digitCell cents] := by
    rw [dec2_eq, digitCell_congr (show cents % 100 / 10 % 10 = cents / 10 % 10 by omega),
      digitCell_congr (show cents % 100 % 10 = cents % 10 by omega)]
  have place : ∀ k, cents / 100 / k = cents / (100 * k) := fun k => Nat.div_div_eq_div_mul cents 100 k
  unfold money amountCells
  rw [dec_below_10000 (show cents / 100 < 10000 by omega), tens, place, place, place]
  by_cases h1 : cents < 1000
  · rw [if_pos (by omega)]
    simp only [show ¬100000 ≤ cents by omega, show ¬10000 ≤ cents by omega, show ¬1000 ≤ cents by omega, if_false]
    rfl
  rw [if_neg (by omega)]
  by_cases h2 : cents < 10000
  · rw [if_pos (by omega)]
    simp only [show ¬100000 ≤ cents by omega, show ¬10000 ≤ cents by omega, show 1000 ≤ cents by omega, if_false,
      if_true]
    rfl
  rw [if_neg (by omega)]
  by_cases h3 : cents < 100000
  · rw [if_pos (by omega)]
    simp only [show ¬100000 ≤ cents by omega, show 10000 ≤ cents by omega, show 1000 ≤ cents by omega, if_false,
      if_true]
    rfl
  rw [if_neg (by omega)]
  simp only [show 100000 ≤ cents by omega, show 10000 ≤ cents by omega, show 1000 ≤ cents by omega, if_true]
  rfl

/-- The time of day in its eight columns (R159). -/
theorem clockText_eq (t : Nat) :
    rightAligned 8 (clockMinutes t ++ codes ":" ++ dec2 (t % 60)) = clockCells (some t) := by
  unfold clockMinutes clockCells
  rw [dec2_eq, dec2_eq, dec2_eq, Nat.div_div_eq_div_mul,
    digitCell_congr (show t / 60 % 60 / 10 % 10 = t % 3600 / 600 % 10 by omega),
    digitCell_congr (show t / 60 % 60 % 10 = t % 3600 / 60 % 10 by omega)]
  rfl

/-! ## Rows (R158) -/

/-- A row shows its text. -/
theorem shows_row (l : List Byte) : Shows (row l) l := by
  refine ⟨row_length l, fun j hj => ?_⟩
  unfold row
  by_cases h : j < l.length
  · rw [List.getElem?_append_left (by simp; omega), List.getElem?_map, List.getElem?_take_of_lt hj,
      List.getElem?_eq_getElem h]
    rfl
  · rw [List.getElem?_append_right (by simp; omega), List.getElem?_eq_none (Nat.not_lt.mp h)]
    unfold blanks
    rw [List.getElem?_replicate_of_lt (by simp; omega)]
    rfl

theorem shows_emptyRow : Shows emptyRow [] := shows_row []

/-! ## The status row (R159) -/

theorem hire_fare_le {s : State} (meter : MeterWf s) {h : HireRecord} (hire : s.fmr.hire = some h) :
    h.fare ≤ 999999 := by
  obtain ⟨-, -, -, held, -⟩ := meter
  obtain ⟨⟨-, -, -, -, fare⟩, -⟩ := held h hire
  exact fare.trans_le (Nat.min_le_left _ _)

theorem hire_payable_le {s : State} (meter : MeterWf s) {h : HireRecord} (hire : s.fmr.hire = some h)
    (paying : s.dtc.duty = .paying) : h.payable.getD 0 ≤ 999999 := by
  obtain ⟨-, -, -, held, -⟩ := meter
  obtain ⟨-, payable⟩ := held h hire
  rw [payable, if_pos paying]
  exact payableOf_le_cap _ _

/-- Columns 10 to 17 of the status row. -/
theorem rightAligned_statusValue {s : State} (meter : MeterWf s) :
    rightAligned 8 (statusValue s) =
      match s.dtc.duty, s.fmr.hire with
      | .hired, some h => amountCells h.fare
      | .paying, some h => amountCells (h.payable.getD 0)
      | _, _ => clockCells s.time := by
  have clock : rightAligned 8 (match s.time with
      | some t => clockMinutes t ++ codes ":" ++ dec2 (t % 60)
      | none => codes "--:--:--") = clockCells s.time := by
    cases s.time with
    | some t => exact clockText_eq t
    | none => rfl
  unfold statusValue
  cases duty : s.dtc.duty with
  | hired =>
    cases hire : s.fmr.hire with
    | some h => exact rightAligned_money (hire_fare_le meter hire)
    | none => exact clock
  | paying =>
    cases hire : s.fmr.hire with
    | some h => exact rightAligned_money (hire_payable_le meter hire duty)
    | none => exact clock
  | offShift => exact clock
  | vacant => exact clock
  | pending => exact clock
  | assigned => exact clock
  | onBreak => exact clock

theorem statusText_eq {s : State} (meter : MeterWf s) :
    (if s.stc.fault then leftAligned 18 (codes "CONFIG FAULT")
      else leftAligned 9 (dutyWord s.dtc.duty) ++ codes " " ++ rightAligned 8 (statusValue s)) =
    statusCells s := by
  unfold statusCells
  split
  · rfl
  · rw [rightAligned_statusValue meter]
    congr 1
    cases s.dtc.duty <;> rfl

theorem shows_statusRow {s : State} (meter : MeterWf s) :
    Shows (statusRow s)
      (statusCells s ++ codes " " ++ (if s.dtc.fixValid then codes " " else codes "?") ++ codes " " ++
        (if s.lines.quiet then codes "Q" else codes " ") ++ codes " " ++
        (if s.tlu.pendingSet.isSome then codes "T" else codes " ")) := by
  unfold statusRow indicator
  rw [statusText_eq meter]
  have fix : (if (!s.dtc.fixValid) = true then codes "?" else codes " ") =
      if s.dtc.fixValid then codes " " else codes "?" := by
    cases s.dtc.fixValid <;> rfl
  rw [fix]
  exact shows_row _

/-! ## The lines of the views (R162) -/

theorem distanceLine_eq (s : State) (pickup : Position) : distanceLine s pickup = distanceCells s pickup := by
  unfold distanceLine distanceCells State.position km1
  cases s.dtc.fixValid with
  | true => simp
  | false => rfl

theorem meterLines_eq (h : HireRecord) :
    meterLines h =
      [ codes "TARIFF " ++ dec h.current.tariffId ++ codes " SEG " ++ dec (h.closed.length + 1),
        codes "DIST " ++ dec (h.totalMetres / 1000) ++ codes "." ++ dec2 (h.totalMetres % 1000 / 10),
        codes "WAIT " ++ dec (h.waiting / 3600) ++ codes ":" ++ dec2 (h.waiting / 60 % 60) ++ codes ":" ++
          dec2 (h.waiting % 60) ] ++
      (h.extras.map fun x => codes "EXTRA " ++ dec x.id ++ codes " x " ++ dec x.count) ++
      (if h.flags.cap = true ∧ h.flags.implausible = true then [codes "CAP IMPLAUSIBLE"]
       else if h.flags.cap then [codes "CAP"]
       else if h.flags.implausible then [codes "IMPLAUSIBLE"] else []) := by
  have segments : h.segments.length = h.closed.length + 1 := by simp [HireRecord.segments]
  unfold meterLines km2 hoursMinutesSeconds hoursMinutes
  rw [segments]
  cases h.flags.cap <;> cases h.flags.implausible <;> simp

theorem acceptLeft_eq {s : State} {e : OfferEntry} (won : s.wonOffer? = some e) :
    (acceptLeftMs s).getD 0 = e.jobTimer.getD 0 - s.now := by
  unfold acceptLeftMs
  rw [won]
  dsimp only
  cases e.jobTimer <;> simp

theorem confirmWord_eq (j : JobRecord) :
    confirmWord j = if j.confirmWait then codes "AWAITING"
      else if j.confirm = .confirmed then codes "CONFIRMED" else codes "UNCONFIRMED" := by
  unfold confirmWord
  split
  · rfl
  · cases j.confirm <;> rfl

theorem replyMark_eq (e : MsgEntry) :
    replyMark e =
      if e.reply.map (·.state) = some .failed then codes "F"
      else if e.replyWanted = true ∧ e.reply.map (·.state) ≠ some .delivered then codes "R" else codes " " := by
  unfold replyMark
  cases e.reply with
  | none => simp
  | some r => cases hr : r.state <;> simp [hr]

theorem listLine_eq (e : MsgEntry) : listLine e = listCells e := by
  unfold listLine listCells firstLine newLine
  rw [replyMark_eq]
  have name : leftAligned 4 (sourceText e.name) =
      match e.name with
      | .message source _ => dec source ++ blanks (4 - (dec source).length)
      | .notice _ => codes "SYS " := by
    cases e.name <;> rfl
  rw [name] <;> rfl

theorem messageList_eq (s : State) : s.messageList = s.mst.entries.filter fun e => e.state ≠ .assembling := rfl

/-- The lines of each view are those of R162. -/
theorem viewLines_eq (s : State) (v : View) : viewLines s v = linesByRule s v := by
  cases v with
  | meter =>
    unfold viewLines linesByRule
    cases s.fmr.hire with
    | some h => exact meterLines_eq h
    | none => rfl
  | offer =>
    unfold viewLines linesByRule offerLines
    cases won : s.wonOffer? with
    | some e =>
      dsimp only
      rw [acceptLeft_eq won, distanceLine_eq]
    | none => rfl
  | job =>
    unfold viewLines linesByRule jobLines
    cases s.dtc.job with
    | some j =>
      dsimp only
      rw [confirmWord_eq, distanceLine_eq]
      cases j.acceptTime <;> rfl
    | none => rfl
  | totals => simp [viewLines, linesByRule, totalsLines, money, km2, hoursMinutes]
  | list =>
    unfold viewLines linesByRule
    rw [messageList_eq]
    exact List.map_congr_left fun e _ => listLine_eq e
  | message => rfl
  | menu => rfl

/-! ## The legend (R165) -/

theorem unread_of_messageList (s : State) :
    s.messageList.filter (·.state = .unread) = s.mst.entries.filter (·.state = .unread) := by
  unfold State.messageList
  rw [List.filter_filter]
  refine List.filter_congr fun e _ => ?_
  unfold MsgEntry.complete
  cases e.state <;> rfl

theorem legend_eq (s : State) : legendRow s = row (legendByRule s) := by
  unfold legendRow legendByRule viewLegend
  cases s.cns.keyPrefix with
  | some p => cases p <;> rfl
  | none =>
    dsimp only
    congr 1
    cases viewShown s with
    | none => rfl
    | some v =>
      cases v with
      | list =>
        dsimp only
        rw [unread_of_messageList, messageList_eq]
        simp [List.isEmpty_iff]
      | message =>
        unfold State.openMsg
        dsimp only
        cases s.mst.openEntry.bind s.msg? with
        | none => rfl
        | some e =>
          dsimp only
          cases e.name <;> simp [sourceText]
      | meter => rfl
      | offer => rfl
      | job => rfl
      | totals => rfl
      | menu => rfl

/-! ## The pinned rows (R160) -/

theorem pinned_eq (s : State) : s.pinned = pinnedEntries s := by
  unfold State.pinned State.messageList pinnedEntries
  rw [List.filter_filter]
  refine List.filter_congr fun e _ => ?_
  simp [MsgEntry.complete, Bool.and_comm]

theorem shows_pinnedRow (e : MsgEntry) :
    Shows (pinnedRow e)
      ((if e.expired then codes "x" else codes "*") ++ ((msgText e).takeWhile (· ≠ 0x0A#8)).take 23) :=
  shows_row _

/-! ## The layout in RUN (R158) -/

theorem displayNow_run {s : State} (power : s.stc.power = .run) :
    displayNow s = statusRow s :: (pinnedRows s ++ (scrollArea s ++ [legendRow s])) := by
  simp [displayNow, power]

theorem scrollRows_pinned (s : State) : scrollRows s = 6 - min 2 (pinnedEntries s).length := by
  rw [scrollRows_eq, pinnedRows_length, pinned_eq]

/-- A row of the scroll area shows the line of the view under it, or nothing. -/
theorem shows_scrollArea (s : State) {k : Nat} (h : k < scrollRows s) :
    ∃ r, (scrollArea s)[k]? = some r ∧
      Shows r (match viewShown s with
        | some v => ((linesByRule s v)[s.cns.pointers.get v + k]?).getD []
        | none => []) := by
  rw [scrollArea_eq]
  by_cases inside : k < (scrollLines s).length
  · rw [List.getElem?_append_left inside]
    unfold scrollLines at inside ⊢
    cases view : viewShown s with
    | none => rw [view] at inside; cases inside
    | some v =>
      rw [view] at inside
      dsimp only at inside ⊢
      have within : s.cns.pointers.get v + k < (viewLines s v).length := by
        simp only [List.length_map, List.length_take, List.length_drop] at inside
        omega
      rw [List.getElem?_map, List.getElem?_take_of_lt h, List.getElem?_drop, ← viewLines_eq,
        List.getElem?_eq_getElem within]
      exact ⟨_, rfl, shows_row _⟩
  · rw [List.getElem?_append_right (Nat.not_lt.mp inside), List.getElem?_replicate_of_lt (by omega)]
    refine ⟨_, rfl, ?_⟩
    unfold scrollLines at inside
    cases view : viewShown s with
    | none => exact shows_emptyRow
    | some v =>
      rw [view] at inside
      dsimp only at inside ⊢
      rw [← viewLines_eq, List.getElem?_eq_none]
      · exact shows_emptyRow
      · simp only [List.length_map, List.length_take, List.length_drop] at inside
        omega

theorem displayShows_of_follows {s : State} (power : s.stc.power = .run) (meter : MeterWf s)
    (display : s.cns.display = displayNow s) : DisplayShows s := by
  have layout := display.trans (displayNow_run power)
  have pinned : (pinnedRows s).length = min 2 (pinnedEntries s).length := by rw [pinnedRows_length, pinned_eq]
  have scroll : (scrollArea s).length = 6 - min 2 (pinnedEntries s).length := by
    rw [scrollArea_length, scrollRows_pinned]
  refine ⟨display ▸ (displayNow_wf s).1, ⟨_, by rw [layout]; rfl, shows_statusRow meter⟩, ?_, ?_, ?_⟩
  · intro i e hi he
    have short : i < (pinnedRows s).length := by
      have := (List.getElem?_eq_some_iff.mp he).1
      omega
    refine ⟨pinnedRow e, ?_, shows_pinnedRow e⟩
    rw [layout, Nat.add_comm, List.getElem?_cons_succ, List.getElem?_append_left short]
    unfold pinnedRows
    rw [List.getElem?_map, List.getElem?_take_of_lt hi, pinned_eq, he]
    rfl
  · rintro p rfl k hk
    obtain ⟨r, hr, shows⟩ := shows_scrollArea s (k := k) (by rw [scrollRows_pinned]; exact hk)
    refine ⟨r, ?_, shows⟩
    rw [layout, show 1 + min 2 (pinnedEntries s).length + k = (pinnedRows s).length + k + 1 by omega,
      List.getElem?_cons_succ, List.getElem?_append_right (Nat.le_add_right _ _), Nat.add_sub_cancel_left,
      List.getElem?_append_left (by omega)]
    exact hr
  · refine ⟨legendRow s, ?_, legend_eq s ▸ shows_row _⟩
    rw [layout, List.getElem?_cons_succ, List.getElem?_append_right (by omega),
      List.getElem?_append_right (by omega)]
    rw [show 6 - (pinnedRows s).length - (scrollArea s).length = 0 by omega]
    rfl

/-- Settles O56: the console follows each step's end, and shows what the rules of chapter 9 say. -/
theorem stepsKeepTheConsole : Obligations.StepsKeepTheConsole := by
  refine ⟨step_keeps_displayWf, step_keeps_consoleFollows, step_keeps_viewFollows, fun s running follows => ?_⟩
  obtain ⟨display, lamps, -⟩ := follows running
  exact ⟨lampsShow_of_follows lamps, fun power meter _ => displayShows_of_follows power meter display⟩

end Sys2Proof.Machine
end

section
/-! PROOFS. The classes of the queue: where two frames carry one number, an ALARM_CLEAR that replaces a waiting
ALARM in its place (R46) changes the kind of both. -/

namespace Sys2Proof.Machine

open Sys2Proof

-- The kernel's checks run one after another: side by side they ask for more threads than there is room for.
set_option Elab.async false

/-- A waiting own ALARM, under number 0. -/
def waitingAlarm : QueueEntry := ⟨0, ownAlarmRequest .alarm, 0, 0, none, none⟩

/-- A waiting BEACON, under number 0 too. -/
def waitingBeacon : QueueEntry := ⟨0, beaconRequest, 0, 0, none, none⟩

/-- A running 4120 whose queue holds the two frames of one number, with an ALARM_CLEAR due. -/
def twoFramesOfOneNumber : State :=
  { State.reset with
    stc := { Stc.reset with phase := .running, fault := false }
    cau := { Cau.reset with queue := [waitingAlarm, waitingBeacon] }
    emu := { Emu.reset with clearDue := some 0 }
    pending := [.clearDue] }

theorem twoFramesOfOneNumber_classed : ClassesByKind twoFramesOfOneNumber := by
  refine ⟨fun e he => ?_, fun q hq => (by cases hq)⟩
  rcases List.mem_cons.mp he with rfl | he
  · decide
  · rw [List.mem_singleton.mp he]
    decide

/-- The step asks for the ALARM_CLEAR. -/
theorem twoFramesOfOneNumber_step :
    ∃ u, step twoFramesOfOneNumber = .next (finish u) ∧
      u.cau.queue =
        [{ waitingAlarm with req := ownAlarmRequest .alarmClear },
         { waitingBeacon with req := { beaconRequest with kind := .alarmClear } }] :=
  ⟨_, rfl, rfl⟩

/-- Refutes O57: an ALARM_CLEAR replaces a waiting ALARM by its number, and a BEACON of the same number takes the
kind ALARM_CLEAR in class 4. `ClassesByKind` alone does not keep the numbers apart, as `QueueWf` does. -/
theorem not_stepsKeepTheQueue : ¬ Obligations.StepsKeepTheQueue := by
  rintro ⟨-, classes, -, -⟩
  obtain ⟨u, run, queue⟩ := twoFramesOfOneNumber_step
  obtain ⟨classed, -⟩ := classes _ _ twoFramesOfOneNumber_classed run
  have mem : { waitingBeacon with req := { beaconRequest with kind := .alarmClear } } ∈ (finish u).cau.queue := by
    simp [queue]
  exact absurd (classed _ mem).2 (by decide)

end Sys2Proof.Machine
end

section
/-! PROOFS. What the operations of the blocks keep: the tables, the counters, the records of the duty states and the
meter. One relation says what an operation keeps; its lemmas say how it follows from the parts that change. -/

namespace Sys2Proof.Machine

open Sys2Proof

-- The kernel's checks run one after another: side by side they ask for more threads than there is room for.
set_option Elab.async false

/-! ## The counters, block by block -/

def Dtc.InRange (d : Dtc) : Prop :=
  d.vacantSeconds ≤ vacantCap ∧ d.posAge ≤ tPosStale ∧ d.timeOfDay ≤ 86399

def Counters.InRange (c : Counters) : Prop :=
  c.good ≤ 9999 ∧ c.transmissions ≤ 9999 ∧ c.badCrc ≤ 255 ∧ c.foreign ≤ 255 ∧ c.txFailures ≤ 255

def ShiftTotals.InRange (t : ShiftTotals) : Prop :=
  t.hires ≤ 9999 ∧ t.payableSum ≤ sumCap ∧ t.extrasSum ≤ sumCap ∧ t.totalMetres ≤ sumCap ∧
  t.paidMetres ≤ sumCap ∧ t.waiting ≤ sumCap

def Tlu.InRange (t : Tlu) : Prop := t.implausible ≤ 255 ∧ t.totals.InRange

def Emu.InRange (e : Emu) : Prop := e.elapsed ≤ 65535 ∧ e.attempts ≤ 3 ∧ e.code.length ≤ 4

theorem countersWf_iff (s : State) :
    CountersWf s ↔ s.dtc.InRange ∧ s.fre.counters.InRange ∧ s.tlu.InRange ∧ s.emu.InRange := by
  unfold CountersWf Dtc.InRange Counters.InRange Tlu.InRange ShiftTotals.InRange Emu.InRange
  tauto

/-! ## What an operation keeps -/

/-- The flag falls of the sets that an active and a pending set hold are bounded. -/
def Tlu.SetsBounded (t : Tlu) : Prop :=
  (∀ x, t.active = some x → x.flagFallsBounded) ∧ ∀ x, t.pendingSet = some x → x.flagFallsBounded

/-- The tables, the schedule, the counters and the sets, each kept by itself. -/
structure KeepsTables (s t : State) : Prop where
  nbt : NbtWf s → NbtWf t
  offers : OffersWf s → OffersWf t
  alarms : AlarmsWf s → AlarmsWf t
  store : StoreWf s → StoreWf t
  keys : StoreWf s → StoreKeysOnce s → StoreKeysOnce t
  log : LogWf s → LogWf t
  schedule : ScheduleWf s → ScheduleWf t
  dtc : s.dtc.InRange → t.dtc.InRange
  counters : s.fre.counters.InRange → t.fre.counters.InRange
  tlu : s.tlu.InRange → t.tlu.InRange
  emu : s.emu.InRange → t.emu.InRange
  sets : s.tlu.SetsBounded → t.tlu.SetsBounded

/-- Beside the tables, the records with their duty states. -/
structure Keeps (s t : State) : Prop extends KeepsTables s t where
  pending : PendingWf s → PendingWf t
  records : RecordsWf s → RecordsWf t
  contest : PendingWf s → NoContestInEmergency s → NoContestInEmergency t
  meter : MeterWf s → MeterWf t

theorem KeepsTables.refl (s : State) : KeepsTables s s :=
  ⟨id, id, id, id, fun _ => id, id, id, id, id, id, id, id⟩

theorem KeepsTables.trans {a b c : State} (h : KeepsTables a b) (k : KeepsTables b c) : KeepsTables a c :=
  ⟨k.nbt ∘ h.nbt, k.offers ∘ h.offers, k.alarms ∘ h.alarms, k.store ∘ h.store,
    fun w u => k.keys (h.store w) (h.keys w u), k.log ∘ h.log, k.schedule ∘ h.schedule, k.dtc ∘ h.dtc,
    k.counters ∘ h.counters, k.tlu ∘ h.tlu, k.emu ∘ h.emu, k.sets ∘ h.sets⟩

theorem Keeps.refl (s : State) : Keeps s s :=
  ⟨KeepsTables.refl s, id, id, fun _ => id, id⟩

theorem Keeps.trans {a b c : State} (h : Keeps a b) (k : Keeps b c) : Keeps a c :=
  ⟨h.toKeepsTables.trans k.toKeepsTables, k.pending ∘ h.pending, k.records ∘ h.records,
    fun p n => k.contest (h.pending p) (h.contest p n), k.meter ∘ h.meter⟩

/-- The last operation first, as operations are composed. -/
theorem Keeps.comp {a b c : State} (k : Keeps b c) (h : Keeps a b) : Keeps a c := h.trans k

theorem Keeps.ite {s t u : State} {p : Prop} [Decidable p] (ht : p → Keeps s t) (hu : ¬p → Keeps s u) :
    Keeps s (if p then t else u) := by
  split
  · exact ht ‹_›
  · exact hu ‹_›

/-- What the tables and the records are read from. -/
structure SameParts (s t : State) : Prop where
  nbt : t.nbt = s.nbt
  ocu : t.ocu = s.ocu
  mst : t.mst = s.mst
  tlu : t.tlu = s.tlu
  emu : t.emu = s.emu
  dtc : t.dtc = s.dtc
  fmr : t.fmr = s.fmr
  counters : t.fre.counters = s.fre.counters

theorem SameParts.keeps {s t : State} (h : SameParts s t) : Keeps s t := by
  obtain ⟨nbt, ocu, mst, tlu, emu, dtc, fmr, counters⟩ := h
  constructor
  case toKeepsTables =>
    constructor <;> simp only [NbtWf, OffersWf, AlarmsWf, StoreWf, StoreKeysOnce, LogWf, ScheduleWf, nbt, ocu, mst, tlu,
      emu, dtc, counters] <;> tauto
  all_goals simp only [PendingWf, RecordsWf, NoContestInEmergency, MeterWf, ocu, tlu, emu, dtc, fmr]; tauto

/-- An operation on parts that none of them reads. -/
theorem Keeps.same {s t : State} (nbt : t.nbt = s.nbt := by simp) (ocu : t.ocu = s.ocu := by simp)
    (mst : t.mst = s.mst := by simp) (tlu : t.tlu = s.tlu := by simp) (emu : t.emu = s.emu := by simp)
    (dtc : t.dtc = s.dtc := by simp) (fmr : t.fmr = s.fmr := by simp)
    (counters : t.fre.counters = s.fre.counters := by simp) : Keeps s t :=
  SameParts.keeps ⟨nbt, ocu, mst, tlu, emu, dtc, fmr, counters⟩

/-! ## One part changed -/

theorem Keeps.nbtChange {s : State} {n : Nbt} (h : NbtWf s → NbtWf { s with nbt := n }) :
    Keeps s { s with nbt := n } :=
  ⟨⟨h, id, id, id, fun _ => id, id, id, id, id, id, id, id⟩, id, id, fun _ => id, id⟩

theorem Keeps.mstChange {s : State} {m : Mst} (store : StoreWf s → StoreWf { s with mst := m })
    (keys : StoreWf s → StoreKeysOnce s → StoreKeysOnce { s with mst := m }) : Keeps s { s with mst := m } :=
  ⟨⟨id, id, id, store, keys, id, id, id, id, id, id, id⟩, id, id, fun _ => id, id⟩

theorem Keeps.tluChange {s : State} {u : Tlu} (log : LogWf s → LogWf { s with tlu := u })
    (range : s.tlu.InRange → u.InRange) (sets : s.tlu.SetsBounded → u.SetsBounded) : Keeps s { s with tlu := u } :=
  ⟨⟨id, id, id, id, fun _ => id, log, id, id, id, range, id, sets⟩, id, id, fun _ => id,
    fun ⟨active, pending, rest⟩ => ⟨(sets ⟨active, pending⟩).1, (sets ⟨active, pending⟩).2, rest⟩⟩

/-- The emergency record changed: the list, the schedule with its states, the counts, and no state that takes
codes entered. -/
structure EmuKept (s e : Emu) : Prop where
  alarms : e.alarms.length ≤ s.alarms.length ∧ (e.alarms.map (·.origin)).Sublist (s.alarms.map (·.origin))
  schedule : (s.schedule.isSome = true → s.state = .active ∨ s.state = .acknowledged ∨ s.state = .covert) →
    e.schedule.isSome = true → e.state = .active ∨ e.state = .acknowledged ∨ e.state = .covert
  range : s.InRange → e.InRange
  armed : e.state.takesCode = true → s.state.takesCode = true

theorem Keeps.emuChange {s : State} {e : Emu} (h : EmuKept s.emu e) : Keeps s { s with emu := e } :=
  ⟨⟨id, id, fun a => ⟨h.alarms.1.trans a.1, a.2.sublist h.alarms.2⟩, id, fun _ => id, id, h.schedule, id, id, id,
    h.range, id⟩, id, id, fun _ n armed => n (h.armed armed), id⟩

/-- The cab record changed in what counts and in the job's fields, its duty and its holding a job left. -/
theorem Keeps.dtcChange {s : State} {d : Dtc} (duty : d.duty = s.dtc.duty) (job : d.job.isSome = s.dtc.job.isSome)
    (range : s.dtc.InRange → d.InRange) : Keeps s { s with dtc := d } :=
  ⟨⟨id, id, id, id, fun _ => id, id, id, range, id, id, id, id⟩, by simp only [PendingWf, duty]; tauto,
    by simp only [RecordsWf, duty, job]; tauto, fun _ => id, by simp only [MeterWf, duty]; tauto⟩

/-- The frame engine changed, its counters in range. -/
theorem Keeps.freChange {s : State} {f : Fre} (range : s.fre.counters.InRange → f.counters.InRange) :
    Keeps s { s with fre := f } :=
  ⟨⟨id, id, id, id, fun _ => id, id, id, id, range, id, id, id⟩, id, id, fun _ => id, id⟩

/-- What the tables are read from, left. -/
theorem KeepsTables.dtcChange {s : State} {d : Dtc} (range : s.dtc.InRange → d.InRange) :
    KeepsTables s { s with dtc := d } :=
  ⟨id, id, id, id, fun _ => id, id, id, range, id, id, id, id⟩

theorem KeepsTables.fmrChange {s : State} {f : Fmr} : KeepsTables s { s with fmr := f } :=
  ⟨id, id, id, id, fun _ => id, id, id, id, id, id, id, id⟩

theorem KeepsTables.emuChange {s : State} {e : Emu} (alarms : e.alarms = s.emu.alarms)
    (schedule : ScheduleWf s → ScheduleWf { s with emu := e }) (range : s.emu.InRange → e.InRange) :
    KeepsTables s { s with emu := e } :=
  ⟨id, id, by unfold AlarmsWf; rw [alarms]; exact id, id, fun _ => id, id, schedule, id, id, id, range, id⟩

/-! ## The offers changed -/

/-- A state that an armed emergency allows (R103). -/
abbrev OfferState.AtRest (x : OfferState) : Prop := x ≠ .waiting ∧ x ≠ .bid ∧ x ≠ .yielded ∧ x ≠ .won

/-- The entry stands in none of the states that an armed emergency forbids (R103). -/
def OfferEntry.AtRest (e : OfferEntry) : Prop := e.state.AtRest

/-- The heard bids of an entry within their limit, each station once. -/
def OfferEntry.HeardWf (e : OfferEntry) : Prop :=
  e.heard.length ≤ heardCapacity ∧ (e.heard.map (·.rank.station)).Nodup

/-- How many entries are WON. -/
def wonCount (l : List OfferEntry) : Nat := (l.filter fun e => e.state = .won).length

/-- What a change of the offers keeps of the table (R83, R84). -/
structure TableKept (l m : List OfferEntry) : Prop where
  short : l.length ≤ offerCapacity → m.length ≤ offerCapacity
  ids : (l.map (·.id)).Nodup → (m.map (·.id)).Nodup
  heard : (∀ e ∈ l, e.HeardWf) → ∀ e ∈ m, e.HeardWf

/-- A change of the offers that moves no entry into WON or out of it and brings no contest. -/
structure OffersKept (l m : List OfferEntry) : Prop extends TableKept l m where
  won : (l.map (·.id)).Nodup → wonCount m = wonCount l
  rest : (l.map (·.id)).Nodup → (∀ e ∈ l, e.AtRest) → ∀ e ∈ m, e.AtRest

theorem KeepsTables.ocuChange {s : State} {m : List OfferEntry} (h : TableKept s.ocu.offers m) :
    KeepsTables s { s with ocu := { s.ocu with offers := m } } :=
  ⟨id, fun ⟨short, ids, heard⟩ => ⟨h.short short, h.ids ids, h.heard heard⟩, id, id, fun _ => id, id, id, id, id, id, id, id⟩

theorem Keeps.ocuChange {s : State} {m : List OfferEntry} (h : OffersKept s.ocu.offers m) :
    Keeps s { s with ocu := { s.ocu with offers := m } } :=
  ⟨KeepsTables.ocuChange h.toTableKept, fun ⟨ids, one⟩ => ⟨h.ids ids, (h.won ids).trans one⟩, id,
    fun ⟨ids, _⟩ n armed => h.rest ids (n armed), id⟩

theorem OffersKept.refl (l : List OfferEntry) : OffersKept l l :=
  ⟨⟨id, id, id⟩, fun _ => rfl, fun _ => id⟩

theorem TableKept.trans {l m n : List OfferEntry} (h : TableKept l m) (k : TableKept m n) : TableKept l n :=
  ⟨k.short ∘ h.short, k.ids ∘ h.ids, k.heard ∘ h.heard⟩

theorem TableKept.of_sublist {l m : List OfferEntry} (sub : m.Sublist l) : TableKept l m :=
  ⟨fun h => sub.length_le.trans h, fun h => h.sublist (sub.map _), fun h e he => h e (sub.subset he)⟩

/-- Offers changed entry by entry, each keeping its id and the bounds of its list. -/
theorem TableKept.of_map {l : List OfferEntry} {f : OfferEntry → OfferEntry} (id : ∀ e, (f e).id = e.id)
    (heard : ∀ e, e.HeardWf → (f e).HeardWf) : TableKept l (l.map f) where
  short := by simp
  ids := fun h => by
    have same : ((·.id) ∘ f : OfferEntry → OfferId) = (·.id) := funext id
    rwa [List.map_map, same]
  heard := fun h e he => by
    obtain ⟨a, ha, rfl⟩ := List.mem_map.mp he
    exact heard a (h a ha)

theorem wonCount_map {l : List OfferEntry} {f : OfferEntry → OfferEntry}
    (won : ∀ e ∈ l, (f e).state = .won ↔ e.state = .won) : wonCount (l.map f) = wonCount l := by
  unfold wonCount
  rw [List.filter_map, List.length_map]
  refine congrArg List.length (List.filter_congr fun e he => ?_)
  exact decide_eq_decide.mpr (won e he)

/-- Entries of one id changed, their states kept out of WON and of the contest. -/
theorem OffersKept.of_updateWhere {l : List OfferEntry} {id : OfferId} {f : OfferEntry → OfferEntry}
    (hid : ∀ e, (f e).id = e.id) (heard : ∀ e, e.HeardWf → (f e).HeardWf)
    (state : (l.map (·.id)).Nodup → ∀ e ∈ l, e.id = id → (f e).state = e.state ∨
      e.state ≠ .won ∧ (f e).state ≠ .won ∧ (e.AtRest → (f e).AtRest)) :
    OffersKept l (updateWhere (·.id = id) f l) where
  toTableKept := TableKept.of_map (by intro e; split <;> simp [hid]) (by intro e he; split <;> [exact heard e he; exact he])
  won := fun once => wonCount_map fun e he => by
    split
    · rename_i h
      rcases state once e he (by simpa using h) with same | ⟨old, new, -⟩
      · rw [same]
      · exact ⟨fun h => absurd h new, fun h => absurd h old⟩
    · exact Iff.rfl
  rest := fun once h e he => by
    obtain ⟨a, ha, rfl⟩ := mem_updateWhere.mp he
    split
    · rename_i hid'
      rcases state once a ha (by simpa using hid') with same | ⟨-, -, rest⟩
      · unfold OfferEntry.AtRest
        rw [same]
        exact h a ha
      · exact rest (h a ha)
    · exact h a ha

/-- An entry found by its id is the one of that id. -/
theorem offer?_mem {s : State} {id : OfferId} {e : OfferEntry} (h : s.offer? id = some e) :
    e ∈ s.ocu.offers ∧ e.id = id :=
  ⟨List.mem_of_find?_eq_some h, by simpa using List.find?_some h⟩

theorem eq_of_offerId {l : List OfferEntry} (h : (l.map (·.id)).Nodup) {a b : OfferEntry} (ha : a ∈ l)
    (hb : b ∈ l) (same : a.id = b.id) : a = b :=
  List.inj_on_of_nodup_map h ha hb same

/-! ## A request to the CAU -/

theorem heard_of_bidFrame {l m : List OfferEntry}
    (h : m.map (fun e => { e with bidFrame := BidFrame.none }) = l.map fun e => { e with bidFrame := BidFrame.none })
    {e : OfferEntry} (he : e ∈ m) : ∃ a ∈ l, a.id = e.id ∧ a.state = e.state ∧ a.heard = e.heard := by
  obtain ⟨a, ha, eq⟩ := List.mem_map.mp (h ▸ List.mem_map_of_mem he)
  injection eq with id _ _ _ _ _ state _ _ _ _ _ heard
  exact ⟨a, ha, id, state, heard⟩

/-- Offers that differ in their bid frames alone. -/
theorem OffersKept.of_bidFrame {l m : List OfferEntry}
    (h : m.map (fun e => { e with bidFrame := BidFrame.none }) = l.map fun e => { e with bidFrame := BidFrame.none }) :
    OffersKept l m := by
  have length : m.length = l.length := by simpa using congrArg List.length h
  have ids : m.map (·.id) = l.map (·.id) := by
    simpa [Function.comp_def] using congrArg (List.map (·.id)) h
  have states : m.map (·.state) = l.map (·.state) := by
    simpa [Function.comp_def] using congrArg (List.map (·.state)) h
  have count : ∀ n : List OfferEntry, wonCount n = ((n.map (·.state)).filter (· = .won)).length := by
    intro n
    simp [wonCount, List.filter_map, Function.comp_def]
  refine ⟨⟨fun hl => length.trans_le hl, fun hn => ids ▸ hn, fun hl e he => ?_⟩, fun _ => ?_, fun _ hl e he => ?_⟩
  · obtain ⟨a, ha, -, -, heard⟩ := heard_of_bidFrame h he
    unfold OfferEntry.HeardWf
    rw [← heard]
    exact hl a ha
  · rw [count, count, states]
  · obtain ⟨a, ha, -, state, -⟩ := heard_of_bidFrame h he
    unfold OfferEntry.AtRest
    rw [← state]
    exact hl a ha

/-- A request to the CAU keeps everything. -/
theorem Asked.keeps {s t : State} (h : Asked s t) : Keeps s t := by
  have offers := OffersKept.of_bidFrame h.ocu
  have entries : t.mst.entries.length = s.mst.entries.length := by simpa using congrArg List.length h.entries
  have numbers : t.mst.entries.map (·.entry) = s.mst.entries.map (·.entry) := by
    simpa [Function.comp_def] using congrArg (List.map (·.entry)) h.entries
  have names : t.mst.entries.map (·.name) = s.mst.entries.map (·.name) := by
    simpa [Function.comp_def] using congrArg (List.map (·.name)) h.entries
  have logLength : t.tlu.log.length = s.tlu.log.length := by simpa using congrArg List.length h.log
  have records : t.tlu.log.map (·.number) = s.tlu.log.map (·.number) := by
    simpa [Function.comp_def] using congrArg (List.map Prod.fst) h.log
  have emu : t.emu.alarms = s.emu.alarms ∧ t.emu.schedule = s.emu.schedule ∧ t.emu.state = s.emu.state ∧
      (s.emu.InRange → t.emu.InRange) := by
    rw [h.emu]
    exact ⟨rfl, rfl, rfl, id⟩
  obtain ⟨alarms, schedule, state, emuRange⟩ := emu
  have tlu : t.tlu.nextRecord = s.tlu.nextRecord ∧ t.tlu.active = s.tlu.active ∧
      t.tlu.pendingSet = s.tlu.pendingSet ∧ (s.tlu.InRange → t.tlu.InRange) := by
    rw [h.tlu]
    exact ⟨rfl, rfl, rfl, id⟩
  obtain ⟨nextRecord, active, pendingSet, tluRange⟩ := tlu
  constructor
  case toKeepsTables =>
    constructor
    case nbt =>
      rintro ⟨neighbours, stations, dups, names, relays, keys⟩
      unfold NbtWf
      rw [h.nbt]
      exact ⟨neighbours, stations, dups, names, h.relays.length_le.trans relays, keys.sublist (h.relays.map _)⟩
    case offers => exact fun ⟨short, ids, heard⟩ => ⟨offers.short short, offers.ids ids, offers.heard heard⟩
    case alarms => unfold AlarmsWf; rw [alarms]; exact id
    case store =>
      rintro ⟨short, once, next⟩
      have nextMsg : t.mst.nextMsg = s.mst.nextMsg := by rw [h.mst]
      refine ⟨entries.trans_le short, numbers ▸ once, fun e he => ?_⟩
      obtain ⟨a, ha, same⟩ := List.mem_map.mp (numbers ▸ List.mem_map_of_mem (f := MsgEntry.entry) he)
      rw [nextMsg, ← same]
      exact next a ha
    case keys => unfold StoreKeysOnce; rw [names]; exact fun _ => id
    case log =>
      rintro ⟨short, once, next⟩
      refine ⟨logLength.trans_le short, records ▸ once, fun r hr => ?_⟩
      obtain ⟨a, ha, same⟩ := List.mem_map.mp (records ▸ List.mem_map_of_mem (f := LogRecord.number) hr)
      rw [nextRecord, ← same]
      exact next a ha
    case schedule => unfold ScheduleWf; rw [schedule, state]; exact id
    case dtc => rw [h.dtc]; exact id
    case counters => rw [h.fre]; exact id
    case tlu => exact tluRange
    case emu => exact emuRange
    case sets => unfold Tlu.SetsBounded; rw [active, pendingSet]; exact id
  case pending => unfold PendingWf; rw [h.dtc]; exact fun ⟨ids, one⟩ => ⟨offers.ids ids, (offers.won ids).trans one⟩
  case records => unfold RecordsWf; rw [h.dtc, h.fmr]; exact id
  case contest => unfold NoContestInEmergency; rw [state]; exact fun p n armed => offers.rest p.1 (n armed)
  case meter => unfold MeterWf; rw [h.dtc, h.fmr, active, pendingSet]; exact id

end Sys2Proof.Machine
end

section
/-! PROOFS. What the operations of the message store, the tariff and log unit and the fare meter keep. -/

namespace Sys2Proof.Machine

open Sys2Proof

-- The kernel's checks run one after another: side by side they ask for more threads than there is room for.
set_option Elab.async false

/-! ## Single records -/

theorem updOffer_keeps {id : OfferId} {f : OfferEntry → OfferEntry} {s : State} (hid : ∀ e, (f e).id = e.id)
    (heard : ∀ e, e.HeardWf → (f e).HeardWf)
    (state : (s.ocu.offers.map (·.id)).Nodup → ∀ e ∈ s.ocu.offers, e.id = id → (f e).state = e.state ∨
      e.state ≠ .won ∧ (f e).state ≠ .won ∧ (e.AtRest → (f e).AtRest)) :
    Keeps s (s.updOffer id f) :=
  Keeps.ocuChange (OffersKept.of_updateWhere hid heard state)

/-- The entries of an id stand in a state; where ids occur once it is one entry. -/
def StandsIn (id : OfferId) (x : OfferState) (s : State) : Prop :=
  (s.ocu.offers.map (·.id)).Nodup → ∀ e ∈ s.ocu.offers, e.id = id → e.state = x

theorem standsIn_of_found {s : State} {id : OfferId} {e : OfferEntry} (found : s.offer? id = some e) :
    StandsIn id e.state s := by
  obtain ⟨mem, rfl⟩ := offer?_mem found
  intro once x hx same
  rw [eq_of_offerId once hx mem same]

/-- The entry of an id moved to a state, neither from WON nor to it. -/
theorem updOffer_keeps_move {id : OfferId} {f : OfferEntry → OfferEntry} {s : State} {x : OfferState} (y : OfferState)
    (stands : StandsIn id x s)
    (moves : ∀ e, (f e).id = e.id ∧ (f e).heard = e.heard ∧ (f e).state = y := by intro _; exact ⟨rfl, rfl, rfl⟩)
    (old : x ≠ .won := by decide) (new : y ≠ .won := by decide) (rest : x.AtRest → y.AtRest := by decide) :
    Keeps s (s.updOffer id f) := by
  refine updOffer_keeps (fun e => (moves e).1) (fun e he => ?_) fun once e he same => ?_
  · unfold OfferEntry.HeardWf
    rw [(moves e).2.1]
    exact he
  · have state := (moves e).2.2
    refine .inr ⟨by rwa [stands once e he same], by rwa [state], fun atRest => ?_⟩
    unfold OfferEntry.AtRest at atRest ⊢
    rw [stands once e he same] at atRest
    rw [state]
    exact rest atRest

/-- An entry changed in neither its state nor its heard bids. -/
theorem updOffer_keeps_same {id : OfferId} {f : OfferEntry → OfferEntry} {s : State} (hid : ∀ e, (f e).id = e.id)
    (heard : ∀ e, (f e).heard = e.heard) (state : ∀ e, (f e).state = e.state) : Keeps s (s.updOffer id f) := by
  refine updOffer_keeps hid (fun e he => ?_) fun _ e _ _ => .inl (state e)
  unfold OfferEntry.HeardWf
  rw [heard]
  exact he

theorem updRelay_keeps {k : RelayKey} {f : Relay → Relay} (hf : ∀ r, (f r).key = r.key) (s : State) :
    Keeps s (s.updRelay k f) :=
  Keeps.nbtChange fun ⟨neighbours, stations, dups, names, relays, keys⟩ =>
    ⟨neighbours, stations, dups, names, (length_updateWhere _ _ _).trans_le relays,
      (map_updateWhere _ _ _ _ hf).symm ▸ keys⟩

theorem freeRelay_keeps (k : RelayKey) (s : State) : Keeps s (s.freeRelay k) := (freeRelay_asked k s).keeps

/-! ## The console and the queue beside the tables -/

theorem requestTone_keeps (t : Tone) (s : State) : Keeps s (requestTone t s) := .same

theorem refuse_keeps (s : State) : Keeps s (refuse s) := .same

theorem silence_keeps (s : State) : Keeps s (silence s) := .same

theorem toRun_keeps (s : State) : Keeps s (toRun s) := .same

/-! ## The message store (R140, R141, R147, R156) -/

theorem Keeps.ofMst {s t : State} (store : StoreWf s → StoreWf t)
    (keys : StoreWf s → StoreKeysOnce s → StoreKeysOnce t) (nbt : t.nbt = s.nbt := by simp)
    (ocu : t.ocu = s.ocu := by simp) (tlu : t.tlu = s.tlu := by simp) (emu : t.emu = s.emu := by simp)
    (dtc : t.dtc = s.dtc := by simp) (fmr : t.fmr = s.fmr := by simp)
    (counters : t.fre.counters = s.fre.counters := by simp) : Keeps s t :=
  (Keeps.mstChange (m := t.mst) store keys).trans (.same nbt ocu rfl tlu emu dtc fmr counters)

/-- The store changed once more, after an operation that keeps everything. -/
theorem Keeps.thenMst {s u t : State} (h : Keeps s u) (store : StoreWf s → StoreWf t)
    (keys : StoreWf s → StoreKeysOnce s → StoreKeysOnce t) (nbt : t.nbt = u.nbt := by simp)
    (ocu : t.ocu = u.ocu := by simp) (tlu : t.tlu = u.tlu := by simp) (emu : t.emu = u.emu := by simp)
    (dtc : t.dtc = u.dtc := by simp) (fmr : t.fmr = u.fmr := by simp)
    (counters : t.fre.counters = u.fre.counters := by simp) : Keeps s t := by
  have rest : Keeps s { t with mst := u.mst } := h.trans (.same nbt ocu rfl tlu emu dtc fmr counters)
  exact ⟨⟨rest.nbt, rest.offers, rest.alarms, store, keys, rest.log, rest.schedule, rest.dtc, rest.counters, rest.tlu,
    rest.emu, rest.sets⟩, rest.pending, rest.records, rest.contest, rest.meter⟩

/-- Entries left out of the store. -/
theorem storeWf_of_sublist {s t : State} (sub : t.mst.entries.Sublist s.mst.entries)
    (next : t.mst.nextMsg = s.mst.nextMsg) (h : StoreWf s) : StoreWf t := by
  obtain ⟨short, once, below⟩ := h
  exact ⟨sub.length_le.trans short, once.sublist (sub.map _), fun e he => next ▸ below e (sub.subset he)⟩

theorem keysOnce_of_sublist {s t : State} (sub : t.mst.entries.Sublist s.mst.entries) (h : StoreKeysOnce s) :
    StoreKeysOnce t :=
  h.sublist (sub.map _)

/-- Entries changed one by one, each keeping its number and its name. -/
theorem storeWf_of_map {s t : State} {f : MsgEntry → MsgEntry} (map : t.mst.entries = s.mst.entries.map f)
    (number : ∀ e, (f e).entry = e.entry) (next : t.mst.nextMsg = s.mst.nextMsg) (h : StoreWf s) : StoreWf t := by
  obtain ⟨short, once, below⟩ := h
  unfold StoreWf
  rw [map, next, List.length_map, List.map_map, show ((·.entry) ∘ f : MsgEntry → Nat) = (·.entry) from funext number]
  refine ⟨short, once, fun e he => ?_⟩
  obtain ⟨a, ha, rfl⟩ := List.mem_map.mp he
  rw [number]
  exact below a ha

theorem keysOnce_of_map {s t : State} {f : MsgEntry → MsgEntry} (map : t.mst.entries = s.mst.entries.map f)
    (name : ∀ e, (f e).name = e.name) (h : StoreKeysOnce s) : StoreKeysOnce t := by
  unfold StoreKeysOnce
  rw [map, List.map_map, show ((·.name) ∘ f : MsgEntry → MsgName) = (·.name) from funext name]
  exact h

theorem updMsg_keeps {n : Nat} {f : MsgEntry → MsgEntry} (s : State) (number : ∀ e, (f e).entry = e.entry)
    (name : ∀ e, (f e).name = e.name) : Keeps s (s.updMsg n f) :=
  .ofMst (storeWf_of_map rfl (by intro e; split <;> simp [number]) rfl)
    fun _ => keysOnce_of_map rfl (by intro e; split <;> simp [name])

theorem removeMsg_keeps (n : Nat) (s : State) : Keeps s (removeMsg n s) := by
  have free : Keeps s (freeMsg n s) := by
    have entries : (freeMsg n s).mst.entries = s.mst.entries.filter (·.entry ≠ n) ∧
        (freeMsg n s).mst.nextMsg = s.mst.nextMsg := by
      unfold freeMsg
      dsimp only
      split <;> exact ⟨rfl, rfl⟩
    exact .ofMst (storeWf_of_sublist (entries.1 ▸ List.filter_sublist) entries.2)
      fun _ => keysOnce_of_sublist (entries.1 ▸ List.filter_sublist)
  unfold removeMsg
  split
  · exact Keeps.refl s
  · exact Keeps.ite (fun _ => free.trans (removeFrame_asked _ _ _).keeps) fun _ => free

/-- An entry joins the store, once an operation has left room and no entry of its name. -/
theorem Keeps.addMsg {e : MsgEntry} {s u : State} (h : Keeps s u)
    (room : StoreWf s → u.mst.entries.length < storeCapacity)
    (fresh : StoreWf s → StoreKeysOnce s → ∀ x ∈ u.mst.entries, x.name ≠ e.name) : Keeps s (addMsg e u) := by
  refine h.thenMst (fun wf => ?_) fun wf keys => ?_
  · have short := room wf
    obtain ⟨-, once, below⟩ := h.store wf
    refine ⟨short, List.nodup_cons.mpr ⟨fun mem => ?_, once⟩, fun x hx => ?_⟩
    · obtain ⟨x, hx, same⟩ := List.mem_map.mp mem
      exact absurd (same ▸ below x hx) (Nat.lt_irrefl _)
    · rcases List.mem_cons.mp hx with rfl | hx
      · exact Nat.lt_succ_self _
      · exact (below x hx).trans (Nat.lt_succ_self _)
  · refine List.nodup_cons.mpr ⟨fun mem => ?_, h.keys wf keys⟩
    obtain ⟨x, hx, same⟩ := List.mem_map.mp mem
    exact fresh wf keys x hx same

theorem evictee_mem {s : State} {e : MsgEntry} (h : evictee s = some e) : e ∈ s.mst.entries := by
  unfold evictee at h
  split at h
  · rename_i found
    cases h
    exact (List.mem_filter.mp (List.mem_of_getLast? (findLast_eq _ _ ▸ found))).1
  · exact (List.mem_filter.mp (List.mem_of_getLast? (findLast_eq _ _ ▸ h))).1

theorem length_removeMsg_lt {s : State} {e : MsgEntry} (he : e ∈ s.mst.entries) :
    (removeMsg e.entry s).mst.entries.length < s.mst.entries.length := by
  rw [removeMsg_entries]
  exact List.length_filter_lt_length_iff_exists.mpr ⟨e, he, by simp⟩

theorem takePlace_keeps (s : State) : Keeps s (takePlace s) := by
  unfold takePlace
  split
  · exact Keeps.refl s
  · split
    · exact removeMsg_keeps _ s
    · exact Keeps.refl s

theorem takePlace_sublist (s : State) : (takePlace s).mst.entries.Sublist s.mst.entries := by
  unfold takePlace
  split
  · exact List.Sublist.refl _
  · split
    · rw [removeMsg_entries]; exact List.filter_sublist
    · exact List.Sublist.refl _

/-- Where the store has a place, one is made. -/
theorem takePlace_room {s : State} (place : hasPlace s = true) (wf : s.mst.entries.length ≤ storeCapacity) :
    (takePlace s).mst.entries.length < storeCapacity := by
  unfold takePlace
  split
  · assumption
  · rename_i full
    have some : (evictee s).isSome = true := by simpa [hasPlace, full] using place
    obtain ⟨e, he⟩ := Option.isSome_iff_exists.mp some
    rw [he]
    exact (length_removeMsg_lt (evictee_mem he)).trans_le wf

theorem msg?_mem {s : State} {n : Nat} {e : MsgEntry} (h : s.msg? n = some e) : e ∈ s.mst.entries ∧ e.entry = n :=
  ⟨List.mem_of_find?_eq_some h, by simpa using List.find?_some h⟩

theorem msgNamed_mem {s : State} {name : MsgName} {e : MsgEntry} (h : s.msgNamed name = some e) :
    e ∈ s.mst.entries ∧ e.name = name :=
  ⟨List.mem_of_find?_eq_some h, by simpa using List.find?_some h⟩

theorem msgNamed_none {s : State} {name : MsgName} (h : s.msgNamed name = none) :
    ∀ x ∈ s.mst.entries, x.name ≠ name := by
  intro x hx
  simpa using List.find?_eq_none.mp h x hx

/-- An entry moved to the head of the list keeps its number and name. -/
theorem moveToHead_keeps {s : State} {e x : MsgEntry} (he : e ∈ s.mst.entries) (number : x.entry = e.entry)
    (name : x.name = e.name) :
    Keeps s { s with mst := { s.mst with entries := x :: s.mst.entries.filter (·.entry ≠ e.entry) } } := by
  refine .ofMst (fun ⟨short, once, below⟩ => ?_) fun ⟨short, once, below⟩ keys => ?_
  · refine ⟨?_, List.nodup_cons.mpr ⟨fun mem => ?_, once.sublist (List.filter_sublist.map _)⟩, fun a ha => ?_⟩
    · have lt : (s.mst.entries.filter (·.entry ≠ e.entry)).length < s.mst.entries.length :=
        List.length_filter_lt_length_iff_exists.mpr ⟨e, he, by simp⟩
      exact lt.trans_le short
    · obtain ⟨a, ha, same⟩ := List.mem_map.mp mem
      exact absurd (same.trans number) (by simpa using (List.mem_filter.mp ha).2)
    · rcases List.mem_cons.mp ha with rfl | ha
      · exact number ▸ below e he
      · exact below a (List.filter_sublist.subset ha)
  · refine List.nodup_cons.mpr ⟨fun mem => ?_, keys.sublist (List.filter_sublist.map _)⟩
    obtain ⟨a, ha, same⟩ := List.mem_map.mp mem
    obtain ⟨ha, other⟩ := List.mem_filter.mp ha
    have eq := List.inj_on_of_nodup_map keys ha he (same.trans name)
    simp [eq] at other

theorem completeIfWhole_keeps (n : Nat) (s : State) : Keeps s (completeIfWhole n s) := by
  unfold completeIfWhole
  split
  · exact Keeps.refl s
  · rename_i e found
    obtain ⟨mem, rfl⟩ := msg?_mem found
    exact Keeps.ite (fun _ => (moveToHead_keeps (x := e.completed) mem rfl rfl).trans (requestTone_keeps .message _))
      fun _ => Keeps.refl s

theorem Keeps.createMsg {source : Station} {direct : Bool} {p : MsgPayload} {s u : State} (h : Keeps s u)
    (room : StoreWf s → u.mst.entries.length < storeCapacity)
    (fresh : StoreWf s → StoreKeysOnce s → ∀ x ∈ u.mst.entries, x.name ≠ .message source p.number) :
    Keeps s (createMsg source direct p u) :=
  (h.addMsg room fresh).trans (completeIfWhole_keeps _ _)

theorem placeSegment_keeps (e : MsgEntry) (p : MsgPayload) (s : State) : Keeps s (placeSegment e p s) :=
  Keeps.ite (fun _ => .trans (updMsg_keeps (f := fun x => { x with segments := x.segments ++ [(p.index, p.text)] }) s
    (fun _ => rfl) fun _ => rfl) (completeIfWhole_keeps _ _)) fun _ => Keeps.refl s

theorem removeMsg_room {s : State} {e : MsgEntry} (he : e ∈ s.mst.entries) (wf : StoreWf s) :
    (removeMsg e.entry s).mst.entries.length < storeCapacity :=
  (length_removeMsg_lt he).trans_le wf.1

/-- Once its entry has been removed, no entry has a name. -/
theorem removeMsg_fresh {s : State} {e : MsgEntry} (he : e ∈ s.mst.entries) (keys : StoreKeysOnce s) :
    ∀ x ∈ (removeMsg e.entry s).mst.entries, x.name ≠ e.name := by
  rw [removeMsg_entries]
  intro x hx same
  obtain ⟨hx, other⟩ := List.mem_filter.mp hx
  rw [List.inj_on_of_nodup_map keys hx he same] at other
  simp at other

theorem deliverMsg_keeps (source : Station) (direct : Bool) (p : MsgPayload) (s : State) :
    Keeps s (deliverMsg source direct p s) := by
  unfold deliverMsg
  split
  · rename_i absent
    refine Keeps.ite (fun place => ?_) fun _ => Keeps.refl s
    exact (takePlace_keeps s).createMsg (fun wf => takePlace_room place wf.1)
      fun _ _ x hx => msgNamed_none absent x ((takePlace_sublist s).subset hx)
  · rename_i e found
    obtain ⟨mem, name⟩ := msgNamed_mem found
    refine Keeps.ite (fun _ => placeSegment_keeps e p s) fun _ => Keeps.ite (fun _ => Keeps.refl s) fun _ => ?_
    exact (removeMsg_keeps _ s).createMsg (removeMsg_room mem) fun _ keys => name ▸ removeMsg_fresh mem keys

theorem replacedNotice_mem {s : State} {e : MsgEntry} (h : replacedNotice s = some e) : e ∈ s.mst.entries := by
  unfold replacedNotice at h
  split at h
  · rename_i found
    cases h
    exact (List.mem_filter.mp (List.mem_of_getLast? (findLast_eq _ _ ▸ found))).1
  · exact (List.mem_filter.mp (List.mem_of_getLast? (findLast_eq _ _ ▸ h))).1

theorem raiseNotice_keeps (key : NoticeKey) (pin : Bool) (text : List Byte) (s : State) :
    Keeps s (raiseNotice key pin text s) := by
  unfold raiseNotice
  split
  · rename_i old found
    obtain ⟨mem, name⟩ := msgNamed_mem found
    exact (removeMsg_keeps _ s).addMsg (removeMsg_room mem)
      fun _ keys => (show (noticeEntry key pin text).name = old.name from name.symm) ▸ removeMsg_fresh mem keys
  · rename_i absent
    split
    · rename_i place
      exact (takePlace_keeps s).addMsg (fun wf => takePlace_room place wf.1)
        fun _ _ x hx => msgNamed_none absent x ((takePlace_sublist s).subset hx)
    · split
      · rename_i old found
        refine (removeMsg_keeps _ s).addMsg (removeMsg_room (replacedNotice_mem found)) fun _ _ x hx => ?_
        rw [removeMsg_entries] at hx
        exact msgNamed_none absent x (List.mem_filter.mp hx).1
      · exact Keeps.refl s

theorem ageStore_keeps (s : State) : Keeps s (ageStore s) := by
  have number : ∀ e, (MsgEntry.aged e).entry = e.entry := by intro e; unfold MsgEntry.aged; split <;> rfl
  have name : ∀ e, (MsgEntry.aged e).name = e.name := by intro e; unfold MsgEntry.aged; split <;> rfl
  exact .ofMst (storeWf_of_map rfl number rfl) fun _ => keysOnce_of_map rfl name

theorem openMsgEntry_keeps (n : Nat) (s : State) : Keeps s (openMsgEntry n s) :=
  Keeps.trans (updMsg_keeps (n := n) (f := fun e => { e with state := if e.state = .unread then .read else e.state }) s
    (fun _ => rfl) fun _ => rfl) (.ofMst id fun _ => id)

theorem closeMsg_keeps (s : State) : Keeps s (closeMsg s) := by
  have closed : Keeps s { s with mst := { s.mst with openEntry := none } } := .ofMst id fun _ => id
  unfold closeMsg
  split
  · exact Keeps.ite (fun _ => closed.trans (removeMsg_keeps _ _)) fun _ => closed
  · exact closed

theorem closeTo_keeps (v : DriverView) (s : State) : Keeps s (closeTo v s) := (closeMsg_keeps s).trans (.same rfl rfl rfl rfl rfl rfl rfl rfl)

theorem clearPin_keeps (s : State) : Keeps s (clearPin s) := by
  unfold clearPin
  split
  · exact updMsg_keeps s (fun _ => rfl) fun _ => rfl
  · exact Keeps.refl s

theorem expireMsg_keeps (n : Nat) (s : State) : Keeps s (expireMsg n s) := by
  unfold expireMsg
  split
  · exact Keeps.refl s
  · exact Keeps.ite (fun _ => updMsg_keeps s (fun _ => rfl) fun _ => rfl) fun _ => removeMsg_keeps _ s

theorem dropAlarmNotice_keeps (origin : Station) (s : State) : Keeps s (dropAlarmNotice origin s) := by
  unfold dropAlarmNotice
  split
  · exact removeMsg_keeps _ s
  · exact Keeps.refl s

theorem replyBecomes_number (r : ReplyState) (e : MsgEntry) : (replyBecomes r e).entry = e.entry := by
  grind [replyBecomes]

theorem replyBecomes_name (r : ReplyState) (e : MsgEntry) : (replyBecomes r e).name = e.name := by
  grind [replyBecomes]

theorem replyNotice_keeps (n : Nat) (r : ReplyState) (s : State) : Keeps s (replyNotice n r s) :=
  updMsg_keeps s (replyBecomes_number r) (replyBecomes_name r)

theorem makeReply_keeps (e : MsgEntry) (phrase : Nat) (s : State) : Keeps s (makeReply e phrase s) := by
  have numbered : Keeps s { s with mst := { s.mst with replyCounter := s.mst.replyCounter + 1 } } :=
    .ofMst id fun _ => id
  have queued := numbered.trans (updMsg_keeps (n := e.entry) (f := fun x =>
    { x with reply := some { phrase := phrase, number := s.mst.replyCounter + 1, state := .queued } }) _
    (fun _ => rfl) fun _ => rfl)
  have asked := queued.trans (requestFrame_asked (replyRequest e) _).keeps
  exact Keeps.ite (fun _ => asked.trans (replyNotice_keeps e.entry .failed _)) fun _ => asked

end Sys2Proof.Machine
end

section
/-! PROOFS. What the operations of the tariff and log unit, the fare meter, the emergency unit and the neighbour
table keep. -/

namespace Sys2Proof.Machine

open Sys2Proof

-- The kernel's checks run one after another: side by side they ask for more threads than there is room for.
set_option Elab.async false

/-! ## Bounds of the counting functions -/

theorem satAdd_le (cap a n : Nat) : satAdd cap a n ≤ cap := Nat.min_le_left _ _

theorem wrapInc_le {cap a : Nat} (h : a ≤ cap) : wrapInc cap a ≤ cap := by
  unfold wrapInc
  split <;> omega

theorem decodeSet_flagFallsBounded (l : List Byte) : (decodeSet l).flagFallsBounded := by
  intro x hx
  obtain ⟨i, -, rfl⟩ := List.mem_map.mp hx
  have cap : clamp 0 9999 (read16 l (2 + 15 * i + 1)) ≤ 9999 := by
    unfold clamp
    omega
  exact cap.trans (by decide)

/-! ## The tariff sets and their staging (R127 to R130) -/

/-- The tariff and log unit changed beside its log, its counters and its sets. -/
theorem Keeps.tluRest {s : State} {u : Tlu} (log : u.log = s.tlu.log) (next : u.nextRecord = s.tlu.nextRecord)
    (implausible : u.implausible = s.tlu.implausible) (totals : u.totals = s.tlu.totals)
    (sets : s.tlu.SetsBounded → u.SetsBounded) : Keeps s { s with tlu := u } :=
  .tluChange (by simp only [LogWf, log, next, imp_self])
    (by simp only [Tlu.InRange, implausible, totals, imp_self]) sets

theorem applyPendingSet_keeps (s : State) : Keeps s (applyPendingSet s) := by
  unfold applyPendingSet
  split
  · rename_i p pending
    refine (raiseNotice_keeps _ _ _ _).comp (.tluRest rfl rfl rfl rfl fun ⟨_, bounded⟩ => ⟨?_, ?_⟩)
    · rintro x ⟨⟩
      exact bounded p pending
    · rintro x ⟨⟩
  · exact Keeps.refl s

theorem settleStaging_keeps (g : Staging) (s : State) : Keeps s (settleStaging g s) := by
  have staged : ∀ x, Keeps s { s with tlu := { s.tlu with staging := x } } :=
    fun x => .tluRest rfl rfl rfl rfl id
  refine Keeps.ite (fun _ => Keeps.ite (fun _ => ?_) fun _ => staged none) fun _ => staged (some g)
  refine Keeps.comp (.tluRest rfl rfl rfl rfl fun ⟨active, _⟩ => ⟨active, ?_⟩) (staged none)
  rintro x ⟨⟩
  exact decodeSet_flagFallsBounded _

theorem deliverTariff_keeps (p : TariffPayload) (s : State) : Keeps s (deliverTariff p s) := by
  unfold deliverTariff
  split
  · split
    · exact settleStaging_keeps _ s
    · exact Keeps.ite (fun _ => Keeps.ite (fun _ => settleStaging_keeps _ s) fun _ => Keeps.refl s)
        fun _ => settleStaging_keeps _ s
  · exact Keeps.refl s

/-! ## The fare log and the totals (R133, R137, R138) -/

theorem roomInLog_sublist (l : List LogRecord) : (roomInLog l).Sublist l := by
  unfold roomInLog
  split
  · exact List.Sublist.refl l
  · exact removeFirst_sublist _ l

theorem appendRecord_keeps (body : LogBody) (s : State) : Keeps s (appendRecord body s) := by
  refine Keeps.ite (fun room => ?_) fun _ => Keeps.refl s
  refine (reportTest_asked _).keeps.comp (.tluChange (fun ⟨short, once, below⟩ => ?_) id id)
  have sub := roomInLog_sublist s.tlu.log
  refine ⟨?_, ?_, fun r hr => ?_⟩
  · simpa using room
  · rw [List.map_append, List.nodup_append]
    refine ⟨once.sublist (sub.map _), by simp, fun a ha b hb => ?_⟩
    obtain ⟨r, hr, rfl⟩ := List.mem_map.mp ha
    rw [List.mem_singleton.mp hb]
    exact (below r (sub.subset hr)).ne
  · rcases List.mem_append.mp hr with hr | hr
    · exact (below r (sub.subset hr)).trans (Nat.lt_succ_self _)
    · rw [List.mem_singleton.mp hr]
      exact Nat.lt_succ_self _

theorem withHire_inRange {t : ShiftTotals} (ht : t.InRange) (h : HireRecord) : (t.withHire h).InRange :=
  ⟨wrapInc_le ht.1, satAdd_le _ _ _, satAdd_le _ _ _, satAdd_le _ _ _, satAdd_le _ _ _, satAdd_le _ _ _⟩

theorem logHire_keeps (h : HireRecord) (s : State) : Keeps s (logHire h s) :=
  (appendRecord_keeps _ _).comp (.tluChange id (fun ⟨implausible, totals⟩ => ⟨implausible, withHire_inRange totals h⟩)
    id)

theorem counters_reset_inRange : Counters.reset.InRange := by
  unfold Counters.InRange
  decide

theorem totals_zero_inRange : ShiftTotals.zero.InRange := by
  unfold ShiftTotals.InRange
  decide

theorem logShift_keeps (s : State) : Keeps s (logShift s) :=
  (appendRecord_keeps _ _).comp (.freChange fun _ => counters_reset_inRange)

theorem beginShift_keeps (s : State) : Keeps s (beginShift s) :=
  .tluChange id (fun _ => ⟨Nat.zero_le _, totals_zero_inRange⟩) id

theorem countImplausible_keeps (s : State) : Keeps s (countImplausible s) :=
  .tluChange id (fun h => ⟨satAdd_le _ _ _, h.2⟩) id

theorem fareDelivered_keeps (n : Nat) (s : State) : Keeps s (fareDelivered n s) :=
  Keeps.ite (fun _ => (setReport_asked n .reported s).keeps.trans (reportTest_asked _).keeps) fun _ => Keeps.refl s

/-! ## The emergency record (R178 to R193) -/

theorem EmuKept.of_fields {e u : Emu} (alarms : u.alarms = e.alarms) (schedule : u.schedule = e.schedule)
    (state : u.state = e.state) (range : e.InRange → u.InRange) : EmuKept e u := by
  refine ⟨?_, ?_, range, ?_⟩
  · rw [alarms]; exact ⟨le_rfl, List.Sublist.refl _⟩
  · rw [schedule, state]; exact id
  · rw [state]; exact id

/-- The schedule put aside, in a state that takes no codes or took them before. -/
theorem EmuKept.of_noSchedule {e u : Emu} (alarms : u.alarms = e.alarms) (schedule : u.schedule = none)
    (range : e.InRange → u.InRange) (armed : u.state.takesCode = true → e.state.takesCode = true) : EmuKept e u := by
  refine ⟨?_, ?_, range, armed⟩
  · rw [alarms]; exact ⟨le_rfl, List.Sublist.refl _⟩
  · rw [schedule]; exact fun _ h => by cases h

/-- The record in a state whose alarms go out by the schedule. -/
def EmuState.Alarming (x : EmuState) : Prop := x = .active ∨ x = .acknowledged ∨ x = .covert

theorem EmuKept.of_alarming {e u : Emu} (alarms : u.alarms = e.alarms) (state : u.state.Alarming)
    (range : e.InRange → u.InRange) (armed : e.state.takesCode = true) : EmuKept e u := by
  refine ⟨?_, fun _ _ => state, range, fun _ => armed⟩
  rw [alarms]
  exact ⟨le_rfl, List.Sublist.refl _⟩

theorem EmuState.Alarming.takesCode {x : EmuState} (h : x.Alarming) : x.takesCode = true := by
  rcases h with rfl | rfl | rfl <;> rfl

theorem updEmu_keeps {f : Emu → Emu} {s : State} (h : EmuKept s.emu (f s.emu)) : Keeps s (updEmu f s) :=
  .emuChange h

theorem setMask_keeps (mask : Nat) (s : State) : Keeps s (setMask mask s) := .same rfl rfl rfl rfl rfl rfl rfl rfl

theorem askAlarm_keeps (s : State) : Keeps s (askAlarm s) := (askAlarm_asked s).keeps

theorem askClear_keeps (s : State) : Keeps s (askClear s) := (askClear_asked s).keeps

theorem takeDue_keeps (c : Schedule) {s : State} (state : s.emu.state.Alarming) : Keeps s (takeDue c s) :=
  (updEmu_keeps (f := fun e => { e with schedule := some (c.next s.now) })
    (.of_alarming rfl state id state.takesCode)).trans (askAlarm_keeps _)

theorem startFast_keeps (period : Nat) {s : State} (state : s.emu.state.Alarming) : Keeps s (startFast period s) :=
  takeDue_keeps _ state

theorem startSlow_keeps (period : Nat) {s : State} (state : s.emu.state.Alarming) : Keeps s (startSlow period s) :=
  updEmu_keeps (.of_alarming rfl state id state.takesCode)

theorem startArming_keeps {s : State} (schedule : ScheduleWf s → s.emu.schedule = none) :
    Keeps s (startArming s) := by
  have armed : Keeps s (updEmu (fun e => { e with state := .arming, holdTimer := some { since := s.now, acted := false } })
      s) :=
    updEmu_keeps ⟨⟨le_rfl, List.Sublist.refl _⟩, fun wf some => by simp [schedule wf] at some, id, by simp [EmuState.takesCode]⟩
  exact (armed.trans (setMask_keeps 1 _)).trans (silence_keeps _)

theorem returnToIdle_keeps (s : State) : Keeps s (returnToIdle s) := by
  have idled : Keeps s (updEmu Emu.idled s) :=
    updEmu_keeps (.of_noSchedule rfl rfl (fun ⟨elapsed, _, _⟩ => ⟨elapsed, Nat.zero_le _, Nat.zero_le _⟩)
      (by simp [Emu.idled, EmuState.takesCode]))
  have removed := ((idled.trans (setMask_keeps 4 _)).trans (removeFrame_asked .alarm .ownAlarm _).keeps).trans
    (removeFrame_asked .alarmClear .ownAlarm _).keeps
  refine Keeps.ite (fun _ => removed.trans (startArming_keeps fun _ => ?_)) fun _ => removed
  have asked := ((removeFrame_asked .alarm .ownAlarm (setMask 4 (updEmu Emu.idled s))).trans
    (removeFrame_asked .alarmClear .ownAlarm _)).emu
  rw [asked]
  rfl

theorem reactivate_keeps {s : State} (armed : s.emu.state.takesCode = true) : Keeps s (reactivate s) := by
  have active : Keeps s (updEmu (fun e =>
      { e with state := .active, clearsSent := 0, clearDue := none, seen := false, duress := false }) s) :=
    updEmu_keeps (.of_alarming rfl (.inl rfl) id armed)
  exact active.trans (startFast_keeps _ (.inl rfl))

theorem alarmDown_keeps (s : State) : Keeps s (alarmDown s) := by
  unfold alarmDown
  split
  · rename_i idle
    refine startArming_keeps fun wf => Option.not_isSome_iff_eq_none.mp fun some => ?_
    have := wf some
    simp [idle] at this
  all_goals exact updEmu_keeps (.of_fields rfl rfl rfl id)

theorem alarmUp_keeps (s : State) : Keeps s (alarmUp s) := by
  unfold alarmUp
  split
  · exact returnToIdle_keeps s
  all_goals exact updEmu_keeps (.of_fields rfl rfl rfl id)

theorem pushDigit_length (d : Fin 10) (code : List (Fin 10)) : (pushDigit d code).length ≤ 4 := by
  simp only [pushDigit, List.length_drop, List.length_append, List.length_singleton]
  omega

theorem emuDigit_keeps (d : Fin 10) (s : State) : Keeps s (emuDigit d s) :=
  Keeps.ite (fun _ => updEmu_keeps (.of_fields rfl rfl rfl fun ⟨elapsed, attempts, _⟩ =>
    ⟨elapsed, attempts, pushDigit_length d _⟩)) fun _ => Keeps.refl s

theorem clearCode_keeps (s : State) : Keeps s (updEmu (fun e => { e with code := [] }) s) :=
  updEmu_keeps (.of_fields rfl rfl rfl fun ⟨elapsed, attempts, _⟩ => ⟨elapsed, attempts, Nat.zero_le _⟩)

theorem emuClear_keeps (s : State) : Keeps s (emuClear s) :=
  Keeps.ite (fun _ => clearCode_keeps s) fun _ => Keeps.refl s

theorem noAttempts_inRange {e : Emu} (h : e.InRange) : e.elapsed ≤ 65535 ∧ 0 ≤ 3 ∧ e.code.length ≤ 4 :=
  ⟨h.1, Nat.zero_le _, h.2.2⟩

theorem enterClearing_keeps {s : State} (armed : s.emu.state.takesCode = true) : Keeps s (enterClearing s) :=
  Keeps.trans (updEmu_keeps (.of_noSchedule rfl rfl noAttempts_inRange fun _ => armed)) (askClear_keeps _)

theorem enterCovert_keeps {s : State} (armed : s.emu.state.takesCode = true) : Keeps s (enterCovert s) := by
  have covert : Keeps s (updEmu (fun e => { e with state := .covert, attempts := 0, duress := true }) s) :=
    updEmu_keeps (.of_alarming rfl (.inr (.inr rfl)) noAttempts_inRange armed)
  exact (covert.trans (startSlow_keeps _ (.inr (.inr rfl)))).trans (askAlarm_keeps _)

theorem wrongAttempt_keeps (s : State) : Keeps s (wrongAttempt s) :=
  updEmu_keeps (.of_fields rfl rfl rfl fun ⟨elapsed, _, code⟩ => ⟨elapsed, satAdd_le _ _ _, code⟩)

theorem decideCode_keeps {s : State} (armed : s.emu.state.takesCode = true) : Keeps s (decideCode s) := by
  unfold decideCode
  split
  · exact enterClearing_keeps armed
  · exact Keeps.ite (fun _ => updEmu_keeps (.of_fields rfl rfl rfl noAttempts_inRange)) fun _ => enterCovert_keeps armed
  · exact wrongAttempt_keeps s

theorem emuSubmit_keeps (s : State) : Keeps s (emuSubmit s) := by
  refine Keeps.ite (fun takes => ?_) fun _ => Keeps.refl s
  have armed : s.emu.state.takesCode = true := by
    unfold emuTakesKeys at takes
    exact (Bool.and_eq_true_iff.mp takes).2
  refine Keeps.trans (Keeps.ite (fun _ => Keeps.refl s) fun _ => ?_) (clearCode_keeps _)
  split
  case h_1 | h_2 | h_3 => exact decideCode_keeps armed
  all_goals exact Keeps.refl s

theorem clearSent_keeps (s : State) : Keeps s (clearSent s) := by
  refine Keeps.ite (fun _ => Keeps.ite (fun _ => updEmu_keeps (.of_fields rfl rfl rfl id)) fun _ => ?_)
    fun _ => Keeps.refl s
  exact (updEmu_keeps (f := fun e => { e with clearsSent := s.emu.clearsSent + 1 }) (.of_fields rfl rfl rfl id)).trans
    (returnToIdle_keeps _)

theorem ownSeen_keeps (serial : Serial) (s : State) : Keeps s (ownSeen serial s) := by
  refine Keeps.ite (fun _ => ?_) fun _ => Keeps.refl s
  split
  · rename_i active
    exact (updEmu_keeps (f := fun e => { e with state := .acknowledged, seen := true })
      (.of_alarming rfl (.inr (.inl rfl)) id (by rw [active]; rfl))).trans (startSlow_keeps _ (.inr (.inl rfl)))
  · rename_i covert
    exact (updEmu_keeps (f := fun e => { e with seen := true }) (.of_fields rfl rfl rfl id)).trans
      (startSlow_keeps _ (.inr (.inr covert)))
  all_goals exact Keeps.refl s

/-! ## The alarm list (R190, R191) -/

/-- The list changed to one that is as well formed. -/
theorem alarms_keeps {s u : State} (h : Keeps s u) (f : Emu → Emu)
    (wf : AlarmsWf s → AlarmsWf (updEmu f u)) (schedule : (f u.emu).schedule = u.emu.schedule := by rfl)
    (state : (f u.emu).state = u.emu.state := by rfl) (range : u.emu.InRange → (f u.emu).InRange := by exact id) :
    Keeps s (updEmu f u) := by
  have rest : Keeps s { updEmu f u with emu := { f u.emu with alarms := u.emu.alarms } } :=
    h.trans (.emuChange (.of_fields rfl schedule state range))
  exact ⟨⟨rest.nbt, rest.offers, wf, rest.store, rest.keys, rest.log, rest.schedule, rest.dtc, rest.counters, rest.tlu,
    rest.emu, rest.sets⟩, rest.pending, rest.records, rest.contest, rest.meter⟩

theorem alarmEntry_mem {s : State} {origin : Station} {a : AlarmEntry} (h : s.alarmEntry origin = some a) :
    a ∈ s.emu.alarms ∧ a.origin = origin :=
  ⟨List.mem_of_find?_eq_some h, by simpa using List.find?_some h⟩

theorem alarmEntry_none {s : State} {origin : Station} (h : s.alarmEntry origin = none) :
    ∀ a ∈ s.emu.alarms, a.origin ≠ origin := by
  intro a ha
  simpa using List.find?_eq_none.mp h a ha

theorem dropAlarm_keeps (origin : Station) (s : State) : Keeps s (dropAlarm origin s) :=
  Keeps.trans (updEmu_keeps (f := fun e => { e with alarms := e.alarms.filter (·.origin ≠ origin) })
    ⟨⟨List.length_filter_le _ _, List.filter_sublist.map _⟩, id, id, id⟩) (dropAlarmNotice_keeps origin _)

theorem updAlarms_keeps {p : AlarmEntry → Bool} {f : AlarmEntry → AlarmEntry} (s : State)
    (origin : ∀ a, (f a).origin = a.origin) :
    Keeps s (updEmu (fun e => { e with alarms := updateWhere p f e.alarms }) s) :=
  alarms_keeps (Keeps.refl s) _ fun ⟨short, once⟩ =>
    ⟨(length_updateWhere _ _ _).trans_le short, (map_updateWhere _ _ _ _ origin).symm ▸ once⟩

/-- An entry added behind the others, where there is room and its origin has none. -/
theorem addAlarm_keeps {s u : State} (h : Keeps s u) {l : List AlarmEntry} {a : AlarmEntry}
    (sub : l.Sublist s.emu.alarms) (room : AlarmsWf s → l.length < alarmCapacity)
    (fresh : ∀ x ∈ l, x.origin ≠ a.origin) (f : Emu → Emu) (hf : (f u.emu).alarms = l ++ [a])
    (schedule : (f u.emu).schedule = u.emu.schedule := by rfl)
    (state : (f u.emu).state = u.emu.state := by rfl) (range : u.emu.InRange → (f u.emu).InRange := by exact id) :
    Keeps s (updEmu f u) := by
  refine alarms_keeps h f (fun wf => ?_) schedule state range
  unfold AlarmsWf
  rw [show (updEmu f u).emu.alarms = l ++ [a] from hf]
  refine ⟨by simpa using room wf, ?_⟩
  rw [List.map_append, List.nodup_append]
  refine ⟨wf.2.sublist (sub.map _), by simp, fun o ho b hb => ?_⟩
  obtain ⟨x, hx, rfl⟩ := List.mem_map.mp ho
  rw [List.map_singleton, List.mem_singleton] at hb
  rw [hb]
  exact fresh x hx

theorem refreshAlarm_keeps {a : AlarmEntry} (p : AlarmPayload) {s : State} (mem : a ∈ s.emu.alarms) :
    Keeps s (refreshAlarm a p s) := by
  unfold refreshAlarm
  refine addAlarm_keeps (l := s.emu.alarms.filter (·.origin ≠ a.origin)) (Keeps.refl s) List.filter_sublist
    (fun wf => ?_) ?_ _ rfl rfl rfl id
  · have fewer : (s.emu.alarms.filter (·.origin ≠ a.origin)).length < s.emu.alarms.length :=
      List.length_filter_lt_length_iff_exists.mpr ⟨a, mem, by simp⟩
    exact fewer.trans_le wf.1
  · intro x hx
    simpa using (List.mem_filter.mp hx).2

theorem roomForAlarm_keeps (s : State) : Keeps s (roomForAlarm s) := by
  refine Keeps.ite (fun _ => Keeps.refl s) fun _ => ?_
  split
  · exact dropAlarm_keeps _ s
  · exact Keeps.refl s

theorem dropAlarm_alarms (origin : Station) (s : State) :
    (dropAlarm origin s).emu.alarms = s.emu.alarms.filter (·.origin ≠ origin) := by
  unfold dropAlarm dropAlarmNotice
  split
  · simp [updEmu]
  · rfl

theorem roomForAlarm_sublist (s : State) : (roomForAlarm s).emu.alarms.Sublist s.emu.alarms := by
  unfold roomForAlarm
  split
  · exact List.Sublist.refl _
  · split
    · rw [dropAlarm_alarms]; exact List.filter_sublist
    · exact List.Sublist.refl _

theorem roomForAlarm_room {s : State} (wf : AlarmsWf s) : (roomForAlarm s).emu.alarms.length < alarmCapacity := by
  unfold roomForAlarm
  split
  · assumption
  · rename_i full
    split
    · rename_i a l alarms
      rw [dropAlarm_alarms]
      have fewer : (s.emu.alarms.filter (·.origin ≠ a.origin)).length < s.emu.alarms.length :=
        List.length_filter_lt_length_iff_exists.mpr ⟨a, by simp [alarms], by simp⟩
      exact fewer.trans_le wf.1
    · rename_i none
      rw [none]
      decide

theorem newAlarm_keeps {p : AlarmPayload} {s : State} (absent : s.alarmEntry p.origin = none) :
    Keeps s (newAlarm p s) := by
  have sub := roomForAlarm_sublist s
  have added := addAlarm_keeps
    (a := { origin := p.origin, lastSerial := p.serial, lastRelayed := none, seen := p.seen,
            lastHeard := (roomForAlarm s).now })
    (roomForAlarm_keeps s) sub roomForAlarm_room (fun x hx => alarmEntry_none absent x (sub.subset hx))
    (fun e => { e with alarms := e.alarms ++ [
      { origin := p.origin, lastSerial := p.serial, lastRelayed := none, seen := p.seen,
        lastHeard := (roomForAlarm s).now }] }) rfl
  exact (added.trans (raiseNotice_keeps _ _ _ _)).trans (requestTone_keeps _ _)

theorem emuAlarm_keeps (p : AlarmPayload) (s : State) : Keeps s (emuAlarm p s) := by
  refine Keeps.ite (fun _ => ?_) fun _ => Keeps.refl s
  split
  · rename_i found
    exact refreshAlarm_keeps p (alarmEntry_mem found).1
  · rename_i absent
    exact newAlarm_keeps absent

theorem emuAlarmClear_keeps (p : AlarmPayload) (s : State) : Keeps s (emuAlarmClear p s) := by
  refine Keeps.ite (fun _ => ?_) fun _ => Keeps.refl s
  split
  · exact Keeps.ite (fun _ => dropAlarm_keeps _ s) fun _ => Keeps.refl s
  · exact Keeps.refl s

theorem emuAlarmSeen_keeps (dest : Station) (serial : Serial) (s : State) : Keeps s (emuAlarmSeen dest serial s) :=
  Keeps.ite (fun _ => ownSeen_keeps serial s) fun _ => updAlarms_keeps s fun _ => rfl

theorem tickElapsed_keeps (s : State) : Keeps s (tickElapsed s) :=
  Keeps.ite (fun _ => updEmu_keeps (.of_fields rfl rfl rfl fun ⟨_, attempts, code⟩ => ⟨satAdd_le _ _ _, attempts, code⟩))
    fun _ => Keeps.refl s

end Sys2Proof.Machine
end

section
/-! PROOFS. What the operations of the fare meter, the neighbour table and the access procedure keep. -/

namespace Sys2Proof.Machine

open Sys2Proof

-- The kernel's checks run one after another: side by side they ask for more threads than there is room for.
set_option Elab.async false

/-! ## The bounds of a hire record (R106, R112, R114) -/

/-- The bounds follow where the segments, the extras and the metres are those of a bounded record, and the fare is
computed afresh. -/
theorem bounded_withFare {h : HireRecord} (segments : h.segments.length ≤ segmentCapacity)
    (paid : h.paidMetres ≤ h.totalMetres) (total : h.totalMetres ≤ distanceCap) (waiting : h.waiting ≤ waitingCap) :
    h.withFare.bounded :=
  ⟨segments, paid, total, waiting, rfl⟩

theorem sum_segments (f : Segment → Nat) (h : HireRecord) :
    (h.segments.map f).sum = (h.closed.map f).sum + f h.current := by
  simp [HireRecord.segments]

theorem addMetres_ad_le (n : Nat) (g : Segment) : (addMetres n g).ad ≤ g.ad + n := (addMetres_ad n g).le

/-- An interval adds to the paid metres no more than to the total. -/
theorem chargeSegment_ad_le (second : Bool) (h : HireRecord) :
    (chargeSegment second h).ad ≤ h.current.ad + h.metresAdded := by
  unfold chargeSegment
  split
  · split
    · unfold addSecond
      split <;> simp
    · exact Nat.le_add_right _ _
  · exact addMetres_ad_le _ _

theorem addSecond_at (g : Segment) : (addSecond g).at_ = g.at_ + 1 := by
  unfold addSecond
  split <;> rfl

/-- An interval takes the waiting seconds to their limit and no further. -/
theorem chargeSegment_at_le (second : Bool) {h : HireRecord} (waiting : h.waiting ≤ waitingCap) :
    (chargeSegment second h).at_ + (h.closed.map (·.at_)).sum ≤ waitingCap := by
  have sum : h.waiting = (h.closed.map (·.at_)).sum + h.current.at_ := sum_segments _ h
  unfold chargeSegment
  split
  · split
    · rename_i counts
      have below : h.waiting < waitingCap := by simpa using (Bool.and_eq_true_iff.mp counts).2
      rw [addSecond_at]
      omega
    · omega
  · rw [(addMetres_time _ _).1]
    omega

theorem charged_bounded (second : Bool) {h : HireRecord} (bounded : h.bounded) : (h.charged second).bounded := by
  obtain ⟨segments, paid, total, waiting, -⟩ := bounded
  refine bounded_withFare ?_ ?_ ?_ ?_
  · simpa [HireRecord.segments] using segments
  · have ad := chargeSegment_ad_le second h
    have before : h.paidMetres = (h.closed.map (·.ad)).sum + h.current.ad := sum_segments _ h
    refine (sum_segments (·.ad) _).trans_le ?_
    show (h.closed.map (·.ad)).sum + (chargeSegment second h).ad ≤ h.totalMetres + h.metresAdded
    omega
  · show h.totalMetres + h.metresAdded ≤ distanceCap
    unfold HireRecord.metresAdded
    omega
  · have at_ := chargeSegment_at_le second waiting
    refine (sum_segments (·.at_) _).trans_le ?_
    show (h.closed.map (·.at_)).sum + (chargeSegment second h).at_ ≤ waitingCap
    omega

theorem charged_payable (second : Bool) (h : HireRecord) : (h.charged second).payable = h.payable := rfl

/-- The record of an interval's state alone: its segments, extras, metres and fare left. -/
theorem bounded_congr {h k : HireRecord} (closed : k.closed = h.closed) (current : k.current = h.current)
    (extras : k.extras = h.extras) (table : k.extrasTable = h.extrasTable) (total : k.totalMetres = h.totalMetres)
    (fare : k.fare = h.fare) (bounded : h.bounded) : k.bounded := by
  unfold HireRecord.bounded HireRecord.paidMetres HireRecord.waiting HireRecord.fareSum HireRecord.flagFall
    HireRecord.extrasSum HireRecord.segments HireRecord.amountOf at *
  rw [closed, current, extras, table, total, fare]
  exact bounded

/-- A segment opened adds nothing to the fare (R119). -/
theorem withTariff_bounded {h : HireRecord} (id : Nat) (r : Rates) (room : h.segments.length < segmentCapacity)
    (bounded : h.bounded) : (h.withTariff id r).bounded := by
  obtain ⟨-, paid, total, waiting, fare⟩ := bounded
  have segments : (h.withTariff id r).segments = h.segments ++ [openSegment id r false] := rfl
  have sum : ∀ f : Segment → Nat, f (openSegment id r false) = 0 →
      ((h.withTariff id r).segments.map f).sum = (h.segments.map f).sum := by
    intro f zero
    simp [segments, zero]
  refine ⟨?_, ?_, total, ?_, ?_⟩
  · rw [segments, List.length_append]
    exact room
  · exact (sum (·.ad) rfl).trans_le paid
  · exact (sum (·.at_) rfl).trans_le waiting
  · have flagFall : (h.withTariff id r).flagFall = h.flagFall := by
      unfold HireRecord.flagFall HireRecord.withTariff
      cases h.closed <;> rfl
    refine fare.trans (congrArg (min fareCap) ?_)
    unfold HireRecord.fareSum
    rw [flagFall, sum Segment.charge (by simp [Segment.charge, openSegment])]
    rfl

theorem withExtra_bounded {h : HireRecord} (id : Nat) (bounded : h.bounded) : (h.withExtra id).bounded := by
  obtain ⟨segments, paid, total, waiting, -⟩ := bounded
  exact bounded_withFare (h := { h with extras := h.moreExtra id }) segments paid total waiting

/-- The rates of a bounded set charge no flag fall above the cap. -/
theorem enabledRates_flagFall {t : TariffSet} (bounded : t.flagFallsBounded) (id : Nat) :
    ((t.enabledRates id).getD noRates).f ≤ fareCap := by
  unfold TariffSet.enabledRates
  split
  · split
    · rename_i x found
      split
      · exact bounded x (List.mem_of_getElem? found)
      · exact Nat.zero_le _
    · exact Nat.zero_le _
  · exact Nat.zero_le _

theorem openedHire_bounded {t : TariffSet} (bounded : t.flagFallsBounded) (id : Option OfferId) (s : State) :
    (openedHire t id s).bounded := by
  have flagFall := enabledRates_flagFall bounded (firstTariff t s.minute)
  refine ⟨by show 1 ≤ 4; decide, Nat.zero_le _, Nat.zero_le _, Nat.zero_le _, ?_⟩
  show ((t.enabledRates (firstTariff t s.minute)).getD noRates).f = min fareCap (openedHire t id s).fareSum
  have sum : (openedHire t id s).fareSum = ((t.enabledRates (firstTariff t s.minute)).getD noRates).f := by
    simp [HireRecord.fareSum, HireRecord.flagFall, HireRecord.segments, HireRecord.extrasSum, openedHire, openSegment,
      Segment.charge]
  rw [sum]
  exact (Nat.min_eq_right flagFall).symm

/-! ## The meter's record changed (R109 to R120) -/

/-- The hire record changed, and nothing of its being there. -/
theorem Keeps.fmrChange {s : State} {f : Fmr} (hire : f.hire.isSome = s.fmr.hire.isSome)
    (meter : MeterWf s → (∀ h, f.hire = some h → h.bounded ∧
      h.payable = if s.dtc.duty = .paying then some (payableOf h.rounding h.fare) else none) ∧
      ∀ h, f.atInterval = some h → h.bounded ∧ h.payable = none) : Keeps s { s with fmr := f } where
  toKeepsTables := .fmrChange
  pending := id
  records := by
    unfold RecordsWf
    simp only [hire]
    exact id
  contest := fun _ => id
  meter := fun wf => by
    have ⟨hires, intervals⟩ := meter wf
    obtain ⟨active, pending, stands, -, -⟩ := wf
    refine ⟨active, pending, ?_, hires, intervals⟩
    rw [hire]
    exact stands

/-- The hire held is changed to one as well formed. -/
theorem Keeps.hireChange {s : State} {h k : HireRecord} (held : s.fmr.hire = some h)
    (bounded : h.bounded → k.bounded) (payable : h.payable = (if s.dtc.duty = .paying then
      some (payableOf h.rounding h.fare) else none) → k.payable = if s.dtc.duty = .paying then
      some (payableOf k.rounding k.fare) else none) :
    Keeps s { s with fmr := { s.fmr with hire := some k } } := by
  refine .fmrChange (by simp [held]) fun ⟨_, _, _, hires, intervals⟩ => ⟨?_, intervals⟩
  rintro x ⟨⟩
  obtain ⟨b, p⟩ := hires h held
  exact ⟨bounded b, payable p⟩

theorem countPulse_keeps (s : State) : Keeps s (countPulse s) := by
  unfold countPulse
  split
  · rename_i h held
    exact Keeps.ite (fun _ => .hireChange held (bounded_congr rfl rfl rfl rfl rfl rfl) id) fun _ => Keeps.refl s
  · exact Keeps.refl s

theorem closeInterval_keeps (second : Bool) {s : State} (hired : s.dtc.duty = .hired) :
    Keeps s (closeInterval second s) := by
  unfold closeInterval
  split
  · rename_i h held
    have charge : ∀ u : State, u.dtc = s.dtc → u.fmr = s.fmr →
        Keeps u { u with fmr := { u.fmr with hire := some (h.charged second) } } := by
      intro u dtc fmr
      refine .hireChange (fmr ▸ held) (charged_bounded second) fun p => ?_
      simpa [dtc, hired, charged_payable] using p
    refine Keeps.comp (charge _ ?_ ?_) (Keeps.ite (fun _ => countImplausible_keeps s) fun _ => Keeps.refl s)
    · split <;> rfl
    · split <;> rfl
  · exact Keeps.refl s

theorem tariffDigit_keeps {d : Nat} {s t : State} (taken : tariffDigit d s = some t) : Keeps s t := by
  unfold tariffDigit at taken
  split at taken
  · rename_i h r held rates
    split at taken
    · rename_i may
      cases taken
      have ⟨hired, room⟩ : s.dtc.duty = .hired ∧ h.segments.length < segmentCapacity := by
        simp only [Bool.and_eq_true, decide_eq_true_eq] at may
        exact ⟨may.1.1.1, may.2⟩
      refine .hireChange held (withTariff_bounded d r room) fun p => ?_
      simp only [hired] at p ⊢
      exact p
    · cases taken
  · cases taken

theorem extraDigit_keeps {d : Nat} {s t : State} (taken : extraDigit d s = some t) : Keeps s t := by
  unfold extraDigit at taken
  split at taken
  · rename_i h held
    split at taken
    · cases taken
      refine .hireChange held (withExtra_bounded d) fun p => ?_
      show h.payable.map _ = _
      rw [p]
      split <;> rfl
    · cases taken
  · cases taken

theorem startInterval_keeps (s : State) : Keeps s (startInterval s) :=
  Keeps.ite (fun _ => .fmrChange rfl fun ⟨_, _, _, hires, intervals⟩ => ⟨hires, intervals⟩) fun _ => Keeps.refl s

theorem nodup_map_updateWhere {α β : Type} {p : α → Bool} {f : α → α} {g : α → β} {l : List α}
    (hf : ∀ a, g (f a) = g a) (h : (l.map g).Nodup) : ((updateWhere p f l).map g).Nodup :=
  (map_updateWhere p f g l hf).symm ▸ h

/-! ## The neighbour table and the keys (R67 to R74) -/

/-- The table changed within its capacity, each station once. -/
theorem Keeps.neighboursChange {s : State} {n : List Neighbour} {level : Bool}
    (short : NbtWf s → n.length ≤ neighbourCapacity) (once : NbtWf s → (n.map (·.station)).Nodup) :
    Keeps s { s with nbt := { s.nbt with neighbours := n, homeLevel := level } } :=
  .nbtChange fun wf => ⟨short wf, once wf, wf.2.2⟩

theorem loseHome_keeps (s : State) : Keeps s (loseHome s) :=
  .neighboursChange (·.1) (·.2.1)

theorem dropNeighbour_keeps (station : Station) (s : State) : Keeps s (dropNeighbour station s) := by
  have dropped : Keeps s
      { s with nbt := { s.nbt with neighbours := s.nbt.neighbours.filter (·.station ≠ station) } } :=
    .neighboursChange (fun wf => (List.length_filter_le _ _).trans wf.1)
      fun wf => wf.2.1.sublist (List.filter_sublist.map _)
  exact Keeps.ite (fun _ => dropped.trans (loseHome_keeps _)) fun _ => dropped

theorem roomForNeighbour_keeps (s : State) : Keeps s (roomForNeighbour s) := by
  refine Keeps.ite (fun _ => Keeps.refl s) fun _ => ?_
  split
  · exact dropNeighbour_keeps _ s
  · exact Keeps.refl s

theorem pick_mem {α : Type} {better : α → α → Bool} {l : List α} {a : α} (h : pick better l = some a) : a ∈ l := by
  induction l generalizing a with
  | nil => cases h
  | cons b l ih =>
    unfold pick at h
    split at h
    · cases h
      exact List.mem_cons_self
    · rename_i c found
      split at h <;> cases h
      · exact List.mem_cons_of_mem _ (ih found)
      · exact List.mem_cons_self

theorem pick_eq_none {α : Type} {better : α → α → Bool} {l : List α} (h : pick better l = none) : l = [] := by
  cases l with
  | nil => rfl
  | cons b l =>
    unfold pick at h
    split at h
    · cases h
    · split at h <;> cases h

theorem replacedNeighbour_mem {l : List Neighbour} {n : Neighbour} (h : replacedNeighbour l = some n) : n ∈ l := by
  unfold replacedNeighbour at h
  split at h
  · rename_i found
    cases h
    exact (List.mem_filter.mp (pick_mem found)).1
  · exact pick_mem h

theorem replacedNeighbour_none {l : List Neighbour} (h : replacedNeighbour l = none) : l = [] := by
  unfold replacedNeighbour at h
  split at h
  · cases h
  · exact pick_eq_none h

theorem dropNeighbour_neighbours (station : Station) (s : State) :
    (dropNeighbour station s).nbt.neighbours = s.nbt.neighbours.filter (·.station ≠ station) := by
  unfold dropNeighbour
  dsimp only
  split <;> rfl

theorem roomForNeighbour_room {s : State} (wf : NbtWf s) :
    (roomForNeighbour s).nbt.neighbours.length < neighbourCapacity := by
  unfold roomForNeighbour
  split
  · assumption
  · split
    · rename_i n found
      rw [dropNeighbour_neighbours]
      have fewer : (s.nbt.neighbours.filter (·.station ≠ n.station)).length < s.nbt.neighbours.length :=
        List.length_filter_lt_length_iff_exists.mpr ⟨n, replacedNeighbour_mem found, by simp⟩
      exact fewer.trans_le wf.1
    · rename_i empty
      rw [replacedNeighbour_none empty]
      decide

theorem roomForNeighbour_sublist (s : State) : (roomForNeighbour s).nbt.neighbours.Sublist s.nbt.neighbours := by
  unfold roomForNeighbour
  split
  · exact List.Sublist.refl _
  · split
    · rw [dropNeighbour_neighbours]; exact List.filter_sublist
    · exact List.Sublist.refl _

/-- The table changed once more, after an operation that keeps everything. -/
theorem Keeps.thenNbt {s u t : State} (h : Keeps s u) (wf : NbtWf s → NbtWf t) (ocu : t.ocu = u.ocu := by simp)
    (mst : t.mst = u.mst := by simp) (tlu : t.tlu = u.tlu := by simp) (emu : t.emu = u.emu := by simp)
    (dtc : t.dtc = u.dtc := by simp) (fmr : t.fmr = u.fmr := by simp)
    (counters : t.fre.counters = u.fre.counters := by simp) : Keeps s t := by
  have rest : Keeps s { t with nbt := u.nbt } := h.trans (.same rfl ocu mst tlu emu dtc fmr counters)
  exact ⟨⟨wf, rest.offers, rest.alarms, rest.store, rest.keys, rest.log, rest.schedule, rest.dtc, rest.counters, rest.tlu,
    rest.emu, rest.sets⟩, rest.pending, rest.records, rest.contest, rest.meter⟩

theorem neighbour_none {s : State} {station : Station} (h : s.neighbour station = none) :
    ∀ n ∈ s.nbt.neighbours, n.station ≠ station := by
  intro n hn
  simpa using List.find?_eq_none.mp h n hn

theorem refreshNeighbour_keeps (h : Header) (s : State) : Keeps s (refreshNeighbour h s) := by
  unfold refreshNeighbour
  split
  · exact .neighboursChange (fun wf => (length_updateWhere _ _ _).trans_le wf.1)
      fun wf => nodup_map_updateWhere (by intro _; rfl) wf.2.1
  · rename_i absent
    refine (roomForNeighbour_keeps s).thenNbt fun wf => ?_
    have sub := roomForNeighbour_sublist s
    obtain ⟨-, once, rest⟩ := (roomForNeighbour_keeps s).nbt wf
    refine ⟨?_, ?_, rest⟩
    · simpa using roomForNeighbour_room wf
    · rw [List.map_append, List.nodup_append]
      refine ⟨once, by simp, fun a ha b hb => ?_⟩
      obtain ⟨n, hn, rfl⟩ := List.mem_map.mp ha
      rw [List.map_singleton, List.mem_singleton] at hb
      rw [hb]
      exact neighbour_none absent n (sub.subset hn)

theorem hearHeader_keeps (h : Header) (s : State) : Keeps s (hearHeader h s) := by
  refine Keeps.ite (fun _ => (refreshNeighbour_keeps h s).trans ?_) fun _ => refreshNeighbour_keeps h s
  have reachable : ∀ u : State, Keeps u { u with nbt := { u.nbt with homeLevel := true } } :=
    fun u => .neighboursChange (·.1) (·.2.1)
  refine (homeHeard_asked _).keeps.comp (Keeps.ite (fun _ => reachable _) fun _ => ?_)
  exact (reportTest_asked _).keeps.comp (reachable _)

theorem enterKey_keeps (k : DupName) (s : State) : Keeps s (enterKey k s) := by
  unfold enterKey
  split
  · exact Keeps.refl s
  · rename_i absent
    refine .nbtChange fun ⟨neighbours, stations, dups, names, relays⟩ => ⟨neighbours, stations, ?_, ?_, relays⟩
    · rw [List.length_append, List.length_singleton]
      split
      · assumption
      · rw [List.length_drop]
        have capacity : 1 ≤ dupCapacity := by decide
        omega
    · have sub : (if s.nbt.dups.length < dupCapacity then s.nbt.dups else s.nbt.dups.drop 1).Sublist s.nbt.dups := by
        split
        · exact List.Sublist.refl _
        · exact List.drop_sublist 1 _
      rw [List.map_append, List.nodup_append]
      refine ⟨names.sublist (sub.map _), by simp, fun a ha b hb => ?_⟩
      obtain ⟨d, hd, rfl⟩ := List.mem_map.mp ha
      rw [List.map_singleton, List.mem_singleton] at hb
      rw [hb]
      have other : ∀ d ∈ s.nbt.dups, d.name ≠ k := by simpa [hasKey] using absent
      exact other d (sub.subset hd)

theorem ageKey_keeps (k : DupName) (s : State) :
    Keeps s { s with nbt := { s.nbt with dups := s.nbt.dups.filter fun d => !dupAged k s d } } :=
  .nbtChange fun ⟨neighbours, stations, dups, names, relays⟩ =>
    ⟨neighbours, stations, (List.length_filter_le _ _).trans dups, names.sublist (List.filter_sublist.map _), relays⟩

/-! ## The relay schedule (R75 to R81) -/

theorem relayFrame_keeps (k : RelayKey) (s : State) : Keeps s (relayFrame k s) := (removeFrame_asked _ _ s).keeps

theorem cancelRelay_keeps (k : RelayKey) (s : State) : Keeps s (cancelRelay k s) := by
  unfold cancelRelay
  split
  · split
    · exact freeRelay_keeps k s
    · exact (freeRelay_keeps k _).comp (relayFrame_keeps k s)
    · exact Keeps.refl s
  · exact Keeps.refl s

theorem relay?_none {s : State} {k : RelayKey} (h : s.relay? k = none) : ∀ r ∈ s.nbt.relays, r.key ≠ k := by
  intro r hr
  simpa using List.find?_eq_none.mp h r hr

theorem scheduleRelay_keeps {k : RelayKey} (h : Header) (payload : List Byte) {s : State}
    (absent : s.relay? k = none) (room : s.nbt.relays.length < relayCapacity) :
    Keeps s (scheduleRelay k h payload s) := by
  refine .nbtChange fun ⟨neighbours, stations, dups, names, relays, keys⟩ =>
    ⟨neighbours, stations, dups, names, ?_, ?_⟩
  · simpa using room
  · rw [List.map_append, List.nodup_append]
    refine ⟨keys, by simp, fun a ha b hb => ?_⟩
    obtain ⟨r, hr, rfl⟩ := List.mem_map.mp ha
    rw [List.map_singleton, List.mem_singleton] at hb
    rw [hb]
    exact relay?_none absent r hr

theorem enterKey_relays (k : DupName) (s : State) : (enterKey k s).nbt.relays = s.nbt.relays := by
  unfold enterKey
  split <;> rfl

theorem relayCopy_keeps (kind : AlarmKind) (p : AlarmPayload) (f : AirFrame) (s : State) :
    Keeps s (relayCopy kind p f s) := by
  refine Keeps.ite (fun _ => Keeps.refl s) fun _ => ?_
  split
  · exact Keeps.ite (fun _ => cancelRelay_keeps _ s) fun _ => Keeps.refl s
  · rename_i absent
    refine Keeps.ite (fun _ => Keeps.refl s) fun _ => (enterKey_keeps _ s).trans
      (Keeps.ite (fun may => scheduleRelay_keeps _ _ ?_ ?_) fun _ => Keeps.refl _)
    · unfold State.relay? at absent ⊢
      rw [enterKey_relays]
      exact absent
    · unfold mayRelay at may
      simpa using (Bool.and_eq_true_iff.mp may).2

theorem relaySeen_keeps (dest : Station) (serial : Serial) (s : State) : Keeps s (relaySeen dest serial s) :=
  Keeps.ite (fun _ => Keeps.refl s) fun _ =>
    (enterKey_keeps _ _).comp ((cancelRelay_keeps _ _).comp (cancelRelay_keeps _ s))

theorem endRelayDelay_keeps (r : Relay) (s : State) : Keeps s (endRelayDelay r s) := by
  refine Keeps.ite (fun _ => freeRelay_keeps _ s) fun _ => Keeps.trans (requestFrame_asked (relayRequest r) s).keeps
    (Keeps.ite (fun _ => freeRelay_keeps _ _) fun _ => updRelay_keeps (by intro _; rfl) _)

theorem markRelayed_keeps (k : RelayKey) (s : State) : Keeps s (markRelayed k s) :=
  Keeps.ite (fun _ => updAlarms_keeps s fun _ => rfl) fun _ => Keeps.refl s

theorem relayInService_keeps (k : RelayKey) (s : State) : Keeps s (relayInService k s) :=
  (markRelayed_keeps k _).comp (updRelay_keeps (by intro _; rfl) s)

theorem tickRelays_keeps (s : State) : Keeps s (tickRelays s) :=
  .nbtChange fun ⟨neighbours, stations, dups, names, relays, keys⟩ =>
    ⟨neighbours, stations, dups, names, (length_updateWhere _ _ _).trans_le relays,
      nodup_map_updateWhere (by intro _; rfl) keys⟩

end Sys2Proof.Machine
end

section
/-! PROOFS. What the operations of the contest and the duty transitions keep. -/

namespace Sys2Proof.Machine

open Sys2Proof

-- The kernel's checks run one after another: side by side they ask for more threads than there is room for.
set_option Elab.async false

/-! ## The heard bids of an entry (R84) -/

/-- Heard bids within the limit, each station once. -/
def HeardListWf (l : List HeardBid) : Prop := l.length ≤ heardCapacity ∧ (l.map (·.rank.station)).Nodup

/-- A bid of a station that has none joins a list with room. -/
theorem insertBid_wf {b : HeardBid} {l : List HeardBid} (room : l.length < heardCapacity)
    (once : (l.map (·.rank.station)).Nodup) (fresh : ∀ x ∈ l, x.rank.station ≠ b.rank.station) :
    HeardListWf (insertBid b l) := by
  have perm := insertBid_perm b l
  refine ⟨perm.length_eq.trans_le room, ((perm.map _).nodup_iff).mpr (List.nodup_cons.mpr ⟨fun mem => ?_, once⟩)⟩
  obtain ⟨x, hx, same⟩ := List.mem_map.mp mem
  exact fresh x hx same

theorem placeForBid_spec {r : BidRank} {l m : List HeardBid} (h : placeForBid r l = some m)
    (short : l.length ≤ heardCapacity) : m.length < heardCapacity ∧ m.Sublist l := by
  unfold placeForBid at h
  split at h
  · cases h
    exact ⟨‹_›, List.Sublist.refl _⟩
  · split at h
    · rename_i withdrawn
      cases h
      exact ⟨(length_removeFirst_lt (by simpa using withdrawn)).trans_le short, removeFirst_sublist _ l⟩
    · split at h
      · rename_i full _ w last
        split at h <;> cases h
        refine ⟨?_, List.dropLast_sublist l⟩
        rw [List.length_dropLast]
        have : 1 ≤ heardCapacity := by decide
        omega
      · cases h

theorem hearBid_wf (take : Bool) (r : BidRank) {l : List HeardBid} (wf : HeardListWf l) :
    HeardListWf (hearBid take r l) := by
  obtain ⟨short, once⟩ := wf
  unfold hearBid
  dsimp only
  split
  · rename_i old found
    split
    · exact ⟨short, once⟩
    · have mem := List.mem_of_find?_eq_some found
      have station : old.rank.station = r.station := by simpa using List.find?_some found
      have fewer : (l.filter (·.rank.station ≠ r.station)).length < l.length :=
        List.length_filter_lt_length_iff_exists.mpr ⟨old, mem, by simp [station]⟩
      exact insertBid_wf (fewer.trans_le short) (once.sublist (List.filter_sublist.map _))
        fun x hx => by simpa using (List.mem_filter.mp hx).2
  · rename_i absent
    split
    · rename_i m place
      obtain ⟨room, sub⟩ := placeForBid_spec place short
      exact insertBid_wf room (once.sublist (sub.map _))
        fun x hx => by simpa using List.find?_eq_none.mp absent x (sub.subset hx)
    · exact ⟨short, once⟩

theorem withdrawBid_wf (station : Station) {l : List HeardBid} (wf : HeardListWf l) :
    HeardListWf (withdrawBid station l) := by
  obtain ⟨short, once⟩ := wf
  unfold withdrawBid
  split
  · rename_i b found
    have mem := List.mem_of_find?_eq_some found
    have same : b.rank.station = station := by
      have := List.find?_some found
      simp only [Bool.and_eq_true, decide_eq_true_eq] at this
      exact this.1
    have fewer : (l.filter (·.rank.station ≠ station)).length < l.length :=
      List.length_filter_lt_length_iff_exists.mpr ⟨b, mem, by simp [same]⟩
    refine ⟨?_, ?_⟩
    · rw [List.length_append, List.length_singleton]
      omega
    · rw [List.map_append, List.nodup_append]
      refine ⟨once.sublist (List.filter_sublist.map _), by simp, fun a ha x hx => ?_⟩
      obtain ⟨y, hy, rfl⟩ := List.mem_map.mp ha
      rw [List.map_singleton, List.mem_singleton] at hx
      rw [hx, same]
      simpa using (List.mem_filter.mp hy).2
  · exact ⟨short, once⟩

theorem updHeard_keeps {id : OfferId} {f : List HeardBid → List HeardBid} (s : State)
    (hf : ∀ l, HeardListWf l → HeardListWf (f l)) : Keeps s (updHeard id f s) :=
  updOffer_keeps (by intro _; rfl) (fun e he => hf e.heard he) fun _ _ _ _ => .inl rfl

/-! ## Entries moved (R86 to R95, R102) -/

theorem roomForOffer_sublist (l : List OfferEntry) : (roomForOffer l).Sublist l := by
  unfold roomForOffer
  split
  · exact List.Sublist.refl l
  · exact removeFirst_sublist _ l

theorem wonCount_removeFirst {p : OfferEntry → Bool} {l : List OfferEntry} (hp : ∀ e, p e = true → e.state ≠ .won) :
    wonCount (removeFirst p l) = wonCount l := by
  unfold wonCount
  induction l with
  | nil => rfl
  | cons a l ih =>
    unfold removeFirst
    split
    · rename_i ha
      simp [hp a ha]
    · rw [List.filter_cons, List.filter_cons]
      split
      · simpa using ih
      · exact ih

theorem spent_notWon {x : OfferState} (h : x.spent = true) : x ≠ .won := by
  rintro rfl
  cases h

theorem newOffer_state (id : OfferId) (p : OfferPayload) (s : State) :
    (newOffer id p s).state = .passed ∨ (newOffer id p s).state = .waiting ∧ s.emergencyIdle = true := by
  unfold newOffer
  dsimp only
  split
  · rename_i ok
    refine .inr ⟨rfl, ?_⟩
    simp only [eligible, Bool.and_eq_true] at ok
    exact ok.1.1.1.1.2
  · exact .inl rfl

theorem newOffer_heard (id : OfferId) (p : OfferPayload) (s : State) :
    (newOffer id p s).id = id ∧ (newOffer id p s).heard = [] := by
  unfold newOffer
  dsimp only
  split <;> exact ⟨rfl, rfl⟩

theorem offer?_none {s : State} {id : OfferId} (h : s.offer? id = none) : ∀ e ∈ s.ocu.offers, e.id ≠ id := by
  intro e he
  simpa using List.find?_eq_none.mp h e he

theorem hearOffer_keeps (source : Station) (p : OfferPayload) (s : State) : Keeps s (hearOffer source p s) := by
  unfold hearOffer
  dsimp only
  split
  · exact Keeps.refl s
  · rename_i absent
    have absent : s.offer? ⟨source, p.serial⟩ = none := by simpa using absent
    split
    · rename_i room
      have sub := roomForOffer_sublist s.ocu.offers
      obtain ⟨hid, hheard⟩ := newOffer_heard ⟨source, p.serial⟩ p s
      have table : TableKept s.ocu.offers (roomForOffer s.ocu.offers ++ [newOffer ⟨source, p.serial⟩ p s]) := by
        refine ⟨fun _ => by simpa using room, fun once => ?_, fun wf e he => ?_⟩
        · rw [List.map_append, List.nodup_append]
          refine ⟨once.sublist (sub.map _), by simp, fun a ha b hb => ?_⟩
          obtain ⟨e, he, rfl⟩ := List.mem_map.mp ha
          rw [List.map_singleton, List.mem_singleton] at hb
          rw [hb, hid]
          exact offer?_none absent e (sub.subset he)
        · rcases List.mem_append.mp he with he | he
          · exact wf e (sub.subset he)
          · rw [List.mem_singleton.mp he]
            unfold OfferEntry.HeardWf
            rw [hheard]
            exact ⟨Nat.zero_le _, List.nodup_nil⟩
      have notWon : (newOffer ⟨source, p.serial⟩ p s).state ≠ .won := by
        rcases newOffer_state ⟨source, p.serial⟩ p s with h | ⟨h, -⟩ <;> simp [h]
      have won : wonCount (roomForOffer s.ocu.offers ++ [newOffer ⟨source, p.serial⟩ p s]) = wonCount s.ocu.offers := by
        have kept : wonCount (roomForOffer s.ocu.offers) = wonCount s.ocu.offers := by
          unfold roomForOffer
          split
          · rfl
          · exact wonCount_removeFirst fun e he => spent_notWon he
        rw [← kept]
        simp [wonCount, List.filter_append, notWon]
      refine ⟨.ocuChange table, fun ⟨once, one⟩ => ⟨table.ids once, won.trans one⟩, id, fun _ calm armed e he => ?_, id⟩
      rcases List.mem_append.mp he with he | he
      · exact calm armed e (sub.subset he)
      · rw [List.mem_singleton.mp he]
        rcases newOffer_state ⟨source, p.serial⟩ p s with h | ⟨-, idle⟩
        · simp [h]
        · have idle : s.emu.state = .idle := by simpa [State.emergencyIdle] using idle
          simp only at armed
          rw [idle] at armed
          cases armed
    · exact Keeps.refl s

theorem standsIn_of_found' {s : State} {id : OfferId} {e : OfferEntry} (found : s.offer? id = some e) :
    StandsIn e.id e.state s := by
  obtain ⟨-, rfl⟩ := offer?_mem found
  exact standsIn_of_found found

theorem yield_keeps {e : OfferEntry} {s : State} (stands : StandsIn e.id e.state s) : Keeps s (yield e s) := by
  unfold yield
  split
  · rename_i waiting
    exact updOffer_keeps_move .yielded (waiting ▸ stands)
  · rename_i bid
    rw [bid] at stands
    split
    · exact (removeFrame_asked _ _ _).keeps.comp (updOffer_keeps_move .yielded stands)
    all_goals exact updOffer_keeps_move .yielded stands
  all_goals exact Keeps.refl s

theorem returnToContest_keeps {e : OfferEntry} {s : State} (stands : StandsIn e.id .yielded s) :
    Keeps s (returnToContest e s) := by
  unfold returnToContest
  split
  · exact updOffer_keeps_move .bid stands
  all_goals exact updOffer_keeps_move .waiting stands

theorem yieldIfBetter_keeps (id : OfferId) (s : State) : Keeps s (yieldIfBetter id s) := by
  unfold yieldIfBetter
  split
  · rename_i e found
    exact Keeps.ite (fun _ => yield_keeps (standsIn_of_found' found)) fun _ => Keeps.refl s
  · exact Keeps.refl s

theorem returnIfClear_keeps (old : List HeardBid) (id : OfferId) (s : State) : Keeps s (returnIfClear old id s) := by
  unfold returnIfClear
  split
  · rename_i e found
    refine Keeps.ite (fun clear => returnToContest_keeps ?_) fun _ => Keeps.refl s
    simp only [Bool.and_eq_true, decide_eq_true_eq] at clear
    exact clear.1.1.2 ▸ standsIn_of_found' found
  · exact Keeps.refl s

theorem hearBidFrame_keeps (source : Station) (p : BidPayload) (s : State) : Keeps s (hearBidFrame source p s) := by
  unfold hearBidFrame
  split
  · exact Keeps.ite (fun _ => Keeps.refl s) fun _ => (returnIfClear_keeps _ _ _).comp
      ((yieldIfBetter_keeps _ _).comp (updHeard_keeps s fun _ => hearBid_wf _ _))
  · exact Keeps.refl s

theorem hearWithdraw_keeps (source : Station) (id : OfferId) (s : State) : Keeps s (hearWithdraw source id s) := by
  unfold hearWithdraw
  split
  · exact Keeps.ite (fun _ => Keeps.refl s) fun _ =>
      (returnIfClear_keeps _ _ _).comp (updHeard_keeps s fun _ => withdrawBid_wf _)
  · exact Keeps.refl s

theorem hearRelease_keeps (source : Station) (id : OfferId) (s : State) : Keeps s (hearRelease source id s) := by
  unfold hearRelease
  split
  · exact Keeps.ite (fun _ => Keeps.refl s) fun _ =>
      (returnIfClear_keeps _ _ _).comp (updHeard_keeps s fun _ => withdrawBid_wf _)
  · exact Keeps.refl s

theorem askContest_keeps (kind : FrameKind) (id : OfferId) (s : State) : Keeps s (askContest kind id s) :=
  (askContest_asked kind id s).keeps

theorem bidNow_keeps {id : OfferId} {e : OfferEntry} {s : State} (found : s.offer? id = some e)
    (waiting : e.state = .waiting) : Keeps s (bidNow id s) := by
  have bid : Keeps s (s.updOffer id fun x => { x with state := .bid, delayDeadline := none }) :=
    updOffer_keeps_move .bid (waiting ▸ standsIn_of_found found)
  exact Keeps.comp (updOffer_keeps_same (by intro _; rfl) (by intro _; rfl) (by intro _; rfl))
    (bid.trans (requestFrame_asked (contestFrame .bid id) _).keeps)

theorem bidInService_keeps (id : OfferId) (s : State) : Keeps s (bidInService id s) := by
  unfold bidInService
  split
  · have sent : Keeps s (s.updOffer id fun x => { x with bidFrame := .sent }) :=
      updOffer_keeps_same (fun _ => rfl) (fun _ => rfl) fun _ => rfl
    exact Keeps.ite (fun _ => (askContest_keeps _ _ _).comp sent) fun _ => sent
  · exact Keeps.refl s

theorem settleUnwon_keeps {e : OfferEntry} {s : State} (stands : StandsIn e.id e.state s) :
    Keeps s (settleUnwon e s) := by
  unfold settleUnwon
  split
  · rename_i bid
    rw [bid] at stands
    split
    · exact (removeFrame_asked _ _ _).keeps.comp (updOffer_keeps_move .late stands)
    · exact updOffer_keeps_move .late stands
    · exact updOffer_keeps_move .passed stands
  · rename_i waiting
    exact updOffer_keeps_move .passed (waiting ▸ stands)
  · rename_i yielded
    exact updOffer_keeps_move .passed (yielded ▸ stands)
  all_goals exact Keeps.refl s

/-- The entry leaves the contest, freed at once or put to a state at rest (R104). -/
theorem finishOffer_offers (id : OfferId) (st : OfferState) (s : State) :
    (finishOffer id st s).ocu.offers = s.ocu.offers.filter (·.id ≠ id) ∨
    (finishOffer id st s).ocu.offers = updateWhere (·.id = id)
      (fun x => { x with state := st, jobTimer := none, delayDeadline := none }) s.ocu.offers ∨
    (finishOffer id st s).ocu.offers = s.ocu.offers ∧ ∀ e ∈ s.ocu.offers, e.id ≠ id := by
  unfold finishOffer
  split
  · split
    · exact .inl rfl
    · exact .inr (.inl rfl)
  · rename_i absent
    exact .inr (.inr ⟨rfl, offer?_none absent⟩)

theorem freeOffer_keeps {id : OfferId} {x : OfferState} {s : State} (stands : StandsIn id x s) (old : x ≠ .won) :
    Keeps s (s.freeOffer id) := by
  refine .ocuChange ⟨.of_sublist List.filter_sublist, fun once => ?_,
    fun _ rest e he => rest e (List.mem_filter.mp he).1⟩
  unfold wonCount
  rw [List.filter_filter]
  refine congrArg List.length (List.filter_congr fun e he => ?_)
  by_cases hid : e.id = id
  · simp [hid, stands once e he hid, old]
  · simp [hid]

theorem finishOffer_keeps {id : OfferId} {st x : OfferState} {s : State} (stands : StandsIn id x s) (old : x ≠ .won)
    (rest : st.AtRest) : Keeps s (finishOffer id st s) := by
  unfold finishOffer
  split
  · exact Keeps.ite (fun _ => freeOffer_keeps stands old) fun _ =>
      updOffer_keeps_move st stands (old := old) (new := rest.2.2.2) (rest := fun _ => rest)
  · exact Keeps.refl s

/-! ## Contests abandoned (R102) -/

/-- A running contest is abandoned among entries that are not WON. -/
theorem abandonOffer_keeps {e : OfferEntry} {s : State} (ids : (s.ocu.offers.map (·.id)).Nodup →
    e.state.running = true → ∀ x ∈ s.ocu.offers, x.id = e.id → x.state ≠ .won) : Keeps s (abandonOffer e s) := by
  refine Keeps.ite (fun running => ?_) fun _ => Keeps.refl s
  refine (abandonFrame_asked e _).keeps.comp (updOffer_keeps (by intro _; rfl) (by intro e he; exact he)
    fun once x hx same => .inr ⟨ids once running x hx same, ?_, fun _ => ?_⟩)
  · exact nofun
  · exact show OfferState.passed.AtRest by decide

/-- An entry after one is abandoned: of an entry before, its state kept or PASSED. -/
theorem abandonOffer_mem {e : OfferEntry} {s : State} {x : OfferEntry} (hx : x ∈ (abandonOffer e s).ocu.offers) :
    ∃ y ∈ s.ocu.offers, y.id = x.id ∧ (x.state = y.state ∨ x.state = .passed) := by
  unfold abandonOffer at hx
  split at hx
  · obtain ⟨y, hy, hid, state, -⟩ := heard_of_bidFrame (abandonFrame_asked e _).ocu hx
    obtain ⟨z, hz, rfl⟩ := mem_updateWhere.mp hy
    refine ⟨z, hz, ?_, ?_⟩
    · rw [← hid]
      split <;> rfl
    · rw [← state]
      split
      · exact .inr rfl
      · exact .inl rfl
  · exact ⟨x, hx, rfl, .inl rfl⟩

theorem abandonOffer_ids (e : OfferEntry) (s : State) :
    (abandonOffer e s).ocu.offers.map (·.id) = s.ocu.offers.map (·.id) := by
  unfold abandonOffer
  split
  · have asked := congrArg (List.map (·.id)) (abandonFrame_asked e (s.updOffer e.id OfferEntry.abandoned)).ocu
    have same : ((·.id) ∘ fun e : OfferEntry => { e with bidFrame := BidFrame.none }) = (·.id) := rfl
    rw [List.map_map, List.map_map, same] at asked
    rw [asked]
    exact map_updateWhere _ _ _ _ (by intro _; rfl)
  · rfl

theorem foldl_abandonOffer_keeps {l : List OfferEntry} {s : State} (ids : (s.ocu.offers.map (·.id)).Nodup →
    ∀ e ∈ l, e.state.running = true → ∀ x ∈ s.ocu.offers, x.id = e.id → x.state ≠ .won) :
    Keeps s (l.foldl (fun s e => abandonOffer e s) s) := by
  induction l generalizing s with
  | nil => exact Keeps.refl s
  | cons e l ih =>
    refine (abandonOffer_keeps fun once => ids once e List.mem_cons_self).trans (ih fun once a ha running x hx same => ?_)
    rw [abandonOffer_ids] at once
    obtain ⟨y, hy, hid, state⟩ := abandonOffer_mem hx
    rcases state with h | h
    · rw [h]
      exact ids once a (List.mem_cons_of_mem _ ha) running y hy (hid.trans same)
    · simp [h]

theorem abandonContests_keeps (s : State) : Keeps s (abandonContests s) := by
  refine foldl_abandonOffer_keeps fun once e he running x hx same won => ?_
  rw [eq_of_offerId once hx he same] at won
  rw [won] at running
  cases running

end Sys2Proof.Machine
end

section
/-! PROOFS. What the duty transitions keep: each transition with the record it makes or clears. -/

namespace Sys2Proof.Machine

open Sys2Proof

-- The kernel's checks run one after another: side by side they ask for more threads than there is room for.
set_option Elab.async false

/-! ## The duty changed -/

/-- The hire record stands in these duty states. -/
abbrev HoldsHire (d : DutyState) : Prop := d = .hired ∨ d = .paying

/-- Neither a hire nor a job nor a WON entry stands in these duty states. -/
abbrev HoldsNone (d : DutyState) : Prop := d = .offShift ∨ d = .vacant ∨ d = .onBreak

/-- The cab record passes between duty states that hold nothing. -/
theorem Keeps.dutyChange {s : State} {d : Dtc} (old : HoldsNone s.dtc.duty) (new : HoldsNone d.duty)
    (job : d.job = s.dtc.job) (range : s.dtc.InRange → d.InRange) : Keeps s { s with dtc := d } where
  toKeepsTables := .dtcChange range
  pending := by
    rintro ⟨once, one⟩
    refine ⟨once, one.trans ?_⟩
    rcases old with h | h | h <;> rcases new with k | k | k <;> simp [h, k]
  records := by
    rintro ⟨-, jobs, hire⟩
    refine ⟨?_, ?_, ?_⟩
    · rcases new with k | k | k <;> simp [k]
    · intro some
      rw [show (({ s with dtc := d } : State).dtc.job) = s.dtc.job from job] at some
      have := jobs some
      rcases old with h | h | h <;> simp [h] at this
    · refine hire.trans ?_
      rcases old with h | h | h <;> rcases new with k | k | k <;> simp [h, k]
  contest := fun _ => id
  meter := by
    rintro ⟨active, pending, hire, bounds, intervals⟩
    have none : s.fmr.hire = none := by
      rw [← Option.not_isSome_iff_eq_none, hire]
      rcases old with h | h | h <;> simp [h]
    refine ⟨active, pending, hire.trans ?_, ?_, intervals⟩
    · rcases old with h | h | h <;> rcases new with k | k | k <;> simp [h, k]
    · intro h held
      rw [none] at held
      cases held

/-- The cab record as VACANT begins (R8). -/
def vacated (s : State) : State := { s with dtc := { s.dtc with duty := .vacant, vacantSeconds := 0 } }

theorem vacated_inRange {d : Dtc} (h : d.InRange) : Dtc.InRange { d with duty := .vacant, vacantSeconds := 0 } :=
  ⟨Nat.zero_le _, h.2⟩

/-- What follows the entry into VACANT keeps everything. -/
theorem enterVacant_keeps (s : State) : Keeps (vacated s) (enterVacant s) := by
  have applied := applyPendingSet_keeps (vacated s)
  exact Keeps.ite (fun _ => applied.trans (toRun_keeps _)) fun _ => applied

theorem enterVacant_keeps_of_none {s : State} (old : HoldsNone s.dtc.duty) : Keeps s (enterVacant s) :=
  (enterVacant_keeps s).comp (.dutyChange old (.inr (.inl rfl)) rfl vacated_inRange)

theorem setDuty_keeps {d : DutyState} {s : State} (old : HoldsNone s.dtc.duty) (new : HoldsNone d) :
    Keeps s (setDuty d s) :=
  .dutyChange old new rfl id

theorem enterIdleDuty_keeps {d : DutyState} {s : State} (old : HoldsNone s.dtc.duty) (new : HoldsNone d) :
    Keeps s (enterIdleDuty d s) :=
  (applyPendingSet_keeps _).comp ((abandonContests_keeps _).comp (setDuty_keeps old new))

theorem refuseLogFull_keeps (s : State) : Keeps s (refuseLogFull s) :=
  (raiseNotice_keeps _ _ _ _).comp (refuse_keeps s)

theorem endShift_keeps {s : State} (vacant : s.dtc.duty = .vacant) : Keeps s (endShift s) := by
  refine Keeps.ite (fun _ => ?_) fun _ => refuseLogFull_keeps s
  refine (enterIdleDuty_keeps (.inr (.inl ?_)) (.inl rfl)).comp (logShift_keeps s)
  rw [(logShift_frame s).2.2.1]
  exact vacant

/-! ## The WON entry (R6, R7, R96 to R100) -/

/-- An operation that takes the one WON entry out of WON, in the duty state it stood in. -/
structure LosesWon (s u : State) : Prop extends KeepsTables s u where
  lost : PendingWf s → s.dtc.duty = .pending ∧ (u.ocu.offers.map (·.id)).Nodup ∧ wonCount u.ocu.offers = 0
  duty : u.dtc.duty = s.dtc.duty
  records : RecordsWf s → RecordsWf u
  contest : PendingWf s → NoContestInEmergency s → NoContestInEmergency u
  meter : MeterWf s → MeterWf u

theorem wonCount_eq_zero {l : List OfferEntry} : wonCount l = 0 ↔ ∀ e ∈ l, e.state ≠ .won := by
  unfold wonCount
  rw [List.length_eq_zero_iff, List.filter_eq_nil_iff]
  simp

/-- Where the duty state is that of the count, the entry found WON is the one. -/
theorem pending_of_won {s : State} {e : OfferEntry} (wf : PendingWf s) (he : e ∈ s.ocu.offers)
    (won : e.state = .won) : s.dtc.duty = .pending ∧ ∀ x ∈ s.ocu.offers, x.state = .won → x = e := by
  obtain ⟨-, one⟩ := wf
  have mem : e ∈ s.ocu.offers.filter fun e => e.state = .won := List.mem_filter.mpr ⟨he, by simpa using won⟩
  have duty : s.dtc.duty = .pending := by
    by_contra other
    rw [if_neg other] at one
    rw [List.length_eq_zero_iff.mp one] at mem
    cases mem
  refine ⟨duty, fun x hx hw => ?_⟩
  rw [if_pos duty] at one
  obtain ⟨a, ha⟩ := List.length_eq_one_iff.mp one
  have memx : x ∈ s.ocu.offers.filter fun e => e.state = .won := List.mem_filter.mpr ⟨hx, by simpa using hw⟩
  rw [ha, List.mem_singleton] at mem memx
  exact memx.trans mem.symm

/-- The offers changed so that the WON entry found is WON no longer, and none becomes so. -/
theorem losesWon_ocu {s : State} {m : List OfferEntry} {e : OfferEntry} (he : e ∈ s.ocu.offers) (won : e.state = .won)
    (table : TableKept s.ocu.offers m)
    (from_ : (s.ocu.offers.map (·.id)).Nodup → ∀ x ∈ m, x.state.AtRest ∨
      ∃ y ∈ s.ocu.offers, x.state = y.state ∧ y.id ≠ e.id) :
    LosesWon s { s with ocu := { s.ocu with offers := m } } where
  toKeepsTables := .ocuChange table
  lost := fun wf => by
    obtain ⟨pending, unique⟩ := pending_of_won wf he won
    refine ⟨pending, table.ids wf.1, wonCount_eq_zero.mpr fun x hx hw => ?_⟩
    rcases from_ wf.1 x hx with rest | ⟨y, hy, state, other⟩
    · exact rest.2.2.2 hw
    · exact other (congrArg OfferEntry.id (unique y hy (state ▸ hw)))
  duty := rfl
  records := id
  contest := fun wf calm armed x hx => by
    rcases from_ wf.1 x hx with rest | ⟨y, hy, state, -⟩
    · exact rest
    · rw [state]
      exact calm armed y hy
  meter := id

/-- The WON entry moved to a state at rest. -/
theorem losesWon_updOffer {s : State} {e : OfferEntry} {f : OfferEntry → OfferEntry} (he : e ∈ s.ocu.offers)
    (won : e.state = .won) (y : OfferState)
    (moves : ∀ e, (f e).id = e.id ∧ (f e).heard = e.heard ∧ (f e).state = y := by intro _; exact ⟨rfl, rfl, rfl⟩)
    (rest : y.AtRest := by decide) : LosesWon s (s.updOffer e.id f) := by
  refine losesWon_ocu he won (.of_map (fun x => ?_) fun x hx => ?_) fun _ x hx => ?_
  · split
    · exact (moves x).1
    · rfl
  · split
    · unfold OfferEntry.HeardWf
      rw [(moves x).2.1]
      exact hx
    · exact hx
  · obtain ⟨y, hy, rfl⟩ := mem_updateWhere.mp hx
    split
    · rw [(moves y).2.2]
      exact .inl rest
    · rename_i other
      exact .inr ⟨y, hy, rfl, by simpa using other⟩

theorem losesWon_freeOffer {s : State} {e : OfferEntry} (he : e ∈ s.ocu.offers) (won : e.state = .won) :
    LosesWon s (s.freeOffer e.id) :=
  losesWon_ocu he won (.of_sublist List.filter_sublist) fun _ x hx => by
    obtain ⟨hx, other⟩ := List.mem_filter.mp hx
    exact .inr ⟨x, hx, rfl, by simpa using other⟩

theorem losesWon_finishOffer {s : State} {e : OfferEntry} {st : OfferState} (found : s.offer? e.id = some e)
    (won : e.state = .won) (rest : st.AtRest) : LosesWon s (finishOffer e.id st s) := by
  obtain ⟨he, -⟩ := offer?_mem found
  unfold finishOffer
  rw [found]
  dsimp only
  split
  · exact losesWon_freeOffer he won
  · exact losesWon_updOffer he won st (rest := rest)

theorem LosesWon.asked {s u t : State} (h : LosesWon s u) (asked : Asked u t) : LosesWon s t where
  toKeepsTables := h.toKeepsTables.trans asked.keeps.toKeepsTables
  lost := fun wf => by
    obtain ⟨pending, once, none⟩ := h.lost wf
    have offers := OffersKept.of_bidFrame asked.ocu
    exact ⟨pending, offers.ids once, (offers.won once).trans none⟩
  duty := by rw [asked.dtc, h.duty]
  records := asked.keeps.records ∘ h.records
  contest := fun wf calm => by
    obtain ⟨-, once, -⟩ := h.lost wf
    have offers := OffersKept.of_bidFrame asked.ocu
    have state : t.emu.state = u.emu.state := by rw [asked.emu]
    exact fun armed => offers.rest once (h.contest wf calm (state ▸ armed))
  meter := asked.keeps.meter ∘ h.meter

/-- An operation that keeps everything and the duty state, before. -/
theorem LosesWon.after {s u t : State} (h : LosesWon u t) (k : Keeps s u) (dtc : u.dtc = s.dtc) : LosesWon s t where
  toKeepsTables := k.toKeepsTables.trans h.toKeepsTables
  lost := fun wf => by
    have := h.lost (k.pending wf)
    rwa [dtc] at this
  duty := by rw [h.duty, dtc]
  records := h.records ∘ k.records
  contest := fun wf => h.contest (k.pending wf) ∘ k.contest wf
  meter := h.meter ∘ k.meter

/-- PENDING ends with the WON entry (R7). -/
theorem LosesWon.endPending {s u : State} (h : LosesWon s u) : Keeps s (endPending u) := by
  unfold Machine.endPending
  split
  · rename_i pending
    refine (enterVacant_keeps u).comp ⟨h.toKeepsTables.trans (.dtcChange vacated_inRange), fun wf => ?_, fun wf => ?_,
      h.contest, fun wf => ?_⟩
    · obtain ⟨-, once, none⟩ := h.lost wf
      exact ⟨once, none⟩
    · obtain ⟨-, jobs, hire⟩ := h.records wf
      rw [pending] at jobs hire
      exact ⟨nofun, fun some => absurd (jobs some) (by decide), hire.trans (by simp [vacated])⟩
    · obtain ⟨active, sets, hire, bounds, intervals⟩ := h.meter wf
      rw [pending] at hire bounds
      exact ⟨active, sets, hire.trans (by simp [vacated]), bounds, intervals⟩
  · rename_i other
    refine ⟨h.toKeepsTables, fun wf => absurd ?_ other, h.records, h.contest, h.meter⟩
    rw [h.duty]
    exact (h.lost wf).1

theorem wonOffer?_mem {s : State} {e : OfferEntry} (h : s.wonOffer? = some e) : e ∈ s.ocu.offers ∧ e.state = .won :=
  ⟨List.mem_of_find?_eq_some h, by simpa using List.find?_some h⟩

theorem losesWon_declineOffer {s : State} {e : OfferEntry} (he : e ∈ s.ocu.offers) (won : e.state = .won) :
    LosesWon s (declineOffer e.id s) :=
  (losesWon_updOffer he won .declined).asked (askContest_asked _ _ _)

theorem declineWon_keeps (s : State) : Keeps s (declineWon s) := by
  unfold declineWon
  split
  · rename_i e found
    obtain ⟨he, won⟩ := wonOffer?_mem found
    exact (losesWon_declineOffer he won).endPending
  · exact Keeps.refl s

theorem noticeJobGone_keeps (text : List Byte) (s : State) : Keeps s (noticeJobGone text s) :=
  raiseNotice_keeps _ _ _ s

/-- A WON entry lost or closed ends PENDING, with JOB GONE (R99, R100). -/
theorem loseJob_keeps {s : State} {e : OfferEntry} {st : OfferState} (found : s.offer? e.id = some e)
    (won : e.state = .won) (rest : st.AtRest) (text : List Byte) :
    Keeps s (noticeJobGone text (endPending (finishOffer e.id st s))) :=
  (noticeJobGone_keeps text _).comp (losesWon_finishOffer found won rest).endPending

theorem offer?_updHeard {id : OfferId} {g : List HeardBid → List HeardBid} {s : State} {e : OfferEntry}
    (found : s.offer? id = some e) : (updHeard id g s).offer? id = some { e with heard := g e.heard } := by
  obtain ⟨-, rfl⟩ := offer?_mem found
  have moved := find?_updateWhere (·.id = e.id) (·.id = e.id) (fun e : OfferEntry => { e with heard := g e.heard })
    s.ocu.offers fun _ _ => rfl
  refine moved.trans ?_
  rw [show s.ocu.offers.find? (·.id = e.id) = some e from found]
  simp

theorem hearTake_keeps (source : Station) (p : BidPayload) (s : State) : Keeps s (hearTake source p s) := by
  unfold hearTake
  split
  · rename_i e found
    refine Keeps.ite (fun _ => Keeps.refl s) fun _ => ?_
    have heard : Keeps s (updHeard p.id (hearBid true (p.rank source)) s) := updHeard_keeps s fun _ => hearBid_wf _ _
    obtain ⟨-, hid⟩ := offer?_mem found
    dsimp only
    split
    case h_4 won =>
      split
      · refine Keeps.ite (fun _ => heard.trans ?_) fun _ => heard
        have found := offer?_updHeard (g := hearBid true (p.rank source)) found
        rw [← hid] at found ⊢
        exact loseJob_keeps (e := { e with heard := hearBid true (p.rank source) e.heard }) found won (by decide) _
      · exact heard
    case h_1 | h_2 | h_3 => exact heard.trans (yieldIfBetter_keeps _ _)
    all_goals exact heard
  · exact Keeps.refl s

/-! ## The job record (R10, R12, R13) -/

theorem updJob_keeps (id : OfferId) (f : JobRecord → JobRecord) (s : State) : Keeps s (updJob id f s) :=
  .dtcChange rfl (by cases s.dtc.job <;> rfl) fun h => h

theorem clearJob_job (s : State) : (clearJob s).dtc.job = none := by
  unfold clearJob
  split
  · rfl
  · assumption

theorem clearJob_duty (s : State) : (clearJob s).dtc.duty = s.dtc.duty := by
  unfold clearJob
  split <;> rfl

theorem clearJob_offers (s : State) : (clearJob s).ocu.offers.Sublist s.ocu.offers ∧
    wonCount (clearJob s).ocu.offers = wonCount s.ocu.offers := by
  unfold clearJob
  split
  · refine ⟨List.filter_sublist, ?_⟩
    show wonCount (s.ocu.offers.filter _) = _
    unfold wonCount
    rw [List.filter_filter]
    refine congrArg List.length (List.filter_congr fun e _ => ?_)
    by_cases won : e.state = .won <;> simp [won]
  · exact ⟨List.Sublist.refl _, rfl⟩

theorem clearJob_keepsTables (s : State) : KeepsTables s (clearJob s) := by
  unfold clearJob
  split
  · exact (KeepsTables.ocuChange (.of_sublist List.filter_sublist)).trans (.dtcChange id)
  · exact .refl s

/-- The job record is cleared and VACANT begins, where no entry is WON and no hire stands (R4, R10). -/
theorem enterVacant_clearJob_keeps {s u : State} (tables : KeepsTables s u) (pending : PendingWf s → PendingWf u)
    (contest : PendingWf s → NoContestInEmergency s → NoContestInEmergency u) (duty : u.dtc.duty ≠ .pending)
    (records : RecordsWf s → u.fmr.hire = none)
    (meter : MeterWf s → u.fmr.hire = none ∧ ∀ h, u.fmr.atInterval = some h → h.bounded ∧ h.payable = none) :
    Keeps s (enterVacant (clearJob u)) := by
  obtain ⟨sub, won⟩ := clearJob_offers u
  have fmr : (clearJob u).fmr = u.fmr := by simp
  have all := (tables.trans (clearJob_keepsTables u)).trans (.dtcChange vacated_inRange)
  refine (enterVacant_keeps (clearJob u)).comp ⟨all, fun wf => ?_, fun wf => ?_, fun wf calm armed e he => ?_, fun wf => ?_⟩
  · obtain ⟨once, one⟩ := pending wf
    rw [if_neg duty] at one
    exact ⟨once.sublist (sub.map _), won.trans one⟩
  · have none := records wf
    refine ⟨nofun, fun some => ?_, ?_⟩
    · rw [show (vacated (clearJob u)).dtc.job = (clearJob u).dtc.job from rfl, clearJob_job] at some
      cases some
    · rw [show (vacated (clearJob u)).fmr = (clearJob u).fmr from rfl, fmr, none]
      exact ⟨nofun, by simp [vacated]⟩
  · refine contest wf calm ?_ e (sub.subset he)
    have emu : (vacated (clearJob u)).emu = u.emu := by simp [vacated]
    rwa [emu] at armed
  · obtain ⟨none, intervals⟩ := meter wf
    obtain ⟨active, pendingSet, -⟩ := wf
    obtain ⟨active, pendingSet⟩ := all.sets ⟨active, pendingSet⟩
    refine ⟨active, pendingSet, ?_, ?_, ?_⟩ <;>
      rw [show (vacated (clearJob u)).fmr = (clearJob u).fmr from rfl, fmr]
    · rw [none]
      exact ⟨nofun, by simp [vacated]⟩
    · rw [none]
      exact nofun
    · exact intervals

/-- The hire record is absent in a duty state that holds none. -/
theorem hire_none {s : State} (duty : ¬HoldsHire s.dtc.duty) (hire : s.fmr.hire.isSome = true ↔ HoldsHire s.dtc.duty) :
    s.fmr.hire = none :=
  Option.not_isSome_iff_eq_none.mp fun some => duty (hire.mp some)

theorem clearAssigned_keeps {s : State} (assigned : s.dtc.duty = .assigned) : Keeps s (enterVacant (clearJob s)) := by
  have none : ¬HoldsHire s.dtc.duty := by rw [assigned]; decide
  exact enterVacant_clearJob_keeps (.refl s) id (fun _ => id) (by rw [assigned]; decide)
    (fun ⟨_, _, hire⟩ => hire_none none hire) fun ⟨_, _, hire, _, intervals⟩ => ⟨hire_none none hire, intervals⟩

theorem giveUpJob_keeps {id : OfferId} {s : State} (assigned : s.dtc.duty = .assigned) : Keeps s (giveUpJob id s) := by
  unfold giveUpJob
  split
  · exact Keeps.ite (fun _ => (noticeJobGone_keeps _ _).comp (clearAssigned_keeps assigned)) fun _ => Keeps.refl s
  · exact Keeps.refl s

theorem declineJob_keeps {s : State} (assigned : s.dtc.duty = .assigned) : Keeps s (declineJob s) := by
  unfold declineJob
  split
  · exact (clearAssigned_keeps (by simpa using assigned)).comp (askContest_keeps _ _ s)
  · exact Keeps.refl s

theorem jobGoesElsewhere_keeps (id : OfferId) (s : State) : Keeps s (jobGoesElsewhere id s) := by
  unfold jobGoesElsewhere
  split
  · rename_i assigned
    exact giveUpJob_keeps assigned
  · exact updJob_keeps _ _ s
  · exact updJob_keeps _ _ s
  all_goals exact Keeps.refl s

/-- ACCEPT in PENDING (R6, R97). -/
theorem acceptOffer_keeps {s : State} (pending : s.dtc.duty = .pending) : Keeps s (acceptOffer s) := by
  unfold acceptOffer
  split
  · rename_i e found
    obtain ⟨he, won⟩ := wonOffer?_mem found
    have loses := (losesWon_updOffer (f := fun x =>
      { x with state := .taken, jobTimer := some (s.now + 1000 * s.stc.config.tConfirm) }) he won .taken).asked
      (askContest_asked .take e.id _)
    refine ⟨loses.toKeepsTables.trans (.dtcChange id), fun wf => ?_, fun wf => ?_, loses.contest, fun wf => ?_⟩
    · obtain ⟨-, once, none⟩ := loses.lost wf
      exact ⟨once, none⟩
    · obtain ⟨-, -, hire⟩ := loses.records wf
      rw [loses.duty, pending] at hire
      exact ⟨fun _ => rfl, fun _ => .inl rfl, hire.trans (by simp)⟩
    · obtain ⟨active, sets, hire, bounds, intervals⟩ := loses.meter wf
      rw [loses.duty, pending] at hire bounds
      exact ⟨active, sets, hire.trans (by simp), bounds, intervals⟩
  · exact Keeps.refl s

/-! ## CONFIRM and the window end (R95, R96, R100, R101) -/

theorem endConfirmWait_keeps (id : OfferId) (s : State) : Keeps s (endConfirmWait id s) :=
  (updJob_keeps _ _ _).comp (updOffer_keeps_same (by intro _; rfl) (by intro _; rfl) (by intro _; rfl))

theorem confirmTaken_keeps {id : OfferId} (mine : Bool) {s : State} (taken : StandsIn id .taken s) :
    Keeps s (confirmTaken id mine s) :=
  Keeps.ite
    (fun _ => (updJob_keeps _ _ _).comp (updOffer_keeps_same (by intro _; rfl) (by intro _; rfl) (by intro _; rfl)))
    fun _ => (jobGoesElsewhere_keeps _ _).comp (finishOffer_keeps taken (by decide) (by decide))

theorem StandsIn.updOffer {id k : OfferId} {x : OfferState} {s : State} {f : OfferEntry → OfferEntry}
    (h : StandsIn id x s) (same : ∀ e, (f e).id = e.id ∧ (f e).state = e.state) : StandsIn id x (s.updOffer k f) := by
  intro once e he hid
  rw [show (s.updOffer k f).ocu.offers.map (·.id) = s.ocu.offers.map (·.id) from
    map_updateWhere _ _ _ _ fun e => (same e).1] at once
  obtain ⟨a, ha, rfl⟩ := mem_updateWhere.mp he
  split at hid
  · rw [if_pos ‹_›, (same a).2]
    exact h once a ha ((same a).1.symm.trans hid)
  · rw [if_neg ‹_›]
    exact h once a ha hid

theorem closeOffer_keeps {e : OfferEntry} {s : State} (found : s.offer? e.id = some e) : Keeps s (closeOffer e s) := by
  have stands := standsIn_of_found found
  have running : e.state ≠ .won → Keeps s (finishOffer e.id .closed (if e.bidFrame = .inQueue then
      removeFrame .bid (.offer e.id) (s.updOffer e.id fun x => { x with bidFrame := .none }) else s)) := by
    intro notWon
    split
    · refine Keeps.comp (finishOffer_keeps (x := e.state) ?_ notWon (by decide)) ((removeFrame_asked _ _ _).keeps.comp
        (updOffer_keeps_same (by intro _; rfl) (by intro _; rfl) (by intro _; rfl)))
      unfold StandsIn
      rw [show (removeFrame .bid (.offer e.id) (s.updOffer e.id fun x => { x with bidFrame := .none })).ocu =
        (s.updOffer e.id fun x => { x with bidFrame := .none }).ocu by simp]
      exact stands.updOffer fun _ => ⟨rfl, rfl⟩
    · exact finishOffer_keeps stands notWon (by decide)
  unfold closeOffer
  split
  case h_1 won => exact loseJob_keeps found won (by decide) _
  case h_2 h | h_3 h | h_4 h => exact running (by rw [h]; decide)
  case h_5 h | h_6 h | h_7 h => exact finishOffer_keeps stands (by rw [h]; decide) (by decide)
  all_goals exact Keeps.refl s

theorem hearConfirm_keeps (source : Station) (p : ConfirmPayload) (s : State) : Keeps s (hearConfirm source p s) := by
  unfold hearConfirm
  dsimp only
  split
  · rename_i e found
    obtain ⟨-, hid⟩ := offer?_mem found
    refine Keeps.ite (fun taken => ?_) fun _ => Keeps.ite (fun _ => Keeps.refl s) fun _ => ?_
    · exact confirmTaken_keeps _ (taken ▸ standsIn_of_found found)
    · rw [← hid] at found
      exact closeOffer_keeps found
  · exact Keeps.ite (fun _ => Keeps.ite (fun _ => updJob_keeps _ _ s) fun _ => jobGoesElsewhere_keeps _ s)
      fun _ => Keeps.refl s

/-- An entry in BID becomes WON as VACANT becomes PENDING (R6, R96). -/
theorem winEntry_keeps {id : OfferId} {s : State} {e : OfferEntry} {f : OfferEntry → OfferEntry}
    (found : s.offer? id = some e) (bid : e.state = .bid) (vacant : s.dtc.duty = .vacant)
    (moves : ∀ e, (f e).id = e.id ∧ (f e).heard = e.heard ∧ (f e).state = .won) :
    Keeps s (setDuty .pending (s.updOffer id f)) where
  toKeepsTables := by
    refine KeepsTables.trans (.ocuChange (.of_map (fun x => ?_) fun x hx => ?_)) (.dtcChange fun h => h)
    · split
      · exact (moves x).1
      · rfl
    · split
      · unfold OfferEntry.HeardWf
        rw [(moves x).2.1]
        exact hx
      · exact hx
  pending := by
    rintro ⟨once, none⟩
    rw [vacant] at none
    obtain ⟨mem, rfl⟩ := offer?_mem found
    refine ⟨?_, ?_⟩
    · rw [show (setDuty .pending (s.updOffer e.id f)).ocu.offers.map (·.id) = s.ocu.offers.map (·.id) from
        map_updateWhere _ _ _ _ fun x => (moves x).1]
      exact once
    · show wonCount (updateWhere (·.id = e.id) f s.ocu.offers) = 1
      have notWon := wonCount_eq_zero.mp none
      have count : wonCount (updateWhere (·.id = e.id) f s.ocu.offers) =
          (s.ocu.offers.filter fun x => x.id = e.id).length := by
        unfold wonCount updateWhere
        rw [List.filter_map, List.length_map]
        refine congrArg List.length (List.filter_congr fun x hx => ?_)
        by_cases h : x.id = e.id
        · simp [h, (moves x).2.2]
        · simp [h, notWon x hx]
      have ids : (s.ocu.offers.map (·.id)).count e.id = 1 :=
        List.count_eq_one_of_mem once (List.mem_map_of_mem mem)
      rw [count, ← ids, List.count_eq_countP, List.countP_map, List.countP_eq_length_filter]
      refine congrArg List.length (List.filter_congr fun x _ => ?_)
      simp [Bool.beq_eq_decide_eq]
  records := by
    rintro ⟨-, jobs, hire⟩
    rw [vacant] at jobs hire
    refine ⟨nofun, fun some => absurd (jobs some) (by decide), hire.trans (by simp [setDuty])⟩
  contest := fun _ calm armed => absurd bid (calm armed e (offer?_mem found).1).2.1
  meter := by
    rintro ⟨active, sets, hire, bounds, intervals⟩
    rw [vacant] at hire bounds
    exact ⟨active, sets, hire.trans (by simp [setDuty]), bounds, intervals⟩

theorem enterPending_keeps {s t : State} (h : Keeps s (setDuty .pending t)) : Keeps s (enterPending t) :=
  (closeTo_keeps _ _).comp ((abandonContests_keeps _).comp h)

theorem offer?_windowTaken {id : OfferId} {s : State} {e : OfferEntry} (found : s.offer? id = some e) :
    (s.updOffer id fun x => { x with windowTaken := true }).offer? id = some { e with windowTaken := true } := by
  obtain ⟨-, rfl⟩ := offer?_mem found
  refine (find?_updateWhere (·.id = e.id) (·.id = e.id) (fun x : OfferEntry => { x with windowTaken := true })
    s.ocu.offers fun _ _ => rfl).trans ?_
  rw [show s.ocu.offers.find? (·.id = e.id) = some e from found]
  simp

theorem endWindow_keeps (id : OfferId) (s : State) : Keeps s (endWindow id s) := by
  unfold endWindow
  split
  · rename_i e found
    have taken : Keeps s (s.updOffer id fun x => { x with windowTaken := true }) :=
      updOffer_keeps_same (fun _ => rfl) (fun _ => rfl) fun _ => rfl
    have found := offer?_windowTaken found
    refine taken.trans (Keeps.ite (fun wins => ?_) fun _ => ?_)
    · unfold winsWindow at wins
      simp only [Bool.and_eq_true, decide_eq_true_eq] at wins
      exact (requestTone_keeps _ _).comp (enterPending_keeps
        (winEntry_keeps (e := { e with windowTaken := true }) found wins.1.1.1 wins.2 fun _ => ⟨rfl, rfl, rfl⟩))
    · exact settleUnwon_keeps (standsIn_of_found' (e := { e with windowTaken := true }) found)
  · exact Keeps.refl s

end Sys2Proof.Machine
end

section
/-! PROOFS. What the operations of the keys, the receive path, the access procedure, the emergency's arming and the
starts keep, and so every step. -/

namespace Sys2Proof.Machine

open Sys2Proof

-- The kernel's checks run one after another: side by side they ask for more threads than there is room for.
set_option Elab.async false

/-! ## The hire record with its duty states (R3, R4, R106) -/

/-- A record opened as HIRED begins (R3). -/
theorem openHire_keeps {t : TariffSet} {s : State} (id : Option OfferId) (active : s.tlu.active = some t)
    (old : s.dtc.duty = .vacant ∨ s.dtc.duty = .assigned) : Keeps s (setDuty .hired (openHire t id s)) where
  toKeepsTables := KeepsTables.fmrChange.trans (.dtcChange fun h => h)
  pending := by
    rintro ⟨once, one⟩
    refine ⟨once, one.trans ?_⟩
    rcases old with h | h <;> simp [h, setDuty]
  records := fun _ => ⟨nofun, fun _ => .inr (.inl rfl), by simp [setDuty, openHire]⟩
  contest := fun _ => fun h => h
  meter := by
    rintro ⟨sets, pendingSets, -, -, -⟩
    have bounded := openedHire_bounded (sets t active) id s
    refine ⟨sets, pendingSets, by simp [setDuty, openHire], ?_, ?_⟩
    · rintro h ⟨⟩
      exact ⟨bounded, rfl⟩
    · rintro h ⟨⟩
      exact ⟨bounded, rfl⟩

theorem takeNewHire_keeps {s : State} (old : s.dtc.duty = .vacant ∨ s.dtc.duty = .assigned) :
    Keeps s (takeNewHire s) := by
  refine Keeps.ite (fun _ => refuse_keeps s) fun _ => Keeps.ite (fun _ => refuseLogFull_keeps s) fun _ => ?_
  split
  · rename_i t active
    have opened := openHire_keeps (if s.dtc.duty = .assigned then jobId s else none) active old
    exact Keeps.ite (fun _ => (abandonContests_keeps _).comp opened) fun _ => opened
  · exact refuse_keeps s

/-- The hire record passes from HIRED to PAYING or back, with the record it becomes. -/
theorem Keeps.hirePasses {s : State} {f : Fmr} {d : DutyState} (old : HoldsHire s.dtc.duty) (new : HoldsHire d)
    (hire : f.hire.isSome = s.fmr.hire.isSome)
    (meter : MeterWf s → (∀ h, f.hire = some h → h.bounded ∧
      h.payable = if d = .paying then some (payableOf h.rounding h.fare) else none) ∧
      ∀ h, f.atInterval = some h → h.bounded ∧ h.payable = none) : Keeps s (setDuty d { s with fmr := f }) where
  toKeepsTables := KeepsTables.fmrChange.trans (.dtcChange fun h => h)
  pending := by
    rintro ⟨once, one⟩
    refine ⟨once, one.trans ?_⟩
    rcases old with h | h <;> rcases new with k | k <;> simp [h, k, setDuty]
  records := by
    rintro ⟨-, -, stands⟩
    refine ⟨?_, fun _ => .inr new, ?_⟩
    · rcases new with k | k <;> simp [k, setDuty]
    · show f.hire.isSome = true ↔ HoldsHire d
      rw [hire]
      exact ⟨fun _ => new, fun _ => stands.mpr old⟩
  contest := fun _ => fun h => h
  meter := fun wf => by
    have ⟨bounds, intervals⟩ := meter wf
    obtain ⟨active, pendingSet, stands, -, -⟩ := wf
    refine ⟨active, pendingSet, ?_, bounds, intervals⟩
    show f.hire.isSome = true ↔ HoldsHire d
    rw [hire]
    exact ⟨fun _ => new, fun _ => stands.mpr old⟩

theorem pay_keeps {s : State} (hired : s.dtc.duty = .hired) : Keeps s (setDuty .paying (stopMeter s)) := by
  have closed : Keeps s (if s.stc.fault then s else closeInterval false s) :=
    Keeps.ite (fun _ => Keeps.refl s) fun _ => closeInterval_keeps false hired
  have duty : (if s.stc.fault then s else closeInterval false s).dtc.duty = .hired := by
    split
    · exact hired
    · simpa using hired
  refine Keeps.comp (.hirePasses (.inl duty) (.inr rfl) (by simp) fun ⟨_, _, _, bounds, intervals⟩ => ⟨?_, intervals⟩)
    closed
  intro h held
  obtain ⟨k, found, rfl⟩ := Option.map_eq_some_iff.mp held
  exact ⟨bounded_congr rfl rfl rfl rfl rfl rfl (bounds k found).1, rfl⟩

theorem resume_keeps {s : State} (paying : s.dtc.duty = .paying) : Keeps s (setDuty .hired (resumeMeter s)) := by
  refine .hirePasses (.inr paying) (.inl rfl) (by simp) fun ⟨_, _, _, bounds, _⟩ => ⟨?_, ?_⟩ <;>
  · intro h held
    obtain ⟨k, found, rfl⟩ := Option.map_eq_some_iff.mp held
    exact ⟨bounded_congr rfl rfl rfl rfl rfl rfl (bounds k found).1, rfl⟩

/-- The hire is handed over and the job record cleared (R4, R118). -/
theorem endPaying_keeps (conflict : Bool) {s : State} (paying : s.dtc.duty = .paying) :
    Keeps s (enterVacant (clearJob (endHire conflict s))) := by
  unfold endHire
  split
  · rename_i h held
    have logged := logHire_keeps (h.ended conflict s.time) { s with fmr := Fmr.reset }
    have fmr : (logHire (h.ended conflict s.time) { s with fmr := Fmr.reset }).fmr = Fmr.reset := by simp
    refine enterVacant_clearJob_keeps (KeepsTables.fmrChange.trans logged.toKeepsTables) logged.pending logged.contest
      (by simp [paying]) ?_ ?_ <;> rw [fmr]
    · exact fun _ => rfl
    · exact fun _ => ⟨rfl, nofun⟩
  · rename_i absent
    exact enterVacant_clearJob_keeps (.refl s) (fun h => h) (fun _ h => h) (by simp [paying]) (fun _ => absent)
      fun ⟨_, _, _, _, intervals⟩ => ⟨absent, intervals⟩

theorem endHireToVacant_keeps {s : State} (paying : s.dtc.duty = .paying) : Keeps s (endHireToVacant s) :=
  endPaying_keeps _ paying

/-! ## The key rows (R2 to R6, R171) -/

theorem shiftKey_keeps (s : State) : Keeps s (shiftKey s) := by
  unfold shiftKey
  split
  · rename_i off
    exact (beginShift_keeps _).comp (enterVacant_keeps_of_none (.inl off))
  · rename_i vacant
    exact endShift_keeps vacant
  all_goals exact refuse_keeps s

theorem hireKey_keeps (s : State) : Keeps s (hireKey s) := by
  unfold hireKey
  split
  · rename_i vacant
    exact takeNewHire_keeps (.inl vacant)
  · rename_i assigned
    exact takeNewHire_keeps (.inr assigned)
  · rename_i paying
    exact resume_keeps paying
  all_goals exact refuse_keeps s

theorem payKey_keeps (s : State) : Keeps s (payKey s) := by
  unfold payKey
  split
  · rename_i hired
    exact pay_keeps hired
  all_goals exact refuse_keeps s

theorem vacantKey_keeps (s : State) : Keeps s (vacantKey s) := by
  unfold vacantKey
  split
  · rename_i paying
    exact endHireToVacant_keeps paying
  all_goals exact refuse_keeps s

theorem breakKey_keeps (s : State) : Keeps s (breakKey s) := by
  unfold breakKey
  split
  · rename_i vacant
    exact enterIdleDuty_keeps (.inr (.inl vacant)) (.inr (.inr rfl))
  · rename_i onBreak
    exact enterVacant_keeps_of_none (.inr (.inr onBreak))
  all_goals exact refuse_keeps s

theorem acceptRoute_keeps (s : State) : Keeps s (acceptRoute s) := by
  refine Keeps.ite (fun _ => ?_) fun _ => emuSubmit_keeps s
  split
  · rename_i pending
    exact acceptOffer_keeps pending
  all_goals exact refuse_keeps s

theorem declineKey_keeps (s : State) : Keeps s (declineKey s) := by
  unfold declineKey
  split
  · exact declineWon_keeps s
  · rename_i assigned
    exact declineJob_keeps assigned
  all_goals exact refuse_keeps s

theorem setPrefix_keeps (p : KeyPrefix) (s : State) : Keeps s (setPrefix p s) := .same

theorem dropPrefix_keeps (s : State) : Keeps s (dropPrefix s) := .same

theorem extraKey_keeps (s : State) : Keeps s (extraKey s) := by
  unfold extraKey
  split
  case h_1 | h_2 => exact setPrefix_keeps _ s
  all_goals exact refuse_keeps s

theorem tariffPrefixKey_keeps (s : State) : Keeps s (tariffPrefixKey s) := by
  unfold tariffPrefixKey
  split
  case h_1 => exact setPrefix_keeps _ s
  all_goals exact refuse_keeps s

/-- The console's own fields changed. -/
theorem cns_keeps (s : State) (c : Cns) : Keeps s { s with cns := c } := .same rfl rfl rfl rfl rfl rfl rfl rfl

theorem readRoute_keeps (s : State) : Keeps s (readRoute s) := by
  unfold readRoute
  split
  · exact cns_keeps s _
  · split
    · exact openMsgEntry_keeps _ s
    · exact Keeps.refl s
  all_goals exact closeTo_keeps _ s

theorem movePointer_keeps (f : Nat → Nat → Nat) (s : State) : Keeps s (movePointer f s) := .same

theorem replyRoute_keeps (s : State) : Keeps s (replyRoute s) := by
  unfold replyRoute
  split
  · exact cns_keeps s _
  · exact refuse_keeps s

theorem clearView_keeps (s : State) : Keeps s (clearView s) := by
  unfold clearView
  split
  · exact Keeps.refl s
  · exact cns_keeps s _
  · exact (closeTo_keeps _ _).comp (clearPin_keeps s)
  · exact closeTo_keeps _ s

theorem clearRoute_keeps (s : State) : Keeps s (clearRoute s) :=
  Keeps.ite (fun _ => clearView_keeps s) fun _ => (emuClear_keeps _).comp (clearView_keeps s)

theorem prefixDigit_keeps (p : KeyPrefix) (d : Fin 10) (s : State) : Keeps s (prefixDigit p d s) := by
  unfold prefixDigit
  dsimp only
  split
  · rename_i t taken
    refine (dropPrefix_keeps t).comp ?_
    cases p
    · exact extraDigit_keeps taken
    · exact tariffDigit_keeps taken
  · exact refuse_keeps s

theorem menuDigit_keeps (d : Fin 10) (s : State) : Keeps s (menuDigit d s) := by
  unfold menuDigit
  split
  · exact (cns_keeps _ _).comp (makeReply_keeps _ _ s)
  · exact refuse_keeps s

theorem digitRoute_keeps (d : Fin 10) (s : State) : Keeps s (digitRoute d s) := by
  have console : Keeps s (consoleDigit d s) := by
    unfold consoleDigit
    split
    · exact prefixDigit_keeps _ d s
    · exact Keeps.ite (fun _ => menuDigit_keeps d s) fun _ => Keeps.ite (fun _ => refuse_keeps s) fun _ => Keeps.refl s
  exact Keeps.ite (fun _ => console) fun _ => (emuDigit_keeps d _).comp console

theorem clickTone_keeps (s : State) : Keeps s (clickTone s) :=
  Keeps.ite (fun _ => requestTone_keeps _ s) fun _ => Keeps.refl s

theorem keyEvent_keeps (k : Key) {act : State → State} (h : ∀ s, Keeps s (act s)) (s : State) :
    Keeps s (keyEvent k act s) := by
  refine (clickTone_keeps s).trans (Keeps.ite (fun _ => ?_) fun _ => h _)
  refine Keeps.ite (fun _ => .same) fun _ => Keeps.ite (fun _ => .same) fun _ => (h _).comp .same

theorem finish_keeps (s : State) : Keeps s (finish s) := .same

theorem acceptKey_keeps (k : Key) {act : State → State} (h : ∀ s, Keeps s (act s)) {s t : State}
    (step : acceptKey k act s = .next t) : Keeps s t := by
  cases step
  exact Keeps.ite (fun _ => (finish_keeps _).comp ((keyEvent_keeps k h _).comp .same)) fun _ => Keeps.refl s

/-- A key that drops a held EXTRA or TARIFF before its act. -/
theorem dropped_keeps {act : State → State} (h : ∀ s, Keeps s (act s)) (s : State) : Keeps s (act (dropPrefix s)) :=
  (h _).comp (dropPrefix_keeps s)

end Sys2Proof.Machine
end

section
/-! PROOFS. What the operations of the arming, the access procedure, the receive path, the clocks and the starts
keep. -/

namespace Sys2Proof.Machine

open Sys2Proof

-- The kernel's checks run one after another: side by side they ask for more threads than there is room for.
set_option Elab.async false

/-! ## The arming (R103, R180) -/

/-- No entry stands in a state that an armed emergency forbids. -/
def AllAtRest (s : State) : Prop := ∀ e ∈ s.ocu.offers, e.state.AtRest

theorem asked_allAtRest {s t : State} (h : Asked s t) (rest : AllAtRest s) : AllAtRest t := by
  intro e he
  obtain ⟨a, ha, -, state, -⟩ := heard_of_bidFrame h.ocu he
  rw [← state]
  exact rest a ha

theorem endPending_ocu (s : State) : (endPending s).ocu = s.ocu := by simp

theorem endPending_emu (s : State) : (endPending s).emu = s.emu := by simp

theorem atRest_of_notRunning {x : OfferState} (idle : x.running = false) (notWon : x ≠ .won) : x.AtRest := by
  cases x <;> simp_all [OfferState.AtRest, OfferState.running]

theorem declineWon_allAtRest {s : State} (idle : ∀ e ∈ s.ocu.offers, e.state.running = false) (wf : PendingWf s) :
    AllAtRest (declineWon s) := by
  unfold declineWon
  split
  · rename_i e found
    obtain ⟨he, won⟩ := wonOffer?_mem found
    obtain ⟨-, unique⟩ := pending_of_won wf he won
    intro x hx
    rw [endPending_ocu] at hx
    refine asked_allAtRest (askContest_asked .release e.id _) (fun y hy => ?_) x hx
    obtain ⟨z, hz, rfl⟩ := mem_updateWhere.mp hy
    split
    · exact show OfferState.declined.AtRest by decide
    · rename_i other
      refine atRest_of_notRunning (idle z hz) fun hw => other ?_
      rw [unique z hz hw]
      exact decide_eq_true rfl
  · rename_i absent
    intro x hx
    exact atRest_of_notRunning (idle x hx) (by simpa using List.find?_eq_none.mp absent x hx)

theorem armContests_keeps (s : State) : Keeps s (armContests s) := (declineWon_keeps _).comp (abandonContests_keeps s)

theorem armContests_allAtRest {s : State} (wf : PendingWf s) : AllAtRest (armContests s) :=
  declineWon_allAtRest (abandonContests_noContestRuns s) ((abandonContests_keeps s).pending wf)

theorem asked_state {s t : State} (h : Asked s t) : t.emu.state = s.emu.state := by rw [h.emu]

theorem armContests_state (s : State) : (armContests s).emu.state = s.emu.state := by
  have abandoned : (abandonContests s).emu.state = s.emu.state := by
    rw [(abandonContests_asked s).emu]
  unfold armContests declineWon
  split
  · rename_i e _
    have asked := asked_state (askContest_asked .release e.id
      ((abandonContests s).updOffer e.id fun x => { x with state := .declined, jobTimer := none }))
    rw [(endPending_emu _), declineOffer, asked]
    exact abandoned
  · exact abandoned

/-- The record of the emergency as the arming leaves it (R180). -/
def Emu.armed (e : Emu) : Emu :=
  { e with state := .active, elapsed := 0, seen := false, duress := false, firstSerial := none, code := [] }

theorem arm_keeps (s : State) : Keeps s (arm s) := by
  let s' := updEmu Emu.armed s
  have armed : KeepsTables s s' := .emuChange rfl (fun _ _ => .inl rfl)
    fun ⟨_, attempts, _⟩ => ⟨Nat.zero_le _, attempts, Nat.zero_le _⟩
  have contests : Keeps s' (toRun (armContests s')) := (toRun_keeps _).comp (armContests_keeps s')
  have state : (toRun (armContests s')).emu.state = .active := by
    have kept := (armContests_state s').trans (show s'.emu.state = .active from rfl)
    simpa using kept
  have fast : Keeps (toRun (armContests s')) (arm s) := startFast_keeps tAlm2 (.inl state)
  refine ⟨armed.trans (contests.trans fast).toKeepsTables, (contests.trans fast).pending, (contests.trans fast).records,
    fun wf _ => fast.contest (contests.pending wf) fun _ => ?_, (contests.trans fast).meter⟩
  have ocu : (toRun (armContests s')).ocu = (armContests s').ocu := by simp
  rw [ocu]
  exact armContests_allAtRest (s := s') wf

theorem holdReached_keeps (s : State) : Keeps s (holdReached s) := by
  unfold holdReached
  split
  · exact Keeps.refl s
  · exact arm_keeps s
  · rename_i active
    exact startFast_keeps _ (.inl active)
  · rename_i acknowledged
    exact startFast_keeps _ (.inr (.inl acknowledged))
  · rename_i covert
    exact startFast_keeps _ (.inr (.inr covert))
  · rename_i clearing
    exact reactivate_keeps (by rw [clearing]; rfl)

/-! ## Outcomes and transmissions (R28, R50, R58, R60 to R62) -/

theorem toldDropped_keeps (kind : FrameKind) (tag : Tag) (s : State) : Keeps s (toldDropped kind tag s) :=
  (toldDropped_asked kind tag s).keeps

theorem told_keeps (o : Outcome) (q : Request) (s : State) : Keeps s (told o q s) := by
  cases o
  case sent =>
    show Keeps s (toldSent q s)
    unfold toldSent
    split
    · exact Keeps.ite (fun _ => clearSent_keeps s) fun _ => Keeps.refl s
    · exact freeRelay_keeps _ s
    all_goals exact Keeps.refl s
  case delivered =>
    show Keeps s (toldDelivered q s)
    unfold toldDelivered
    split
    · exact replyNotice_keeps _ _ s
    · exact fareDelivered_keeps _ s
    all_goals exact Keeps.refl s
  case failed =>
    show Keeps s (toldFailed q s)
    unfold toldFailed
    split
    · exact replyNotice_keeps _ _ s
    · exact (fareLost_asked _ s).keeps
    all_goals exact Keeps.refl s

/-- The channel unit's own fields changed. -/
theorem cau_keeps (s : State) (c : Cau) : Keeps s { s with cau := c } := .same rfl rfl rfl rfl rfl rfl rfl rfl

/-- The frame engine changed beside its counters. -/
theorem fre_keeps (s : State) {f : Fre} (counters : f.counters = s.fre.counters) : Keeps s { s with fre := f } :=
  .freChange fun h => counters ▸ h

theorem updEntry_keeps (n : Nat) (f : QueueEntry → QueueEntry) (s : State) : Keeps s (s.updEntry n f) := cau_keeps s _

theorem leaveService_keeps (o : Outcome) (e : QueueEntry) (s : State) : Keeps s (leaveService o e s) := by
  have gone : Keeps s (dequeue e.number (endService s)) := (dequeue_asked _ _).keeps.comp (cau_keeps s _)
  have said := (told_keeps o e.req _).comp gone
  exact Keeps.ite (fun _ => (admitHeld_asked _).keeps.comp said) fun _ => said

theorem nextFree_keeps (s : State) : Keeps s s.nextFree := .same

/-- Parts beside the tables, the records and the counters changed. -/
theorem rest_keeps (s t : State) (nbt : t.nbt = s.nbt := by rfl) (ocu : t.ocu = s.ocu := by rfl)
    (mst : t.mst = s.mst := by rfl) (tlu : t.tlu = s.tlu := by rfl) (emu : t.emu = s.emu := by rfl)
    (dtc : t.dtc = s.dtc := by rfl) (fmr : t.fmr = s.fmr := by rfl)
    (counters : t.fre.counters = s.fre.counters := by rfl) : Keeps s t :=
  .same nbt ocu mst tlu emu dtc fmr counters

theorem bidPayload_keeps (kind : FrameKind) (id : OfferId) (s : State) : Keeps s (bidPayload kind id s).2 := by
  unfold bidPayload
  dsimp only
  split
  · dsimp only
    split
    · exact updOffer_keeps_same (by intro _; rfl) (by intro _; rfl) (by intro _; rfl)
    · exact Keeps.refl s
  · exact nextFree_keeps s

theorem replyBytes_keeps (n : Nat) (s : State) : Keeps s (replyBytes n s).2 := by
  unfold replyBytes
  split
  · split <;> exact Keeps.refl s
  · exact nextFree_keeps s

theorem payloadOf_keeps (q : Request) (s : State) : Keeps s (payloadOf q s).2 := by
  unfold payloadOf
  split
  · split
    · exact bidPayload_keeps _ _ s
    · exact Keeps.refl s
  · exact replyBytes_keeps _ s
  · exact Keeps.refl s
  · exact Keeps.emuChange (.of_fields rfl rfl rfl id)
  all_goals exact Keeps.refl s

theorem takeSeq_keeps (old : Option Serial) (s : State) : Keeps s (takeSeq old s).2 := by
  unfold takeSeq
  split
  · exact Keeps.refl s
  · exact fre_keeps s rfl

theorem beginTransmission_keeps (t : TxFrame) (s : State) : Keeps s (beginTransmission t s) := by
  have counted : Keeps s { s with fre := { s.fre with
      onAir := some t
      counters := { s.fre.counters with transmissions := wrapInc 9999 s.fre.counters.transmissions } } } :=
    .freChange fun ⟨good, sent, rest⟩ => ⟨good, wrapInc_le sent, rest⟩
  exact (rest_keeps _ _).comp counted

theorem sendEntry_keeps (r : InService) (e : QueueEntry) (s : State) : Keeps s (sendEntry r e s) :=
  (beginTransmission_keeps _ _).comp ((cau_keeps _ _).comp ((updEntry_keeps _ _ _).comp
    ((payloadOf_keeps _ _).comp (takeSeq_keeps _ s))))

theorem inServiceNotice_keeps (q : Request) (s : State) : Keeps s (inServiceNotice q s) := by
  unfold inServiceNotice
  split
  · exact Keeps.ite (fun _ => bidInService_keeps _ s) fun _ => Keeps.refl s
  · exact replyNotice_keeps _ _ s
  · exact relayInService_keeps _ s
  all_goals exact Keeps.refl s

theorem suspendReceive_keeps (s : State) : Keeps s (suspendReceive s) := fre_keeps s rfl

theorem resumeReceive_keeps (s : State) : Keeps s (resumeReceive s) := fre_keeps s rfl

theorem enterService_keeps (e : QueueEntry) (s : State) : Keeps s (enterService e s) := by
  have stands := cau_keeps s { s.cau with
    inService := some { entry := e.number, phase := .keyup, since := s.now, endTime := none, deferred := false },
    access := { s.cau.access with phase := .idle, candidate := none } }
  have keyed := stands.trans (Keeps.ite (p := s.stc.loopback = true) (fun _ => Keeps.refl _)
    fun _ => suspendReceive_keeps _)
  have noticed := keyed.trans (Keeps.ite (p := e.seq.isNone = true) (fun _ => inServiceNotice_keeps e.req _)
    fun _ => Keeps.refl _)
  exact Keeps.ite (fun _ => noticed.trans (sendEntry_keeps _ e _)) fun _ => noticed

theorem keyIfZero_keeps (n : Nat) (s : State) : Keeps s (keyIfZero n s) := by
  unfold keyIfZero
  split
  · exact Keeps.ite (fun _ => enterService_keeps _ s) fun _ => Keeps.refl s
  · exact Keeps.refl s

theorem countGap_keeps (e : QueueEntry) (s : State) : Keeps s (countGap e s) :=
  (cau_keeps _ _).comp (updEntry_keeps _ _ s)

theorem countSlot_keeps (e : QueueEntry) (s : State) : Keeps s (countSlot e s) :=
  (cau_keeps _ _).comp (updEntry_keeps _ _ s)

theorem countAtCarrier_keeps (s : State) : Keeps s (countAtCarrier s) := by
  unfold countAtCarrier
  split
  · exact Keeps.ite (fun _ => countGap_keeps _ s) fun _ => Keeps.refl s
  · exact Keeps.ite (fun _ => countSlot_keeps _ s) fun _ => Keeps.refl s
  · exact Keeps.refl s

theorem endSending_keeps (r : InService) (e : QueueEntry) (s : State) : Keeps s (endSending r e s) := by
  have ended : Keeps s (reloadBeacon (resumeReceive { s with fre := { s.fre with onAir := none } })) :=
    (cau_keeps _ _).comp ((resumeReceive_keeps _).comp (fre_keeps s rfl))
  exact Keeps.ite (fun _ => (cau_keeps _ _).comp ended) fun _ => (leaveService_keeps _ e _).comp ended

theorem endAckWait_keeps (r : InService) (e : QueueEntry) (s : State) : Keeps s (endAckWait r e s) := by
  refine Keeps.ite (fun _ => (cau_keeps _ _).comp (updEntry_keeps _ _ s)) fun _ => (leaveService_keeps _ e _).comp ?_
  exact .freChange fun ⟨good, sent, bad, foreign, _⟩ => ⟨good, sent, bad, foreign, satAdd_le _ _ _⟩

theorem hearAck_keeps (source : Station) (p : AckPayload) (s : State) : Keeps s (hearAck source p s) := by
  unfold hearAck
  split
  · exact Keeps.ite (fun _ => leaveService_keeps _ _ s) fun _ => Keeps.refl s
  · exact Keeps.refl s

theorem endAckGap_keeps (record : PendingAck) (s : State) : Keeps s (endAckGap record s) := by
  have emptied : Keeps s { s with fre := { s.fre with pendingAck := none } } := fre_keeps s rfl
  exact Keeps.ite (fun _ => (suspendReceive_keeps _).comp ((rest_keeps _ _).comp emptied)) fun _ => emptied

theorem sendAck_keeps (t : AckTx) (s : State) : Keeps s (sendAck t s) :=
  (beginTransmission_keeps _ _).comp ((rest_keeps _ _).comp (takeSeq_keeps none s))

theorem endAck_keeps (s : State) : Keeps s (endAck s) :=
  (cau_keeps _ _).comp ((resumeReceive_keeps _).comp (fre_keeps s rfl))

/-! ## The receive path (R29 to R42) -/

theorem updCounters_keeps {f : Counters → Counters} (h : ∀ c : Counters, c.InRange → (f c).InRange) (s : State) :
    Keeps s (updCounters f s) := .freChange (h _)

theorem countGood_keeps (s : State) : Keeps s (countGood s) :=
  (rest_keeps _ _).comp (updCounters_keeps (f := fun c => { c with good := wrapInc 9999 c.good })
    (fun _ ⟨good, rest⟩ => ⟨wrapInc_le good, rest⟩) s)

theorem countForeign_keeps (s : State) : Keeps s (countForeign s) :=
  updCounters_keeps (f := fun c => { c with foreign := satAdd 255 c.foreign 1 }) (fun _ ⟨good, sent, bad, _, failures⟩ => ⟨good, sent, bad, satAdd_le _ _ _, failures⟩) s

theorem endBad_keeps (s : State) : Keeps s (endBad s) :=
  (updCounters_keeps (f := fun c => { c with badCrc := satAdd 255 c.badCrc 1 }) (fun _ ⟨good, sent, _, rest⟩ => ⟨good, sent, satAdd_le _ _ _, rest⟩) _).comp
    (resumeReceive_keeps s)

theorem prepareAck_keeps (kind : FrameKind) (h : Header) (s : State) : Keeps s (prepareAck kind h s) := fre_keeps s rfl

theorem deliver_keeps (kind : FrameKind) (f : AirFrame) (s : State) : Keeps s (deliver kind f s) := by
  cases kind <;> unfold deliver <;> dsimp only
  case beacon | fare => exact Keeps.refl s
  case ack =>
    split
    · exact Keeps.ite (fun _ => hearAck_keeps _ _ s) fun _ => Keeps.refl s
    · exact Keeps.refl s
  case offer => split <;> [exact hearOffer_keeps _ _ s; exact Keeps.refl s]
  case bid => split <;> [exact hearBidFrame_keeps _ _ s; exact Keeps.refl s]
  case withdraw => split <;> [exact hearWithdraw_keeps _ _ s; exact Keeps.refl s]
  case take => split <;> [exact hearTake_keeps _ _ s; exact Keeps.refl s]
  case release => split <;> [exact hearRelease_keeps _ _ s; exact Keeps.refl s]
  case confirm => split <;> [exact hearConfirm_keeps _ _ s; exact Keeps.refl s]
  case msg => split <;> [exact deliverMsg_keeps _ _ _ s; exact Keeps.refl s]
  case tariff => split <;> [exact deliverTariff_keeps _ s; exact Keeps.refl s]
  case alarm => split <;> [exact (emuAlarm_keeps _ _).comp (relayCopy_keeps _ _ f s); exact Keeps.refl s]
  case alarmClear => split <;> [exact (emuAlarmClear_keeps _ _).comp (relayCopy_keeps _ _ f s); exact Keeps.refl s]
  case alarmSeen => split <;> [exact (emuAlarmSeen_keeps _ _ _).comp (relaySeen_keeps _ _ s); exact Keeps.refl s]

theorem acknowledge_keeps (kind : FrameKind) (f : AirFrame) (s : State) : Keeps s (acknowledge kind f s) :=
  Keeps.ite (fun _ => prepareAck_keeps _ _ s) fun _ => Keeps.ite
    (fun _ => (prepareAck_keeps _ _ _).comp ((enterKey_keeps _ _).comp (deliver_keeps kind f s))) fun _ => Keeps.refl s

theorem route_keeps (kind : FrameKind) (f : AirFrame) (s : State) : Keeps s (route kind f s) :=
  Keeps.ite (fun _ => deliver_keeps kind f s) fun _ => Keeps.ite (fun _ => acknowledge_keeps kind f s) fun _ =>
    Keeps.ite (fun _ => deliver_keeps kind f s) fun _ => Keeps.refl s

theorem routeKind_keeps (kind : Option FrameKind) (f : AirFrame) (s : State) : Keeps s (routeKind kind f s) := by
  cases kind
  case none => exact Keeps.refl s
  case some k => exact Keeps.ite (fun _ => route_keeps k f s) fun _ => Keeps.refl s

theorem takeFrame_keeps (kind : Option FrameKind) (f : AirFrame) (s : State) : Keeps s (takeFrame kind f s) := by
  have resumed := resumeReceive_keeps s
  refine Keeps.ite (fun _ => (countForeign_keeps _).comp resumed) fun _ => ?_
  have counted := (countGood_keeps _).comp resumed
  exact Keeps.ite (fun _ => counted) fun _ => (routeKind_keeps kind f _).comp ((hearHeader_keeps _ _).comp counted)

theorem deliverLooped_keeps (kind : FrameKind) (f : AirFrame) (s : State) : Keeps s (deliverLooped kind f s) := by
  unfold deliverLooped
  split
  · exact emuAlarm_keeps _ s
  · exact emuAlarmClear_keeps _ s
  · exact Keeps.refl s
  · exact Keeps.refl s
  · exact Keeps.ite (fun _ => deliver_keeps _ f s) fun _ => Keeps.refl s

theorem endLooped_keeps (e : QueueEntry) (t : TxFrame) (s : State) : Keeps s (endLooped e t s) := by
  have counted := (countGood_keeps _).comp (fre_keeps (f := { s.fre with onAir := none }) s rfl)
  have taken : Keeps s (takeLooped t { s with fre := { s.fre with onAir := none } }) :=
    Keeps.ite (fun _ => (deliverLooped_keeps _ _ _).comp counted) fun _ => counted
  exact (leaveService_keeps _ e _).comp ((cau_keeps _ _).comp taken)

end Sys2Proof.Machine
end

section
/-! PROOFS. What every command, and so every step, keeps: the tables, the records and the meter. -/

namespace Sys2Proof.Machine

open Sys2Proof

-- The kernel's checks run one after another: side by side they ask for more threads than there is room for.
set_option Elab.async false

/-! ## The starts (R194 to R196) -/

/-- A cab record after a start: cold, or as it stood but for its times. -/
theorem startDtc_spec (cold : Bool) (d : Dtc) :
    startDtc cold d = Dtc.reset ∧ cold = true ∨
    cold = false ∧ (startDtc cold d).duty = d.duty ∧ (startDtc cold d).job.isSome = d.job.isSome := by
  cases cold
  · exact .inr ⟨rfl, rfl, by cases h : d.job <;> simp [startDtc, h]⟩
  · exact .inl ⟨rfl, rfl⟩

theorem startDtc_inRange (cold : Bool) {d : Dtc} (h : d.InRange) : (startDtc cold d).InRange := by
  cases cold
  · exact ⟨h.1, Nat.zero_le _, Nat.zero_le _⟩
  · exact ⟨Nat.zero_le _, Nat.zero_le _, Nat.zero_le _⟩

theorem startEmu_noSchedule (cold : Bool) (e : Emu) :
    (startEmu cold e).schedule = none ∧ (startEmu cold e).alarms = [] := by
  cases cold <;> exact ⟨rfl, rfl⟩

theorem startEmu_inRange (cold : Bool) {e : Emu} (h : e.InRange) : (startEmu cold e).InRange := by
  cases cold
  · exact ⟨Nat.zero_le _, h.2.1, Nat.zero_le _⟩
  · exact ⟨Nat.zero_le _, Nat.zero_le _, Nat.zero_le _⟩

theorem decodeImageSet_flagFallsBounded (l : List Byte) : (decodeImageSet l).flagFallsBounded :=
  decodeSet_flagFallsBounded l

theorem startSets_bounded (cold fault : Bool) {image : TariffSet} {t : Tlu} (hi : image.flagFallsBounded)
    (ht : t.SetsBounded) :
    (∀ x, (startSets cold fault image t).1 = some x → x.flagFallsBounded) ∧
    ∀ x, (startSets cold fault image t).2 = some x → x.flagFallsBounded := by
  obtain ⟨active, pending⟩ := ht
  unfold startSets
  split
  · refine ⟨fun x hx => ?_, nofun⟩
    split at hx <;> cases hx
    exact hi
  · split
    · exact ⟨active, pending⟩
    · refine ⟨?_, fun x hx => pending x (Option.eq_some_of_filter_eq_some hx)⟩
      rintro x ⟨⟩
      unfold startActive
      split
      · split
        · exact hi
        · exact active _ ‹_›
      · exact hi

theorem startTlu_sets (cold fault : Bool) (i : Image) {t : Tlu} (h : t.SetsBounded) :
    (startTlu cold fault i t).SetsBounded := by
  obtain ⟨active, pending⟩ := startSets_bounded cold fault (decodeImageSet_flagFallsBounded i.setBytes) h
  cases cold <;> exact ⟨active, pending⟩

theorem startTlu_inRange (cold fault : Bool) (i : Image) {t : Tlu} (h : t.InRange) :
    (startTlu cold fault i t).InRange := by
  cases cold
  · exact h
  · exact ⟨Nat.zero_le _, totals_zero_inRange⟩

theorem startTlu_log (cold fault : Bool) (i : Image) (t : Tlu) :
    (startTlu cold fault i t).nextRecord = t.nextRecord ∧
    ((startTlu cold fault i t).log = [] ∨ (startTlu cold fault i t).log =
      updateWhere (·.state = .inFlight) (fun r => { r with state := .unsent }) t.log) := by
  cases cold
  · exact ⟨rfl, .inr rfl⟩
  · exact ⟨rfl, .inl rfl⟩

theorem logWf_of_update {s u : State} (next : u.tlu.nextRecord = s.tlu.nextRecord)
    (log : u.tlu.log = [] ∨ u.tlu.log =
      updateWhere (·.state = .inFlight) (fun r => { r with state := .unsent }) s.tlu.log) (wf : LogWf s) : LogWf u := by
  obtain ⟨short, once, below⟩ := wf
  unfold LogWf
  rw [next]
  rcases log with h | h <;> rw [h]
  · exact ⟨Nat.zero_le _, List.nodup_nil, nofun⟩
  · refine ⟨(length_updateWhere _ _ _).trans_le short, nodup_map_updateWhere (by intro _; rfl) once, fun r hr => ?_⟩
    obtain ⟨a, ha, rfl⟩ := mem_updateWhere.mp hr
    split <;> exact below a ha

theorem startMst_entries (cold fault : Bool) (i : Image) (m : Mst) :
    (startMst cold fault i m).nextMsg = m.nextMsg ∧
    ∃ l : List MsgEntry, l.Sublist m.entries ∧ (startMst cold fault i m).entries = l.map (replyBecomes .failed) := by
  cases cold
  · exact ⟨rfl, _, List.filter_sublist, rfl⟩
  · exact ⟨rfl, [], List.nil_sublist _, rfl⟩

theorem startFmr_hire (duty : DutyState) (f : Fmr) : (startFmr false duty f).hire.isSome = f.hire.isSome := by
  unfold startFmr
  rw [if_neg (by decide)]
  split <;> exact Option.isSome_map

theorem hireAtStart_wf {f : Fmr} {h : HireRecord} (bounded : h.bounded) (payable : h.payable = none)
    (intervals : ∀ k, f.atInterval = some k → k.bounded ∧ k.payable = none) :
    (hireAtStart f h).bounded ∧ (hireAtStart f h).payable = none := by
  have last : (f.atInterval.getD h).bounded ∧ (f.atInterval.getD h).payable = none := by
    cases found : f.atInterval
    · exact ⟨bounded, payable⟩
    · exact intervals _ found
  exact ⟨bounded_congr rfl rfl rfl rfl rfl rfl last.1, last.2⟩

/-- The values of a start keep the tables. -/
theorem startValues_keepsTables (i : StartInput) (s : State) : KeepsTables s (startValues i s) where
  nbt := fun _ => ⟨Nat.zero_le _, List.nodup_nil, Nat.zero_le _, List.nodup_nil, Nat.zero_le _, List.nodup_nil⟩
  offers := fun _ => ⟨Nat.zero_le _, List.nodup_nil, nofun⟩
  alarms := fun _ => by
    obtain ⟨-, alarms⟩ := startEmu_noSchedule (coldStart i s) s.emu
    unfold AlarmsWf
    rw [show (startValues i s).emu.alarms = [] from alarms]
    exact ⟨Nat.zero_le _, List.nodup_nil⟩
  store := fun ⟨short, once, below⟩ => by
    obtain ⟨next, l, sub, entries⟩ := startMst_entries (coldStart i s) (!imageAccepted i.image) i.image s.mst
    have wf : StoreWf { s with mst := { s.mst with entries := l } } :=
      storeWf_of_sublist (s := s) sub rfl ⟨short, once, below⟩
    exact storeWf_of_map (s := { s with mst := { s.mst with entries := l } }) (f := replyBecomes .failed) entries (replyBecomes_number _) next wf
  keys := fun _ keys => by
    obtain ⟨-, l, sub, entries⟩ := startMst_entries (coldStart i s) (!imageAccepted i.image) i.image s.mst
    have once : StoreKeysOnce { s with mst := { s.mst with entries := l } } := keysOnce_of_sublist (s := s) sub keys
    exact keysOnce_of_map (s := { s with mst := { s.mst with entries := l } }) (f := replyBecomes .failed) entries (replyBecomes_name _) once
  log := by
    obtain ⟨next, log⟩ := startTlu_log (coldStart i s) (!imageAccepted i.image) i.image s.tlu
    exact logWf_of_update next log
  schedule := fun _ some => by
    obtain ⟨none, -⟩ := startEmu_noSchedule (coldStart i s) s.emu
    rw [show (startValues i s).emu.schedule = Option.none from none] at some
    cases some
  dtc := startDtc_inRange _
  counters := fun _ => counters_reset_inRange
  tlu := startTlu_inRange _ _ _
  emu := startEmu_inRange _
  sets := startTlu_sets _ _ _

/-- The records after the values of a start, in the duty state found. -/
theorem startValues_records (i : StartInput) {s : State} (wf : RecordsWf s) : RecordsWf (startValues i s) := by
  obtain ⟨assigned, jobs, hire⟩ := wf
  rcases startDtc_spec (coldStart i s) s.dtc with ⟨dtc, cold⟩ | ⟨warm, duty, job⟩
  · have dtc : (startValues i s).dtc = Dtc.reset := dtc
    have fmr : (startValues i s).fmr = Fmr.reset := by
      show startFmr (coldStart i s) _ _ = _
      rw [cold]
      rfl
    unfold RecordsWf
    rw [dtc, fmr]
    decide
  · have duty : (startValues i s).dtc.duty = s.dtc.duty := duty
    have job : (startValues i s).dtc.job.isSome = s.dtc.job.isSome := job
    have held : (startValues i s).fmr.hire.isSome = s.fmr.hire.isSome := by
      show (startFmr (coldStart i s) _ _).hire.isSome = _
      rw [warm]
      exact startFmr_hire _ _
    unfold RecordsWf
    rw [duty, job, held]
    exact ⟨assigned, jobs, hire⟩

theorem startFmr_meter {s : State} (wf : MeterWf s) :
    (∀ h, (startFmr false s.dtc.duty s.fmr).hire = some h → h.bounded ∧
      h.payable = if s.dtc.duty = .paying then some (payableOf h.rounding h.fare) else none) ∧
    ∀ h, (startFmr false s.dtc.duty s.fmr).atInterval = some h → h.bounded ∧ h.payable = none := by
  obtain ⟨-, -, -, bounds, intervals⟩ := wf
  unfold startFmr
  by_cases hired : s.dtc.duty = .hired
  · rw [if_neg (by decide), if_pos hired]
    have wf : ∀ h, s.fmr.hire.map (hireAtStart s.fmr) = some h → h.bounded ∧ h.payable = none := by
      intro h held
      obtain ⟨k, found, rfl⟩ := Option.map_eq_some_iff.mp held
      obtain ⟨b, p⟩ := bounds k found
      rw [hired] at p
      exact hireAtStart_wf b p intervals
    refine ⟨?_, wf⟩
    rw [hired]
    exact wf
  · rw [if_neg (by decide), if_neg hired]
    refine ⟨fun h held => ?_, intervals⟩
    obtain ⟨k, found, rfl⟩ := Option.map_eq_some_iff.mp held
    obtain ⟨b, p⟩ := bounds k found
    exact ⟨bounded_congr rfl rfl rfl rfl rfl rfl b, p⟩

theorem startValues_meter (i : StartInput) {s : State} (wf : MeterWf s) : MeterWf (startValues i s) := by
  obtain ⟨active, pending⟩ := (startValues_keepsTables i s).sets ⟨wf.1, wf.2.1⟩
  refine ⟨active, pending, ?_⟩
  rcases startDtc_spec (coldStart i s) s.dtc with ⟨dtc, cold⟩ | ⟨warm, duty, -⟩
  · have dtc : (startValues i s).dtc = Dtc.reset := dtc
    have fmr : (startValues i s).fmr = Fmr.reset := by
      show startFmr (coldStart i s) _ _ = _
      rw [cold]
      rfl
    rw [dtc, fmr]
    exact ⟨by decide, nofun, nofun⟩
  · have duty : (startValues i s).dtc.duty = s.dtc.duty := duty
    have fmr : (startValues i s).fmr = startFmr false s.dtc.duty s.fmr := by
      show startFmr (coldStart i s) _ _ = _
      rw [warm]
    rw [duty, fmr, startFmr_hire]
    exact ⟨wf.2.2.1, startFmr_meter wf⟩

theorem startValues_keeps (i : StartInput) (s : State) : Keeps s (endPending (startValues i s)) := by
  have tables := startValues_keepsTables i s
  unfold endPending
  split
  · rename_i pending
    refine (enterVacant_keeps _).comp ⟨tables.trans (.dtcChange vacated_inRange), fun _ => ⟨List.nodup_nil, rfl⟩,
      fun wf => ?_, fun _ _ _ => nofun, fun wf => ?_⟩
    · obtain ⟨-, jobs, hire⟩ := startValues_records i wf
      rw [pending] at jobs hire
      exact ⟨nofun, fun some => absurd (jobs some) (by decide), hire.trans (by simp [vacated])⟩
    · obtain ⟨active, sets, hire, bounds, intervals⟩ := startValues_meter i wf
      rw [pending] at hire bounds
      exact ⟨active, sets, hire.trans (by simp [vacated]), bounds, intervals⟩
  · rename_i other
    refine ⟨tables, fun _ => ⟨List.nodup_nil, ?_⟩, startValues_records i, fun _ _ _ => nofun, startValues_meter i⟩
    rw [if_neg other]
    rfl

theorem execStart_keeps {i : StartInput} {s t : State} (h : execStart i s = .next t) : Keeps s t := by
  injection h with h
  have line : Keeps s (startLine i.event s) := by
    unfold startLine
    split <;> exact rest_keeps _ _
  exact h ▸ Keeps.ite (fun _ => line.trans (Keeps.ite (fun _ => startValues_keeps i _) fun _ => Keeps.refl _))
    fun _ => Keeps.refl s

/-! ## The end of the lamp test, and the stops (R174, R193, R194) -/

theorem resumeEmergency_keeps (s : State) : Keeps s (resumeEmergency s) := by
  unfold resumeEmergency
  split
  · rename_i idle
    refine Keeps.ite (fun _ => startArming_keeps fun wf => Option.not_isSome_iff_eq_none.mp fun some => ?_)
      fun _ => Keeps.refl s
    have := wf some
    simp [idle] at this
  · exact Keeps.refl s
  · rename_i active
    exact startFast_keeps _ (.inl active)
  · rename_i acknowledged
    exact (askAlarm_keeps _).comp (startSlow_keeps _ (.inr (.inl acknowledged)))
  · rename_i covert
    exact (askAlarm_keeps _).comp (startSlow_keeps _ (.inr (.inr covert)))
  · exact askClear_keeps s

theorem runLockout_keeps (s : State) : Keeps s (runLockout s) := by
  unfold runLockout
  split
  · exact Keeps.emuChange (.of_fields rfl rfl rfl id)
  all_goals exact Keeps.refl s

theorem standLockout_keeps (s : State) : Keeps s (standLockout s) := by
  unfold standLockout
  split
  · exact Keeps.emuChange (.of_fields rfl rfl rfl id)
  all_goals exact Keeps.refl s

theorem enterPower_keeps (s : State) : Keeps s (enterPower s) := .same

theorem startBeacon_keeps (s : State) : Keeps s (startBeacon s) := .same

/-- The interval timer changed alone. -/
theorem intervalSince_keeps (s : State) (t : Option Moment) :
    Keeps s { s with fmr := { s.fmr with intervalSince := t } } :=
  .fmrChange rfl fun ⟨_, _, _, bounds, intervals⟩ => ⟨bounds, intervals⟩

theorem halt_keeps (s : State) : Keeps s (halt s) := by
  have stopped := (intervalSince_keeps _ none).comp (standLockout_keeps s)
  exact (rest_keeps _ _).comp stopped

theorem reach_keeps (t : Moment) (s : State) : Keeps s (s.reach t) := rest_keeps _ _

theorem beginRunning_keeps (s : State) : Keeps s (beginRunning s) := by
  have begun : ∀ u : State, Keeps u (startBeacon (enterPower
      (if (startInterval u).stc.fault then startInterval u else resumeEmergency (runLockout (startInterval u))))) := by
    intro u
    have interval := startInterval_keeps u
    exact (startBeacon_keeps _).comp ((enterPower_keeps _).comp (interval.trans
      (Keeps.ite (fun _ => Keeps.refl _) fun _ => (resumeEmergency_keeps _).comp (runLockout_keeps _))))
  exact (begun _).comp ((rest_keeps _ _).comp (reach_keeps _ s))

/-! ## The clocks and the cab's position (R18 to R21) -/

theorem ticked_inRange {d : Dtc} (h : d.InRange) : d.ticked.InRange := by
  obtain ⟨-, age, time⟩ := h
  refine ⟨satAdd_le _ _ _, ?_, ?_⟩
  · show (if d.fixValid then satAdd tPosStale d.posAge 1 else d.posAge) ≤ tPosStale
    split
    · exact satAdd_le _ _ _
    · exact age
  · show (if d.timeValid then wrapInc 86399 d.timeOfDay else d.timeOfDay) ≤ 86399
    split
    · exact wrapInc_le time
    · exact time

theorem tickSecond_keeps (s : State) : Keeps s (tickSecond s) := by
  have ticked : Keeps s { s with dtc := s.dtc.ticked } := .dtcChange rfl rfl ticked_inRange
  have counted : Keeps { s with dtc := s.dtc.ticked }
      { s with dtc := s.dtc.ticked, nbt := { s.nbt with ticks := s.nbt.ticks + 1 } } := .nbtChange fun wf => wf
  exact (ageStore_keeps _).comp ((rest_keeps _ _).comp (ticked.trans counted))

theorem takeNav_inRange {r : NavRecord} {d : Dtc} (valid : navValid r = true) (h : d.InRange) :
    (takeNav r d).InRange := by
  have time : r.timeOfDay ≤ 86399 := by
    unfold navValid at valid
    simp only [Bool.and_eq_true, decide_eq_true_eq] at valid
    exact valid.1.2
  unfold takeNav
  dsimp only
  split
  · exact ⟨h.1, Nat.zero_le _, time⟩
  · exact ⟨h.1, h.2.1, time⟩

theorem takeNav_keeps {r : NavRecord} {s : State} (valid : navValid r = true) :
    Keeps s { s with dtc := takeNav r s.dtc } := by
  refine .dtcChange ?_ ?_ (takeNav_inRange valid) <;>
  · unfold takeNav
    dsimp only
    split <;> rfl

/-! ## The commands -/

theorem whenRunning_keeps {f : State → State} (h : ∀ s, Keeps s (f s)) (s : State) : Keeps s (whenRunning f s) :=
  Keeps.ite (fun _ => (finish_keeps _).comp (h s)) fun _ => Keeps.refl s

theorem unlessFault_keeps {f : State → State} (h : ∀ s, Keeps s (f s)) (s : State) : Keeps s (unlessFault f s) :=
  Keeps.ite (fun _ => Keeps.refl s) fun _ => h s

theorem receiveFrame_keeps {kind : Nat} {f : AirFrame} {s t : State} (h : receiveFrame kind f s = .next t) :
    Keeps s t := by
  injection h with h
  exact h ▸ Keeps.ite (fun _ => (finish_keeps _).comp (takeFrame_keeps _ f s)) fun _ => Keeps.refl s

theorem execUnassignedKind_keeps {kind : Nat} {f : AirFrame} {s t : State}
    (h : execUnassignedKind kind f s = .next t) : Keeps s t := by
  unfold execUnassignedKind at h
  split at h
  · exact receiveFrame_keeps h
  · injection h with h
    exact h ▸ Keeps.refl s

theorem execOneSecondTick_keeps {s t : State} (h : execOneSecondTick s = .next t) : Keeps s t := by
  unfold execOneSecondTick at h
  injection h with h
  subst h
  split
  · exact Keeps.refl s
  · exact tickSecond_keeps s
  · have beacon : ∀ u : State, Keeps u (tickBeacon u) := fun u => Keeps.ite (fun _ => cau_keeps u _) fun _ => Keeps.refl u
    have target : ∀ u : State, Keeps u (refreshTarget u) := fun u => .same
    exact (finish_keeps _).comp ((target _).comp ((beacon _).comp ((tickElapsed_keeps _).comp (tickSecond_keeps s))))

theorem endValidity_keeps (source : Station) (number : Serial) (s : State) : Keeps s (endValidity source number s) := by
  unfold endValidity
  split
  · exact Keeps.ite (fun _ => expireMsg_keeps _ s) fun _ => Keeps.refl s
  · exact Keeps.refl s

theorem execValidityExpiry_keeps {source : Station} {number : Serial} {s t : State}
    (h : execValidityExpiry source number s = .next t) : Keeps s t := by
  unfold execValidityExpiry at h
  injection h with h
  subst h
  split
  · exact Keeps.refl s
  · exact endValidity_keeps _ _ s
  · exact (finish_keeps _).comp (endValidity_keeps _ _ s)

theorem repeatEvent_keeps (k : Key) {act : State → State} (due : Moment) (h : ∀ u, Keeps u (act u)) (s : State) :
    Keeps s (repeatEvent k act due s) :=
  Keeps.comp (Keeps.ite (fun _ => Keeps.refl _) fun _ => keyEvent_keeps k (dropped_keeps h) _)
    ((cns_keeps _ _).comp (reach_keeps due s))

theorem execKeyRepeat_keeps {s t : State} (h : execKeyRepeat s = .next t) : Keeps s t := by
  injection h with h
  refine h ▸ whenRunning_keeps (fun s => ?_) s
  split
  · exact repeatEvent_keeps _ _ (movePointer_keeps _) s
  · exact repeatEvent_keeps _ _ (movePointer_keeps _) s
  · exact Keeps.refl s

theorem intervalEnd_keeps (t : Moment) {s : State} (hired : s.dtc.duty = .hired) :
    Keeps s { closeInterval true (s.reach t) with fmr :=
      { (closeInterval true (s.reach t)).fmr with
        intervalSince := some t, atInterval := (closeInterval true (s.reach t)).fmr.hire } } := by
  have closed : Keeps s (closeInterval true (s.reach t)) := 
    (closeInterval_keeps (s := s.reach t) true hired).comp (reach_keeps t s)
  have duty : (closeInterval true (s.reach t)).dtc.duty = .hired := by simpa using hired
  refine Keeps.comp (.fmrChange rfl fun ⟨_, _, _, bounds, _⟩ => ⟨bounds, ?_⟩) closed
  rw [duty] at bounds
  exact bounds

theorem execIntervalEnd_keeps {s t : State} (h : execIntervalEnd s = .next t) : Keeps s t := by
  injection h with h
  refine h ▸ whenRunning_keeps (fun s => ?_) s
  split
  · refine Keeps.ite (fun hired => ?_) fun _ => Keeps.refl s
    exact intervalEnd_keeps _ (of_decide_eq_true (Bool.and_eq_true_iff.mp hired).1)
  · exact Keeps.refl s

theorem execPositionStale_keeps {s t : State} (h : execPositionStale s = .next t) : Keeps s t := by
  injection h with h
  exact h ▸ whenRunning_keeps (fun s => Keeps.ite
    (fun _ => Keeps.dtcChange (d := { s.dtc with fixValid := false }) rfl rfl fun range => range)
    fun _ => Keeps.refl s) s

/-- The rows of the lines and the clocks (R18, R20, R76, R197 to R200). -/
theorem execNavRecord_keeps {r : NavRecord} {s t : State} (h : execNavRecord r s = .next t) : Keeps s t := by
  injection h with h
  refine h ▸ whenRunning_keeps (fun s => Keeps.ite (fun valid => ?_) fun _ => Keeps.refl s) s
  exact Keeps.ite (fun _ => Keeps.comp .same (takeNav_keeps valid)) fun _ => takeNav_keeps valid

theorem sampleLow_keeps (mv : Nat) (s : State) : Keeps s (sampleLow mv s) :=
  Keeps.ite (fun _ => rest_keeps _ _) fun _ => Keeps.refl s

theorem sampleNormal_keeps (mv : Nat) (s : State) : Keeps s (sampleNormal mv s) :=
  Keeps.ite (fun _ => rest_keeps _ _) fun _ => Keeps.refl s

theorem tickSlot_keeps (mv : Nat) (s : State) : Keeps s (tickSlot mv s) := by
  have sampled : ∀ u : State, Keeps u (sampleSense mv u) := by
    intro u
    unfold sampleSense
    dsimp only
    split
    · exact (sampleLow_keeps mv _).comp (rest_keeps _ _)
    · exact (sampleNormal_keeps mv _).comp (rest_keeps _ _)
  exact (sampled _).comp ((tickRelays_keeps _).comp (rest_keeps s _))

theorem enterPark_keeps (s : State) : Keeps s (enterPark s) :=
  (rest_keeps (closeTo .none (dropPrefix s)) _).comp ((closeTo_keeps _ _).comp (dropPrefix_keeps s))

theorem execCdAsserted_keeps {s t : State} (h : execCdAsserted s = .next t) : Keeps s t := by
  injection h with h
  have counted : Keeps s (if s.running then countAtCarrier s else s) :=
    Keeps.ite (fun _ => countAtCarrier_keeps s) fun _ => Keeps.refl s
  exact h ▸ (whenRunning_keeps (fun u => Keeps.refl u) _).comp ((rest_keeps _ _).comp counted)

/-- The rows of the channel (R38, R42, R53 to R64). -/
theorem firstBit_keeps (s : State) : Keeps s (firstBit s) := by
  unfold firstBit
  split
  · exact Keeps.ite (fun _ => Keeps.refl s) fun _ => (sendAck_keeps _ _).comp (reach_keeps _ s)
  · split
    · exact Keeps.ite (fun _ => (sendEntry_keeps _ _ _).comp (reach_keeps _ s)) fun _ => Keeps.refl s
    · exact Keeps.refl s

theorem lastBit_keeps (s : State) : Keeps s (lastBit s) := by
  unfold lastBit
  split
  · exact Keeps.ite (fun _ => (endAck_keeps _).comp (reach_keeps _ s)) fun _ => Keeps.refl s
  · split
    · exact Keeps.ite (fun _ => (endSending_keeps _ _ _).comp (reach_keeps _ s)) fun _ => Keeps.refl s
    · exact Keeps.refl s

theorem execGapEnd_keeps {s t : State} (h : execGapEnd s = .next t) : Keeps s t := by
  injection h with h
  refine h ▸ whenRunning_keeps (fun s => ?_) s
  split
  · exact (keyIfZero_keeps _ _).comp ((countGap_keeps _ _).comp (reach_keeps _ s))
  · exact Keeps.refl s

theorem execBackoffSlotEnd_keeps {s t : State} (h : execBackoffSlotEnd s = .next t) : Keeps s t := by
  injection h with h
  refine h ▸ whenRunning_keeps (fun s => ?_) s
  split
  · exact (keyIfZero_keeps _ _).comp ((countSlot_keeps _ _).comp (reach_keeps _ s))
  · exact Keeps.refl s

theorem execAckWaitExpiry_keeps {s t : State} (h : execAckWaitExpiry s = .next t) : Keeps s t := by
  injection h with h
  refine h ▸ whenRunning_keeps (fun s => ?_) s
  split
  · exact Keeps.ite (fun _ => (endAckWait_keeps _ _ _).comp (reach_keeps _ s)) fun _ => Keeps.refl s
  · exact Keeps.refl s

theorem execAckGapEnd_keeps {s t : State} (h : execAckGapEnd s = .next t) : Keeps s t := by
  injection h with h
  refine h ▸ whenRunning_keeps (fun s => ?_) s
  split
  · exact (endAckGap_keeps _ _).comp (reach_keeps _ s)
  · exact Keeps.refl s

theorem execLoopedFrameEnd_keeps {s t : State} (h : execLoopedFrameEnd s = .next t) : Keeps s t := by
  injection h with h
  refine h ▸ whenRunning_keeps (fun s => ?_) s
  split
  · exact Keeps.ite (fun _ => (endLooped_keeps _ _ _).comp (reach_keeps _ s)) fun _ => Keeps.refl s
  · exact Keeps.refl s

theorem execBeaconTimerExpiry_keeps {s t : State} (h : execBeaconTimerExpiry s = .next t) : Keeps s t := by
  injection h with h
  exact h ▸ whenRunning_keeps (fun s => Keeps.ite
    (fun _ => (requestFrame_asked beaconRequest _).keeps.comp (cau_keeps s _)) fun _ => Keeps.refl s) s

/-- The receive engine's own rows (R29 to R31). -/
theorem execSyncWordMatched_keeps {w : BitVec 16} {s t : State} (h : execSyncWordMatched w s = .next t) :
    Keeps s t := by
  injection h with h
  exact h ▸ whenRunning_keeps (fun s => Keeps.ite
    (fun _ => Keeps.ite (fun _ => rest_keeps _ _) fun _ => rest_keeps _ _) fun _ => Keeps.refl s) s

theorem execHeaderComplete_keeps {f : FrameHead} {length : Nat} {s t : State}
    (h : execHeaderComplete f length s = .next t) : Keeps s t := by
  injection h with h
  exact h ▸ whenRunning_keeps (fun s => Keeps.ite
    (fun _ => Keeps.ite (fun _ => rest_keeps _ _) fun _ => endBad_keeps s) fun _ => Keeps.refl s) s

/-- The ages of the tables (R70, R72, R76, R191). -/
theorem execNeighbourAgeOut_keeps {station : Station} {s t : State} (h : execNeighbourAgeOut station s = .next t) :
    Keeps s t := by
  injection h with h
  refine h ▸ whenRunning_keeps (fun s => ?_) s
  split
  · exact Keeps.ite (fun _ => dropNeighbour_keeps _ s) fun _ => Keeps.refl s
  · exact Keeps.refl s

theorem execRelayDelayEnd_keeps {k : RelayKey} {s t : State} (h : execRelayDelayEnd k s = .next t) : Keeps s t := by
  injection h with h
  refine h ▸ whenRunning_keeps (fun s => ?_) s
  split
  · exact Keeps.ite (fun _ => endRelayDelay_keeps _ s) fun _ => Keeps.refl s
  · exact Keeps.refl s

theorem execAlarmListExpiry_keeps {origin : Station} {s t : State} (h : execAlarmListExpiry origin s = .next t) :
    Keeps s t := by
  injection h with h
  refine h ▸ whenRunning_keeps (fun s => ?_) s
  split
  · exact (dropAlarm_keeps _ _).comp (reach_keeps _ s)
  · exact Keeps.refl s

/-- The contest's deadlines (R91, R95 to R98, R104). -/
theorem execBidDelayEnd_keeps {id : OfferId} {s t : State} (h : execBidDelayEnd id s = .next t) : Keeps s t := by
  injection h with h
  refine h ▸ whenRunning_keeps (fun s => ?_) s
  split
  · rename_i e found
    split
    · rename_i due waiting _
      exact (bidNow_keeps (s := s.reach due) found waiting).comp (reach_keeps _ s)
    · exact Keeps.refl s
  · exact Keeps.refl s

theorem execWindowEnd_keeps {id : OfferId} {s t : State} (h : execWindowEnd id s = .next t) : Keeps s t := by
  injection h with h
  refine h ▸ whenRunning_keeps (fun s => ?_) s
  split
  · exact Keeps.ite (fun _ => Keeps.refl s) fun _ => (endWindow_keeps _ _).comp (reach_keeps _ s)
  · exact Keeps.refl s

theorem execTAcceptExpiry_keeps {s t : State} (h : execTAcceptExpiry s = .next t) : Keeps s t := by
  injection h with h
  refine h ▸ whenRunning_keeps (fun s => ?_) s
  split
  · exact (declineWon_keeps _).comp (reach_keeps _ s)
  · exact Keeps.refl s

theorem execTAcceptLastFiveSeconds_keeps {s t : State} (h : execTAcceptLastFiveSeconds s = .next t) : Keeps s t := by
  injection h with h
  refine h ▸ whenRunning_keeps (fun s => ?_) s
  split
  · exact reach_keeps _ s
  · exact Keeps.refl s

theorem execTConfirmExpiry_keeps {s t : State} (h : execTConfirmExpiry s = .next t) : Keeps s t := by
  injection h with h
  refine h ▸ whenRunning_keeps (fun s => ?_) s
  split
  · exact (endConfirmWait_keeps _ _).comp (reach_keeps _ s)
  · exact Keeps.refl s

theorem execOfferHoldExpiry_keeps {id : OfferId} {s t : State} (h : execOfferHoldExpiry id s = .next t) :
    Keeps s t := by
  injection h with h
  refine h ▸ whenRunning_keeps (fun s => ?_) s
  split
  · rename_i e found
    refine Keeps.ite (fun _ => Keeps.refl s) fun spent => ?_
    have notWon : e.state ≠ .won := by
      simp only [Bool.or_eq_true, decide_eq_true_eq, not_or] at spent
      exact spent.2
    exact (freeOffer_keeps (s := s.reach e.holdEnd) (standsIn_of_found found) notWon).comp (reach_keeps _ s)
  · exact Keeps.refl s

/-- The deadlines of the staging and the store (R130, R146). -/
theorem execStagingDeadline_keeps {s t : State} (h : execStagingDeadline s = .next t) : Keeps s t := by
  injection h with h
  refine h ▸ whenRunning_keeps (fun s => ?_) s
  split
  · exact Keeps.comp (.tluRest rfl rfl rfl rfl id) (reach_keeps _ s)
  · exact Keeps.refl s

theorem execAssemblyTimeout_keeps {source : Station} {number : Serial} {s t : State}
    (h : execAssemblyTimeout source number s = .next t) : Keeps s t := by
  injection h with h
  refine h ▸ whenRunning_keeps (fun s => ?_) s
  split
  · exact Keeps.ite (fun _ => removeMsg_keeps _ s) fun _ => Keeps.refl s
  · exact Keeps.refl s

/-- The console's timers (R167, R168, R169, R172, R173, R175, R199). -/
theorem execKeyReleaseWaitEnd_keeps {s t : State} (h : execKeyReleaseWaitEnd s = .next t) : Keeps s t := by
  injection h with h
  refine h ▸ whenRunning_keeps (fun s => ?_) s
  split
  · exact Keeps.ite (fun _ => (cns_keeps _ _).comp (reach_keeps _ s)) fun _ => Keeps.refl s
  · exact Keeps.refl s

theorem execWakeTimerExpiry_keeps {s t : State} (h : execWakeTimerExpiry s = .next t) : Keeps s t := by
  injection h with h
  refine h ▸ whenRunning_keeps (fun s => ?_) s
  split
  · exact Keeps.ite (fun _ => rest_keeps s _) fun _ => Keeps.refl s
  · exact Keeps.refl s

theorem execParkTimerExpiry_keeps {s t : State} (h : execParkTimerExpiry s = .next t) : Keeps s t := by
  injection h with h
  refine h ▸ whenRunning_keeps (fun s => ?_) s
  split
  · exact Keeps.ite (fun _ => (enterPark_keeps _).comp (reach_keeps _ s)) fun _ => Keeps.refl s
  · exact Keeps.refl s

theorem execDimStepEnd_keeps {s t : State} (h : execDimStepEnd s = .next t) : Keeps s t := by
  injection h with h
  refine h ▸ whenRunning_keeps (fun s => ?_) s
  split
  · exact rest_keeps _ _
  · exact Keeps.refl s

theorem execActivityStretchEnd_keeps {s t : State} (h : execActivityStretchEnd s = .next t) : Keeps s t := by
  injection h with h
  refine h ▸ whenRunning_keeps (fun s => ?_) s
  split
  · exact (cns_keeps _ _).comp (reach_keeps _ s)
  · exact Keeps.refl s

theorem execBuzzerPatternEnd_keeps {s t : State} (h : execBuzzerPatternEnd s = .next t) : Keeps s t := by
  injection h with h
  refine h ▸ whenRunning_keeps (fun s => ?_) s
  split
  · exact (silence_keeps _).comp (reach_keeps _ s)
  · exact Keeps.refl s

theorem scanContact_keeps (k : Key) (s : State) : Keeps s (scanContact k s) := by
  unfold scanContact
  split
  · exact cns_keeps s _
  · exact Keeps.ite (fun _ => Keeps.refl s) fun _ => cns_keeps s _
  · exact cns_keeps s _
  · exact cns_keeps s _
  · exact Keeps.refl s

theorem scanRelease_keeps (k : Key) (s : State) : Keeps s (scanRelease k s) := by
  have waits : ∀ u : State, Keeps u (startReleaseWait u) := fun u => Keeps.ite (fun _ => cns_keeps u _) fun _ => Keeps.refl u
  unfold scanRelease
  split
  · exact Keeps.ite (fun _ => cns_keeps s _) fun _ => Keeps.refl s
  · exact (waits _).comp (cns_keeps s _)
  · exact waits s
  all_goals exact Keeps.refl s

/-- The emergency's timers (R179, R181, R187, R188). -/
theorem execHoldTimerExpiry_keeps {s t : State} (h : execHoldTimerExpiry s = .next t) : Keeps s t := by
  injection h with h
  refine h ▸ whenRunning_keeps (unlessFault_keeps fun s => ?_) s
  split
  · refine Keeps.ite (fun _ => Keeps.refl s) fun _ => (holdReached_keeps _).comp ?_
    exact Keeps.comp (Keeps.emuChange (.of_fields rfl rfl rfl id)) (reach_keeps _ s)
  · exact Keeps.refl s

theorem execAlarmDue_keeps {s t : State} (h : execAlarmDue s = .next t) : Keeps s t := by
  injection h with h
  refine h ▸ whenRunning_keeps (unlessFault_keeps fun s => ?_) s
  split
  · rename_i c due
    refine Keeps.trans (reach_keeps c.due s) (Keeps.comp (askAlarm_keeps _) (Keeps.emuChange ?_))
    refine ⟨⟨le_rfl, List.Sublist.refl _⟩, fun wf _ => wf ?_, id, id⟩
    exact Option.isSome_iff_exists.mpr ⟨c, due⟩
  · exact Keeps.refl s

theorem execClearDue_keeps {s t : State} (h : execClearDue s = .next t) : Keeps s t := by
  injection h with h
  refine h ▸ whenRunning_keeps (unlessFault_keeps fun s => ?_) s
  split
  · exact (askClear_keeps _).comp (Keeps.comp (Keeps.emuChange (.of_fields rfl rfl rfl id)) (reach_keeps _ s))
  · exact Keeps.refl s

theorem execLockoutExpiry_keeps {s t : State} (h : execLockoutExpiry s = .next t) : Keeps s t := by
  injection h with h
  refine h ▸ whenRunning_keeps (unlessFault_keeps fun s => ?_) s
  split
  · exact Keeps.comp (Keeps.emuChange (.of_fields rfl rfl rfl noAttempts_inRange)) (reach_keeps _ s)
  · exact Keeps.refl s
  · exact Keeps.refl s

/-- Every command keeps the tables, the records and the meter. -/
theorem exec_keeps {c : Instr} {s t : State} (h : exec c s = .next t) : Keeps s t := by
  cases c with
  | start i => exact execStart_keeps h
  | lampTestEnd =>
    injection h with h
    exact h ▸ Keeps.ite (fun _ => (finish_keeps _).comp (beginRunning_keeps s)) fun _ => Keeps.refl s
  | oneSecondTick => exact execOneSecondTick_keeps h
  | positionStale => exact execPositionStale_keeps h
  | navRecord r => exact execNavRecord_keeps h
  | keyContact k =>
    injection h with h
    exact h ▸ (whenRunning_keeps (scanContact_keeps k) _).comp (cns_keeps s _)
  | keyRelease k =>
    injection h with h
    exact h ▸ (whenRunning_keeps (scanRelease_keeps k) _).comp (cns_keeps s _)
  | keyReleaseWaitEnd => exact execKeyReleaseWaitEnd_keeps h
  | keyRepeat => exact execKeyRepeat_keeps h
  | wakeTimerExpiry => exact execWakeTimerExpiry_keeps h
  | shift => exact acceptKey_keeps _ (dropped_keeps shiftKey_keeps) h
  | hire => exact acceptKey_keeps _ (dropped_keeps hireKey_keeps) h
  | pay => exact acceptKey_keeps _ (dropped_keeps payKey_keeps) h
  | vacant => exact acceptKey_keeps _ (dropped_keeps vacantKey_keeps) h
  | onBreak => exact acceptKey_keeps _ (dropped_keeps breakKey_keeps) h
  | accept => exact acceptKey_keeps _ (dropped_keeps acceptRoute_keeps) h
  | decline => exact acceptKey_keeps _ (dropped_keeps declineKey_keeps) h
  | extra => exact acceptKey_keeps _ (dropped_keeps extraKey_keeps) h
  | tariffKey => exact acceptKey_keeps _ (dropped_keeps tariffPrefixKey_keeps) h
  | digit d => exact acceptKey_keeps _ (digitRoute_keeps d) h
  | read => exact acceptKey_keeps _ (dropped_keeps readRoute_keeps) h
  | up => exact acceptKey_keeps _ (dropped_keeps (movePointer_keeps _)) h
  | down => exact acceptKey_keeps _ (dropped_keeps (movePointer_keeps _)) h
  | reply => exact acceptKey_keeps _ (dropped_keeps replyRoute_keeps) h
  | clear => exact acceptKey_keeps _ (dropped_keeps clearRoute_keeps) h
  | odoPulse => injection h with h; exact h ▸ whenRunning_keeps countPulse_keeps s
  | intervalEnd => exact execIntervalEnd_keeps h
  | beacon _ | offer _ | bid _ | withdraw _ | take _ | release _ | confirm _ | msg _ | ack _ | fare _
  | tariff _ | alarm _ | alarmClear _ | alarmSeen _ => exact receiveFrame_keeps h
  | unassignedKind kind f => exact execUnassignedKind_keeps h
  | badLength length =>
    injection h with h
    exact h ▸ whenRunning_keeps (fun s => Keeps.ite (fun _ => endBad_keeps s) fun _ => Keeps.refl s) s
  | crcMismatch =>
    injection h with h
    exact h ▸ whenRunning_keeps (fun s => Keeps.ite (fun _ => endBad_keeps s) fun _ => Keeps.refl s) s
  | cdAsserted => exact execCdAsserted_keeps h
  | cdClear =>
    injection h with h
    exact h ▸ (whenRunning_keeps (fun u => Keeps.refl u) _).comp (rest_keeps _ _)
  | gapEnd => exact execGapEnd_keeps h
  | backoffSlotEnd => exact execBackoffSlotEnd_keeps h
  | keyupEnd => injection h with h; exact h ▸ whenRunning_keeps firstBit_keeps s
  | transmissionEnd => injection h with h; exact h ▸ whenRunning_keeps lastBit_keeps s
  | ackWaitExpiry => exact execAckWaitExpiry_keeps h
  | ackGapEnd => exact execAckGapEnd_keeps h
  | loopedFrameEnd => exact execLoopedFrameEnd_keeps h
  | beaconTimerExpiry => exact execBeaconTimerExpiry_keeps h
  | slotClockTick mv => injection h with h; exact h ▸ whenRunning_keeps (tickSlot_keeps mv) s
  | relayDelayEnd k => exact execRelayDelayEnd_keeps h
  | quietAsserted =>
    injection h with h
    exact h ▸ Keeps.ite (fun _ => Keeps.refl s) fun _ => (whenRunning_keeps abandonContests_keeps _).comp (rest_keeps _ _)
  | quietReleased =>
    injection h with h
    exact h ▸ Keeps.ite (fun _ => (whenRunning_keeps startBeacon_keeps _).comp (rest_keeps _ _)) fun _ => Keeps.refl s
  | supplyLow mv => injection h with h; exact h ▸ whenRunning_keeps (sampleLow_keeps mv) s
  | supplyNormal mv => injection h with h; exact h ▸ whenRunning_keeps (sampleNormal_keeps mv) s
  | ignOn => injection h with h; exact h ▸ (whenRunning_keeps toRun_keeps _).comp (rest_keeps _ _)
  | ignOff => injection h with h; exact h ▸ (whenRunning_keeps (fun _ => .same) _).comp (rest_keeps _ _)
  | parkTimerExpiry => exact execParkTimerExpiry_keeps h
  | neighbourAgeOut station => exact execNeighbourAgeOut_keeps h
  | homeReachExpiry =>
    injection h with h
    exact h ▸ whenRunning_keeps (fun s => Keeps.ite (fun _ => loseHome_keeps s) fun _ => Keeps.refl s) s
  | duplicateKeyAgeOut k => injection h with h; exact h ▸ whenRunning_keeps (ageKey_keeps k) s
  | bidDelayEnd id => exact execBidDelayEnd_keeps h
  | windowEnd id => exact execWindowEnd_keeps h
  | tAcceptExpiry => exact execTAcceptExpiry_keeps h
  | tConfirmExpiry => exact execTConfirmExpiry_keeps h
  | offerHoldExpiry id => exact execOfferHoldExpiry_keeps h
  | stagingDeadline => exact execStagingDeadline_keeps h
  | assemblyTimeout source number => exact execAssemblyTimeout_keeps h
  | validityExpiry source number => exact execValidityExpiry_keeps h
  | displayRefresh =>
    injection h with h
    exact h ▸ Keeps.ite (fun _ => Keeps.refl s) fun _ => cns_keeps s _
  | dimStepEnd => exact execDimStepEnd_keeps h
  | activityStretchEnd => exact execActivityStretchEnd_keeps h
  | blinkPhaseEnd lamp => injection h with h; exact h ▸ whenRunning_keeps (fun _ => .same) s
  | buzzerPatternEnd => exact execBuzzerPatternEnd_keeps h
  | alarmPressed =>
    injection h with h
    exact h ▸ Keeps.ite (fun _ => Keeps.refl s) fun _ =>
      (whenRunning_keeps (unlessFault_keeps alarmDown_keeps) _).comp (rest_keeps _ _)
  | alarmReleased =>
    injection h with h
    exact h ▸ Keeps.ite (fun _ => (whenRunning_keeps (unlessFault_keeps alarmUp_keeps) _).comp (rest_keeps _ _))
      fun _ => Keeps.refl s
  | holdTimerExpiry => exact execHoldTimerExpiry_keeps h
  | alarmDue => exact execAlarmDue_keeps h
  | clearDue => exact execClearDue_keeps h
  | lockoutExpiry => exact execLockoutExpiry_keeps h
  | alarmListExpiry origin => exact execAlarmListExpiry_keeps h
  | mainPowerLoss => injection h with h; exact h ▸ (halt_keeps _).comp (rest_keeps _ _)
  | resetAsserted => injection h with h; exact h ▸ (halt_keeps _).comp (rest_keeps _ _)
  | syncWordMatched w => exact execSyncWordMatched_keeps h
  | headerComplete f length => exact execHeaderComplete_keeps h
  | tAcceptLastFiveSeconds => exact execTAcceptLastFiveSeconds_keeps h

theorem step_keeps {s t : State} (h : step s = .next t) : Keeps s t := by
  unfold step at h
  split at h
  · injection h with h
    exact h ▸ (whenRunning_keeps (fun u => Keeps.refl u) _).comp (rest_keeps _ _)
  · exact (exec_keeps h).comp (rest_keeps _ _)

/-! ## What every step keeps -/

/-- Settles O58: every command keeps each table (`exec_keeps`). -/
theorem stepsKeepTheTables : Obligations.StepsKeepTheTables := by
  unfold Obligations.StepsKeepTheTables
  refine ⟨?_, ?_, ?_, ?_, ?_, ?_⟩ <;> intro s t wf h
  · exact (step_keeps h).nbt wf
  · exact (step_keeps h).offers wf
  · exact (step_keeps h).alarms wf
  · exact (step_keeps h).store wf
  · exact ⟨(step_keeps h).store wf.1, (step_keeps h).keys wf.1 wf.2⟩
  · exact (step_keeps h).log wf

/-- Settles O59: every command keeps the records with their duty states (`exec_keeps`); the passages between
duty states are those of `Keeps.dutyChange`, `Keeps.hirePasses` and `LosesWon.endPending`. -/
theorem stepsKeepTheRecords : Obligations.StepsKeepTheRecords := by
  unfold Obligations.StepsKeepTheRecords
  refine ⟨?_, ?_, ?_, ?_⟩ <;> intro s t wf h
  · exact (step_keeps h).pending wf
  · exact (step_keeps h).records wf
  · exact ⟨(step_keeps h).pending wf.1, (step_keeps h).contest wf.1 wf.2⟩
  · exact (step_keeps h).schedule wf

/-- Settles O60: every command keeps the hire record in its bounds and the counters in their ranges
(`exec_keeps`). -/
theorem stepsKeepTheMeter : Obligations.StepsKeepTheMeter := by
  unfold Obligations.StepsKeepTheMeter
  refine ⟨fun s t wf h => (step_keeps h).meter wf, fun s t wf h => ?_⟩
  obtain ⟨dtc, counters, tlu, emu⟩ := (countersWf_iff s).mp wf
  have keeps := (step_keeps h).toKeepsTables
  exact (countersWf_iff t).mpr ⟨keeps.dtc dtc, keeps.counters counters, keeps.tlu tlu, keeps.emu emu⟩

end Sys2Proof.Machine
end

section
/-! PROOFS. The queue of commands, the rank of bids, and the state before the first start. -/

namespace Sys2Proof.Machine

open Sys2Proof

-- The kernel's checks run one after another: side by side they ask for more threads than there is room for.
set_option Elab.async false

/-- Settles O1: a step on a queue with a front is that command on the rest, by `step`'s definition. -/
theorem stepRunsTheFrontCommand : Obligations.StepRunsTheFrontCommand := fun _ _ _ => rfl

/-! ## The rank of bids (R85) -/

theorem better_iff (a b : BidRank) : better a b = true ↔
    a.score < b.score ∨ a.score = b.score ∧
      (b.vacant < a.vacant ∨ a.vacant = b.vacant ∧ a.station < b.station) := by
  unfold better
  by_cases score : a.score = b.score
  · by_cases vacant : a.vacant = b.vacant
    · simp [score, vacant]
    · simp [score, vacant]
  · simp [score]

/-- The order of `better`, by its three numbers. -/
def RanksBefore (score vacant station score' vacant' station' : Nat) : Prop :=
  score < score' ∨ score = score' ∧ (vacant' < vacant ∨ vacant = vacant' ∧ station < station')

theorem RanksBefore.asymm {a v n b w m : Nat} (h : RanksBefore a v n b w m) : ¬RanksBefore b w m a v n := by
  unfold RanksBefore at *
  omega

theorem RanksBefore.trans {a v n b w m c x k : Nat} (h : RanksBefore a v n b w m) (h' : RanksBefore b w m c x k) :
    RanksBefore a v n c x k := by
  unfold RanksBefore at *
  omega

/-- Settles O36: the rank compares by score, then vacant minutes, then station, each a strict order. -/
theorem rankOrdersBids : Obligations.RankOrdersBids := by
  refine ⟨better_iff, fun a b other => ?_, fun a b => ?_, fun a b c => ?_⟩
  · rw [better_iff, better_iff]
    rcases Nat.lt_trichotomy a.score b.score with h | h | h
    · exact .inl (.inl h)
    · rcases Nat.lt_trichotomy a.vacant b.vacant with v | v | v
      · exact .inr (.inr ⟨h.symm, .inl v⟩)
      · rcases Nat.lt_or_gt_of_ne other with k | k
        · exact .inl (.inr ⟨h, .inr ⟨v, k⟩⟩)
        · exact .inr (.inr ⟨h.symm, .inr ⟨v.symm, k⟩⟩)
      · exact .inl (.inr ⟨h, .inl v⟩)
    · exact .inr (.inl h)
  · rw [better_iff, better_iff]
    exact fun ⟨h, h'⟩ => RanksBefore.asymm h h'
  · rw [better_iff, better_iff, better_iff]
    exact RanksBefore.trans

/-! ## The state before the first start -/

/-- Settles O55: before its first start the 4120 does not run, its tables are empty and its counters 0. -/
theorem invariantsHoldAtReset : Obligations.InvariantsHoldAtReset := by
  have stopped : State.reset.running ≠ true := by decide
  refine ⟨?_, fun run => absurd run stopped, fun run => absurd run stopped, fun run => absurd run stopped,
    ?_, ?_, ?_, ?_, ?_, ?_, ?_, ?_, ?_, ?_, ?_, ?_, ?_, ?_, ?_⟩
  · unfold DisplayWf RowWf; decide
  · exact ⟨by decide, List.Pairwise.nil, List.nodup_nil, nofun, nofun, by decide, by decide, by decide⟩
  · exact ⟨nofun, nofun⟩
  · unfold MaskWf; decide
  · unfold NbtWf; decide
  · unfold OffersWf; decide
  · unfold PendingWf; decide
  · unfold RecordsWf; decide
  · exact fun _ => nofun
  · exact ⟨nofun, nofun, by decide, nofun, nofun⟩
  · unfold LogWf; decide
  · unfold StoreWf; decide
  · unfold StoreKeysOnce; decide
  · unfold AlarmsWf; decide
  · unfold ScheduleWf; decide
  · unfold CountersWf; decide

end Sys2Proof.Machine
end

section
/-! PROOFS. Starts: the values a start gives every block, cold and warm, and the copy of the image. -/

namespace Sys2Proof.Machine

open Sys2Proof

-- The kernel's checks run one after another: side by side they ask for more threads than there is room for.
set_option Elab.async false

/-! ## A start that arises (R194) -/

theorem start_gives {i : StartInput} {s : State} (arises : startArises i.event s = true)
    (power : powered (startLine i.event s) = true) :
    exec (.start i) s = .next (endPending (startValues i (startLine i.event s))) := by
  show execStart i s = _
  simp [execStart, arises, power]

/-- The line of a start changes the lines alone. -/
@[simp] theorem startLine_frame (e : StartEvent) (s : State) :
    (startLine e s).stc = s.stc ∧ (startLine e s).dtc = s.dtc ∧ (startLine e s).fre = s.fre ∧
    (startLine e s).cau = s.cau ∧ (startLine e s).fmr = s.fmr ∧ (startLine e s).tlu = s.tlu ∧
    (startLine e s).mst = s.mst ∧ (startLine e s).cns = s.cns ∧ (startLine e s).emu = s.emu ∧
    (startLine e s).now = s.now := by
  cases e <;> exact ⟨rfl, rfl, rfl, rfl, rfl, rfl, rfl, rfl, rfl, rfl⟩

@[simp] theorem coldStart_startLine (i : StartInput) (e : StartEvent) (s : State) :
    coldStart i (startLine e s) = coldStart i s := by
  simp [coldStart]

@[simp] theorem causeOf_startLine (cold : Bool) (i : StartInput) (e : StartEvent) (s : State) :
    causeOf cold i (startLine e s) = causeOf cold i s := by
  simp [causeOf]

theorem endPending_of_ne {s : State} (h : s.dtc.duty ≠ .pending) : endPending s = s := if_neg h

theorem endPending_of_pending {s : State} (h : s.dtc.duty = .pending) : endPending s = enterVacant s := if_pos h

/-! ## Cold (R23, R43, R66, R82, R105, R125, R131, R139, R157, R177, R193, R196) -/

/-- Settles O3: a cold start writes each block's cold column, and OFF_SHIFT leaves no PENDING to end. -/
theorem coldStartGivesColdValues : Obligations.ColdStartGivesColdValues := by
  intro i s arises power cold
  have pending : (startValues i (startLine i.event s)).dtc.duty ≠ .pending := by
    simp [startValues, startDtc, cold, Dtc.reset]
  refine ⟨startValues i (startLine i.event s), by rw [start_gives arises power, endPending_of_ne pending], ?_⟩
  have sets : (startTlu true (!imageAccepted i.image) i.image s.tlu).active =
      if imageAccepted i.image then some (decodeImageSet i.image.setBytes) else none := by
    cases h : imageAccepted i.image <;> simp [startTlu, startSets]
  simp [startValues, cold, startStc, causeOf, startDtc, Dtc.reset, startFre, Fre.reset, Counters.reset, startCau,
    Cau.reset, Access.reset, startEmu, Emu.reset, Nbt.reset, Ocu.reset, startFmr, Fmr.reset, sets, startMst,
    startCns, Cns.reset, startSupply]
  simp [startTlu, startSets, Tlu.reset, ShiftTotals.zero, State.consoleConfig]

/-! ## Warm (R131, R157, R196) -/

/-- Nothing is queued or held, and no message is open. -/
def NothingAsked (s : State) : Prop := s.cau.queue = [] ∧ s.cau.held = none ∧ s.mst.openEntry = none

theorem removeFrame_of_nothing (k : FrameKind) (t : Tag) {s : State} (queue : s.cau.queue = [])
    (held : s.cau.held = none) : removeFrame k t s = s := by
  simp [removeFrame, queue, held]

/-- Where nothing is asked, an entry that leaves the store leaves its place and nothing else. -/
theorem removeMsg_of_nothing (n : Nat) {s : State} (h : NothingAsked s) :
    removeMsg n s = { s with mst := { s.mst with entries := s.mst.entries.filter (·.entry ≠ n) } } := by
  obtain ⟨queue, held, closed⟩ := h
  have freed : freeMsg n s = { s with mst := { s.mst with entries := s.mst.entries.filter (·.entry ≠ n) } } := by
    simp [freeMsg, closed]
  unfold removeMsg
  split
  · rename_i absent
    have all : s.mst.entries.filter (·.entry ≠ n) = s.mst.entries := by
      rw [← removeMsg_entries, removeMsg, absent]
    rw [all]
  · rw [freed]
    dsimp only
    split
    · exact removeFrame_of_nothing _ _ queue held
    · rfl

/-- Where nothing is asked, a notice changes the entries and the next number. -/
theorem raiseNotice_of_nothing (key : NoticeKey) (pin : Bool) (text : List Byte) {s : State} (h : NothingAsked s) :
    ∃ entries next, raiseNotice key pin text s =
      { s with mst := { s.mst with entries := entries, nextMsg := next } } := by
  have same : s = { s with mst := { s.mst with entries := s.mst.entries, nextMsg := s.mst.nextMsg } } := rfl
  have place : takePlace s = { s with mst := { s.mst with entries := (takePlace s).mst.entries } } := by
    unfold takePlace
    split
    · rfl
    · split
      · rw [removeMsg_of_nothing _ h]
      · rfl
  unfold raiseNotice
  split
  · rw [removeMsg_of_nothing _ h]; exact ⟨_, _, rfl⟩
  · split
    · rw [place]; exact ⟨_, _, rfl⟩
    · split
      · rw [removeMsg_of_nothing _ h]; exact ⟨_, _, rfl⟩
      · exact ⟨_, _, same⟩

/-- Where nothing is asked, a pending set becomes active and changes the entries of the store alone. -/
theorem applyPendingSet_of_nothing {s : State} (h : NothingAsked s) :
    ∃ entries next, applyPendingSet s =
      { s with
        tlu := { s.tlu with active := s.tlu.pendingSet.or s.tlu.active, pendingSet := none }
        mst := { s.mst with entries := entries, nextMsg := next } } := by
  cases pending : s.tlu.pendingSet with
  | none =>
    have none' : s.tlu = { s.tlu with pendingSet := none } := by rw [← pending]
    refine ⟨s.mst.entries, s.mst.nextMsg, ?_⟩
    simp only [applyPendingSet, pending, Option.none_or]
    rw [← none']
  | some p =>
    obtain ⟨entries, next, raised⟩ := raiseNotice_of_nothing .tariffNew false (codes "TARIFF NEW V" ++ dec p.version)
      (s := { s with tlu := { s.tlu with active := some p, pendingSet := none } }) h
    refine ⟨entries, next, ?_⟩
    simp only [applyPendingSet, pending, noticeTariffNew, raised, Option.some_or]

/-- The end of a retained PENDING at a start. -/
theorem endPending_of_nothing {s : State} (h : NothingAsked s) :
    ∃ entries next active pendingSet, endPending s =
      { s with
        dtc := { s.dtc with
          duty := if s.dtc.duty = .pending then .vacant else s.dtc.duty
          vacantSeconds := if s.dtc.duty = .pending then 0 else s.dtc.vacantSeconds }
        tlu := { s.tlu with active := active, pendingSet := pendingSet }
        mst := { s.mst with entries := entries, nextMsg := next } } := by
  by_cases pending : s.dtc.duty = .pending
  · obtain ⟨entries, next, applied⟩ := applyPendingSet_of_nothing
      (s := { s with dtc := { s.dtc with duty := .vacant, vacantSeconds := 0 } }) h
    refine ⟨entries, next, s.tlu.pendingSet.or s.tlu.active, none, ?_⟩
    rw [endPending_of_pending pending]
    simp [enterVacant, applied, pending]
  · refine ⟨s.mst.entries, s.mst.nextMsg, s.tlu.active, s.tlu.pendingSet, ?_⟩
    rw [endPending_of_ne pending]
    simp [pending]

theorem startValues_nothingAsked (i : StartInput) (s : State) : NothingAsked (startValues i s) :=
  ⟨rfl, rfl, rfl⟩

/-- The entries that a warm start keeps are told apart as they were. -/
theorem kept_entries_wf {s : State} (open_ : Option Nat) (wf : StoreWf s) (once : StoreKeysOnce s) {m : Mst}
    (entries : m.entries = (s.mst.entries.filter (keptAtStart open_)).map (replyBecomes .failed))
    (next : m.nextMsg = s.mst.nextMsg) {t : State} (mst : t.mst = m) : StoreWf t ∧ StoreKeysOnce t := by
  have entry : ∀ e : MsgEntry, (replyBecomes .failed e).entry = e.entry := fun e => by
    unfold replyBecomes; (repeat' split) <;> rfl
  have name : ∀ e : MsgEntry, (replyBecomes .failed e).name = e.name := fun e => by
    unfold replyBecomes; (repeat' split) <;> rfl
  obtain ⟨short, numbers, bound⟩ := wf
  refine ⟨⟨?_, ?_, ?_⟩, ?_⟩
  · rw [mst, entries, List.length_map]
    exact (List.length_filter_le _ _).trans short
  · rw [mst, entries, List.map_map, show (MsgEntry.entry ∘ replyBecomes .failed) = MsgEntry.entry from funext entry]
    exact numbers.sublist (List.filter_sublist.map _)
  · rw [mst, entries, next]
    intro e he
    obtain ⟨x, hx, rfl⟩ := List.mem_map.1 he
    rw [entry]
    exact bound x (List.mem_of_mem_filter hx)
  · rw [StoreKeysOnce, mst, entries, List.map_map,
      show (MsgEntry.name ∘ replyBecomes .failed) = MsgEntry.name from funext name]
    exact once.sublist (List.filter_sublist.map _)

/-- A warm start finds a hire HIRED as its last interval end left it, with the gap flagged (R124). -/
theorem startFmr_hire_warm (duty : DutyState) (f : Fmr) :
    (startFmr false duty f).hire = f.hire.map (fun h =>
      if duty = .hired then
        { f.atInterval.getD h with
          intervalMetres := 0
          flags := { (f.atInterval.getD h).flags with powerGap := true } }
      else { h with intervalMetres := 0 }) := by
  by_cases hired : duty = .hired
  · simp only [startFmr, hired, Bool.false_eq_true, if_false, if_true]
    rfl
  · simp [startFmr, hired]

theorem startFmr_intervalSince (duty : DutyState) (f : Fmr) : (startFmr false duty f).intervalSince = none := by
  by_cases hired : duty = .hired <;> simp [startFmr, hired]

theorem startEmuState_warm (e : EmuState) : startEmuState false e = if e = .arming then .idle else e := by
  cases e <;> rfl

/-- Settles O4: the retained values block by block, and the notice of a pending set that PENDING's end applies. -/
theorem warmStartKeepsTheRetainedArea : Obligations.WarmStartKeepsTheRetainedArea := by
  refine ⟨fun i s arises power warm => ?_, fun i s arises power warm => ?_⟩
  · obtain ⟨entries, next, active, pendingSet, ended⟩ :=
      endPending_of_nothing (startValues_nothingAsked i (startLine i.event s))
    refine ⟨_, start_gives arises power, ?_⟩
    rw [ended]
    simp [startValues, warm, startStc, causeOf, startDtc, Dtc.reset, startFre, Fre.reset, Counters.reset, startCau,
      Cau.reset, startEmu, Emu.reset, Nbt.reset, Ocu.reset, startTlu, startMst, startFmr_hire_warm,
      startFmr_intervalSince, startEmuState_warm]
  let v := startValues i (startLine i.event s)
  have duty : v.dtc.duty = s.dtc.duty := by simp [v, startValues, warm, startDtc]
  have entries : v.mst.entries = (s.mst.entries.filter (keptAtStart s.mst.openEntry)).map (replyBecomes .failed) := by
    simp [v, startValues, warm, startMst]
  have next : v.mst.nextMsg = s.mst.nextMsg := by simp [v, startValues, startMst]
  refine ⟨endPending v, v.tlu.active, v.tlu.pendingSet, start_gives arises power, ?_, ?_, ?_, ?_⟩
  · intro refused
    simp [v, startValues, warm, refused, startTlu, startSets]
  · intro accepted
    refine ⟨startActive (decodeImageSet i.image.setBytes) s.tlu.active, ?_, ?_, ?_⟩
    · simp [v, startValues, warm, accepted, startTlu, startSets]
    · cases s.tlu.active <;> rfl
    · simp [v, startValues, warm, accepted, startTlu, startSets]
  · rintro (other | empty)
    · rw [endPending_of_ne (duty ▸ other)]
      exact ⟨rfl, rfl, entries⟩
    · by_cases pending : v.dtc.duty = .pending
      · have same : applyPendingSet { v with dtc := { v.dtc with duty := .vacant, vacantSeconds := 0 } } =
            { v with dtc := { v.dtc with duty := .vacant, vacantSeconds := 0 } } := by
          simp [applyPendingSet, empty]
        rw [endPending_of_pending pending]
        simp only [enterVacant, same, pending]
        exact ⟨rfl, rfl, entries⟩
      · rw [endPending_of_ne pending]
        exact ⟨rfl, rfl, entries⟩
  · intro p pending set
    have pending' := duty.trans pending
    rw [endPending_of_pending pending']
    refine ⟨by simp [set], by simp, fun wf once => ?_⟩
    have applied : (enterVacant v).mst.entries = (raiseNotice .tariffNew false (codes "TARIFF NEW V" ++ dec p.version)
        { v with
          dtc := { v.dtc with duty := .vacant, vacantSeconds := 0 }
          tlu := { v.tlu with active := some p, pendingSet := none } }).mst.entries := by
      simp [enterVacant, pending', applyPendingSet, set, noticeTariffNew]
    obtain ⟨wf', once'⟩ := kept_entries_wf (m := v.mst) s.mst.openEntry wf once entries next (t :=
      { v with
        dtc := { v.dtc with duty := .vacant, vacantSeconds := 0 }
        tlu := { v.tlu with active := some p, pendingSet := none } }) rfl
    rw [applied, raiseNotice_entries wf' once']
    show storeWithNotice { noticeEntry _ _ _ with entry := v.mst.nextMsg } v.mst.entries = _
    rw [next, entries]
    rfl

end Sys2Proof.Machine
end

section
/-! PROOFS. The copy of the image, the end of the lamp test, and the stops. -/

namespace Sys2Proof.Machine

open Sys2Proof

-- The kernel's checks run one after another: side by side they ask for more threads than there is room for.
set_option Elab.async false

/-! ## The image check (R195) -/

theorem imageAccepted_iff (i : Image) : imageAccepted i = true ↔
    i.crcMatches = true ∧ crc16 i.setBytes = i.setCrc ∧ i.setBytes.length = 92 ∧ i.fleet.value ≠ 0 ∧
    1 ≤ i.ownStation.value ∧ i.ownStation.value ≤ 3839 ∧
    i.ownStation.absent = false ∧ i.fleet.absent = false ∧ i.home.absent = false ∧
    i.pulsesPerKm.absent = false ∧ i.rounding.absent = false ∧ i.cancelCode.absent = false := by
  simp only [imageAccepted, isCab, Bool.and_eq_true, decide_eq_true_eq, Bool.not_eq_true', and_assoc]

theorem clamp_bounds {lo hi : Nat} (x : Nat) (h : lo ≤ hi) : lo ≤ clamp lo hi x ∧ clamp lo hi x ≤ hi := by
  unfold clamp; omega

theorem itemIn_bounds {lo hi default : Nat} (x : Item) (low : lo ≤ default) (high : default ≤ hi) :
    lo ≤ itemIn lo hi default x ∧ itemIn lo hi default x ≤ hi := by
  unfold itemIn
  split
  · exact ⟨low, high⟩
  · exact clamp_bounds _ (low.trans high)

theorem itemIn_le {lo hi default : Nat} (x : Item) (low : lo ≤ default) (high : default ≤ hi) :
    itemIn lo hi default x ≤ hi := (itemIn_bounds x low high).2

/-- How far a rounding step lies from a value. -/
def stepDistance (value step : Nat) : Nat := max value step - min value step

/-- The copied rounding is the nearest of the three steps, the greater of two as near (R195). -/
theorem nearestRounding_nearest (value : Nat) : ∀ r ∈ [1, 5, 10],
    stepDistance value (nearestRounding value) < stepDistance value r ∨
      stepDistance value (nearestRounding value) = stepDistance value r ∧ r ≤ nearestRounding value := by
  simp only [List.mem_cons, List.not_mem_nil, or_false]
  unfold stepDistance nearestRounding
  rintro r (rfl | rfl | rfl) <;> split <;> [skip; split; skip; split; skip; split] <;> omega

theorem nearestRounding_cases (value : Nat) :
    nearestRounding value = 1 ∨ nearestRounding value = 5 ∨ nearestRounding value = 10 := by
  unfold nearestRounding
  split
  · exact .inl rfl
  · split
    · exact .inr (.inl rfl)
    · exact .inr (.inr rfl)

/-- The duress code is a code within its limits and another one than the cancel code (R178). -/
theorem duressOf_spec {cancel : Nat} {x : Item} {d : Nat} (h : duressOf cancel x = some d) : d ≤ 9999 ∧ d ≠ cancel := by
  unfold duressOf at h
  split at h
  · exact nomatch h
  · rename_i present
    cases h
    simp only [Bool.or_eq_true, decide_eq_true_eq, not_or] at present
    exact ⟨(clamp_bounds _ (by decide)).2, present.2⟩

theorem duressOf_eq_copied (cancel : Nat) (x : Item) :
    duressOf cancel x = if x.absent = true ∨ copied x 0 9999 0 = cancel then none else some (copied x 0 9999 0) := by
  unfold duressOf
  cases present : x.absent with
  | true => simp
  | false => simp [← clamp_eq_copied x 0 9999 0 (by decide) present]

/-- The end of PENDING at a start leaves the copy and the phrases. -/
theorem endPending_startValues (i : StartInput) (s : State) :
    (endPending (startValues i s)).stc = (startValues i s).stc ∧
    (endPending (startValues i s)).mst.phrases = (startValues i s).mst.phrases := by
  obtain ⟨entries, next, active, pendingSet, ended⟩ := endPending_of_nothing (startValues_nothingAsked i s)
  rw [ended]
  exact ⟨rfl, rfl⟩

/-- Settles O5: the check is the model's, and each item of an accepted image is clamped or at its default. -/
theorem imageCheckGivesFaultOrClampedCopy : Obligations.ImageCheckGivesFaultOrClampedCopy := by
  intro i s arises power
  obtain ⟨stc, phrases⟩ := endPending_startValues i (startLine i.event s)
  refine ⟨_, start_gives arises power, ?_, ?_, ?_⟩
  · rw [stc, ← imageAccepted_iff]
    show (!imageAccepted i.image) = false ↔ _
    simp
  · rw [stc]
    intro fault
    have refused : (!imageAccepted i.image) = true := fault
    simp [startValues, startStc, refused, faultConfig]
  · rw [stc, phrases]
    intro sound
    have accepted : imageAccepted i.image = true := by
      have : (!imageAccepted i.image) = false := sound
      simpa using this
    have config : (startValues i (startLine i.event s)).stc.config = acceptedConfig i.image := by
      simp [startValues, startStc, accepted]
    have list : (startValues i (startLine i.event s)).mst.phrases = i.image.phrases.map fun p => (p.getD []).take 40 := by
      simp only [startValues, startMst, startPhrases, accepted, Bool.not_true, Bool.false_eq_true, if_false]
      refine List.map_congr_left fun p _ => ?_
      cases p <;> rfl
    obtain ⟨_, _, _, _, _, _, _, fleet, home, pulses, _, cancel⟩ := (imageAccepted_iff i.image).1 accepted
    have item := fun (x : Item) (lo hi default : Nat) (h : lo ≤ hi) => itemIn_eq_copied x lo hi default h
    have cancelCopied := clamp_eq_copied i.image.cancelCode 0 9999 0 (by decide) cancel
    rw [config, list]
    refine ⟨clamp_eq_copied _ 1 65535 0 (by decide) fleet, clamp_eq_copied _ 3840 4095 0 (by decide) home,
      clamp_eq_copied _ 500 25000 0 (by decide) pulses, cancelCopied, ?duress, nearestRounding_nearest _,
      item _ 10 120 30 (by decide), item _ 30 300 90 (by decide), item _ 60 600 180 (by decide),
      item _ 5 30 12 (by decide), item _ 2 20 6 (by decide), item _ 0 31 4 (by decide), item _ 20 100 70 (by decide),
      item _ 500 5000 2000 (by decide), item _ 1 3 2 (by decide), rfl, ?console, rfl, rfl,
      (clamp_bounds _ (by decide)).1, (clamp_bounds _ (by decide)).2, (clamp_bounds _ (by decide)).1,
      (clamp_bounds _ (by decide)).2, (clamp_bounds _ (by decide)).1, (clamp_bounds _ (by decide)).2,
      nearestRounding_cases _, (clamp_bounds _ (by decide)).2, fun d held => duressOf_spec held,
      (itemIn_bounds _ (by decide) (by decide)).1, itemIn_le _ (by decide) (by decide),
      (itemIn_bounds _ (by decide) (by decide)).1, itemIn_le _ (by decide) (by decide),
      (itemIn_bounds _ (by decide) (by decide)).1, itemIn_le _ (by decide) (by decide),
      (itemIn_bounds _ (by decide) (by decide)).1, itemIn_le _ (by decide) (by decide),
      (itemIn_bounds _ (by decide) (by decide)).1, itemIn_le _ (by decide) (by decide),
      itemIn_le _ (by decide) (by decide),
      (itemIn_bounds _ (by decide) (by decide)).1, itemIn_le _ (by decide) (by decide),
      (itemIn_bounds _ (by decide) (by decide)).1, itemIn_le _ (by decide) (by decide),
      (itemIn_bounds _ (by decide) (by decide)).1, itemIn_le _ (by decide) (by decide),
      itemIn_le _ (by decide) (by decide), itemIn_le _ (by decide) (by decide),
      itemIn_le _ (by decide) (by decide), itemIn_le _ (by decide) (by decide)⟩
    case duress =>
      show duressOf (clamp 0 9999 i.image.cancelCode.value) _ = _
      rw [cancelCopied]
      exact duressOf_eq_copied _ _
    case console => simp [acceptedConfig, item, itemOn]

/-! ## The end of the lamp test (R194, R174, R179, R193, R199) -/

/-- What the blocks begin with at the end of the lamp test, before the emergency, the power and the beacon. -/
def blocksBegun (s : State) : State :=
  startInterval { s with
    now := max s.now (s.stc.phaseSince + 1000)
    stc := { s.stc with phase := .running }
    fre := { s.fre with rx := .hunt }
    slotAt := max s.now (s.stc.phaseSince + 1000)
    cns := { s.cns with
      scanner := scannerAtEnd s.cns.contacts (max s.now (s.stc.phaseSince + 1000)), lamps := Lamps.all .dark } }

theorem beginRunning_eq (s : State) : beginRunning s =
    startBeacon (enterPower (if s.stc.fault then blocksBegun s else resumeEmergency (runLockout (blocksBegun s)))) := by
  have fault : (blocksBegun s).stc.fault = s.stc.fault := by simp [blocksBegun]
  rw [← fault]
  rfl

theorem lampTestEnd_gives {s : State} (phase : s.stc.phase = .lampTest) :
    exec .lampTestEnd s = .next (finish (beginRunning s)) := by
  show execLampTestEnd s = _
  simp [execLampTestEnd, phase]

theorem runLockout_state (s : State) : ∃ lockout, (runLockout s).emu = { s.emu with lockout := lockout } := by
  unfold runLockout
  split
  · exact ⟨_, rfl⟩
  · exact ⟨_, rfl⟩
  · exact ⟨_, rfl⟩

/-- Without an emergency, retained or beginning, the blocks begin as they do. -/
theorem calm_begins {s : State} (idle : s.emu.state = .idle) (released : s.lines.alarmPressed = false) :
    ∃ lockout, (if s.stc.fault then blocksBegun s else resumeEmergency (runLockout (blocksBegun s))) =
      { blocksBegun s with emu := { s.emu with lockout := lockout } } := by
  have emu : (blocksBegun s).emu = s.emu := by simp [blocksBegun]
  split
  · exact ⟨s.emu.lockout, by rw [← emu]⟩
  · obtain ⟨lockout, same⟩ := runLockout_state (blocksBegun s)
    have kept : runLockout (blocksBegun s) = { blocksBegun s with emu := { s.emu with lockout := lockout } } := by
      rw [← emu, ← same]
      unfold runLockout updEmu
      (repeat' split) <;> rfl
    refine ⟨lockout, ?_⟩
    rw [kept]
    simp [resumeEmergency, idle, blocksBegun, released]

@[simp] theorem enterPower_stc (s : State) : (enterPower s).stc =
    { s.stc with power := if s.parkConditions then .park else s.stc.power } := by
  unfold enterPower
  split <;> simp_all

@[simp] theorem enterPower_scanner (s : State) : (enterPower s).cns.scanner = s.cns.scanner := by
  unfold enterPower
  split <;> rfl

theorem enterPower_level (s : State) :
    (s.parkConditions = true → (enterPower s).cns.level = 0) ∧
    (s.parkConditions = false → (enterPower s).cns.level = targetLevel s ∧ (enterPower s).cns.target = targetLevel s) := by
  unfold enterPower
  cases s.parkConditions <;> simp [setLevel]

theorem startBeacon_loaded (s : State) :
    (startBeacon s).cau.beaconLoaded = (s.cau.beaconLoaded || (!s.lines.quiet && !s.stc.fault)) := by
  unfold startBeacon reloadBeacon
  cases s.lines.quiet <;> cases s.stc.fault <;> simp

@[simp] theorem startBeacon_queue (s : State) : (startBeacon s).cau.queue = s.cau.queue := by
  unfold startBeacon reloadBeacon
  split <;> rfl

/-- The target of the backlight is read from the time of day and the copy. -/
theorem targetLevel_congr {s t : State} (dtc : t.dtc = s.dtc) (fault : t.stc.fault = s.stc.fault)
    (starts : t.stc.starts = s.stc.starts) (config : t.stc.config = s.stc.config) : targetLevel t = targetLevel s := by
  have console : t.consoleConfig = s.consoleConfig := by simp [State.consoleConfig, fault, starts, config]
  unfold targetLevel
  rw [minute_congr dtc, console]

theorem startInterval_fmr (s : State) : (startInterval s).fmr = { s.fmr with
    intervalSince := if s.dtc.duty = .hired && s.fmr.hire.isSome && !s.stc.fault then some s.now
      else s.fmr.intervalSince } := by
  unfold startInterval
  split <;> rfl

/-- Settles O6: without an emergency the rows of the lamp test's end are those of the blocks alone. -/
theorem lampTestEndBeginsTheBlocks : Obligations.LampTestEndBeginsTheBlocks := by
  intro s phase idle released
  obtain ⟨lockout, begun⟩ := calm_begins idle released
  let u : State := { blocksBegun s with emu := { s.emu with lockout := lockout } }
  have park : u.parkConditions = s.parkConditions := by
    simp [u, State.parkConditions, State.emergencyIdle, blocksBegun]
  have target : ∀ t : State, t = finish (startBeacon (enterPower u)) → targetLevel t = targetLevel u := by
    rintro t rfl
    exact targetLevel_congr (by simp) (by simp) (by simp) (by simp)
  obtain ⟨dark, lit⟩ := enterPower_level u
  refine ⟨_, lampTestEnd_gives phase, ?_⟩
  rw [beginRunning_eq, begun]
  refine ⟨by simp [blocksBegun], by simp [blocksBegun], by simp [blocksBegun], by simp [blocksBegun], ?power, ?dark,
    ?lit, ?scanner, ?beacon, ?interval, by simp [blocksBegun], ?hire, by simp [blocksBegun], by simp [blocksBegun],
    by simp [blocksBegun], by simp [blocksBegun], by simp [idle], by simp [blocksBegun]⟩
  case power =>
    rw [← park]
    simp [u, blocksBegun]
  case dark =>
    rw [← park]
    simpa [u] using dark
  case lit =>
    rw [← park, target _ rfl]
    simpa [u] using lit
  case scanner =>
    rcases contacts : s.cns.contacts with _ | ⟨k, _ | ⟨k', rest⟩⟩ <;> simp [blocksBegun, scannerAtEnd, contacts]
  case beacon =>
    simp only [finish_fields, startBeacon_loaded]
    simp [blocksBegun]
  case interval => simp [blocksBegun, startInterval_fmr]
  case hire => simp [blocksBegun, startInterval_fmr]

/-! ## The emergency taken up (R193, R179) -/

/-- A request into an empty queue stands there alone. -/
theorem requestFrame_empty (kind : FrameKind) (own : kind = .alarm ∨ kind = .alarmClear) {s : State}
    (queue : s.cau.queue = []) : ∃ e, (requestFrame (ownAlarmRequest kind) s).1.cau.queue = [e] ∧
      e.req = ownAlarmRequest kind ∧ (requestFrame (ownAlarmRequest kind) s).2 = .queued := by
  have general : requestFrame (ownAlarmRequest kind) s = requestGeneral (ownAlarmRequest kind) s := by
    rcases own with rfl | rfl <;> simp [requestFrame, ownAlarmRequest, isOwnAlarm, requestOwnAlarm, queue]
  rw [general]
  have cancels : withdrawCancels (ownAlarmRequest kind) s = none := by
    simp [withdrawCancels, queue]
  simp [requestGeneral, sameRecord, queue, cancels, placeRequest, queueCapacity, admitEntry, insertEntry]

theorem askAlarm_empty {s : State} (queue : s.cau.queue = []) :
    ∃ e, (askAlarm s).cau.queue = [e] ∧ e.req = ownAlarmRequest .alarm := by
  obtain ⟨e, stands, req, _⟩ := requestFrame_empty .alarm (.inl rfl) queue
  exact ⟨e, stands, req⟩

theorem askClear_empty {s : State} (queue : s.cau.queue = []) :
    ∃ e, (askClear s).cau.queue = [e] ∧ e.req = ownAlarmRequest .alarmClear := by
  obtain ⟨e, stands, req, answer⟩ := requestFrame_empty .alarmClear (.inr rfl) queue
  refine ⟨e, ?_, req⟩
  simp only [askClear, answer]
  exact stands

/-- What a request for the own frame leaves of the emergency: its state and its schedule. -/
theorem Asked.emergency {s t : State} (h : Asked s t) : t.emu.state = s.emu.state ∧ t.emu.schedule = s.emu.schedule :=
  ⟨by rw [h.emu], by rw [h.emu]⟩

/-- The emergency of the blocks begun is the retained one. -/
theorem runLockout_begun (s : State) : (runLockout (blocksBegun s)).emu.state = s.emu.state ∧
    (runLockout (blocksBegun s)).emu.schedule = s.emu.schedule ∧ (runLockout (blocksBegun s)).cau = s.cau ∧
    (runLockout (blocksBegun s)).now = max s.now (s.stc.phaseSince + 1000) := by
  obtain ⟨lockout, same⟩ := runLockout_state (blocksBegun s)
  rw [same]
  simp [blocksBegun]

/-- What the retained emergency of `u` is put to at the end of the lamp test (R193). -/
theorem resumeEmergency_active {u : State} (state : u.emu.state = .active) :
    (resumeEmergency u).emu.state = .active ∧
    (resumeEmergency u).emu.schedule = some ⟨.fast 5, 30000, u.now + 5000⟩ ∧
    (u.cau.queue = [] → ∃ e, (resumeEmergency u).cau.queue = [e] ∧ e.req = ownAlarmRequest .alarm) := by
  have resumed : resumeEmergency u = takeDue ⟨.fast 6, 30000, u.now⟩ u := by
    simp [resumeEmergency, state, startFast, tAlm2]
  obtain ⟨kept, schedule⟩ := (askAlarm_asked (updEmu (fun e =>
    { e with schedule := some ((⟨.fast 6, 30000, u.now⟩ : Schedule).next u.now) }) u)).emergency
  rw [resumed]
  exact ⟨kept.trans state, schedule, fun queue => askAlarm_empty queue⟩

/-- The slow schedule of a retained ACKNOWLEDGED or COVERT, and the frame asked for with it (R193). -/
theorem askAlarm_startSlow (period : Nat) (u : State) :
    (askAlarm (startSlow period u)).emu.state = u.emu.state ∧
    (askAlarm (startSlow period u)).emu.schedule = some ⟨.slow, period, u.now + period⟩ ∧
    (u.cau.queue = [] → ∃ e, (askAlarm (startSlow period u)).cau.queue = [e] ∧ e.req = ownAlarmRequest .alarm) := by
  obtain ⟨kept, schedule⟩ := (askAlarm_asked (startSlow period u)).emergency
  exact ⟨kept, schedule, fun queue => askAlarm_empty queue⟩

/-- Settles O7: each retained state of the emergency takes up its own schedule and asks for its own frame. -/
theorem lampTestEndTakesUpTheEmergency : Obligations.LampTestEndTakesUpTheEmergency := by
  intro s phase sound
  obtain ⟨state, schedule, cau, now⟩ := runLockout_begun s
  let u := runLockout (blocksBegun s)
  let t := finish (startBeacon (enterPower (resumeEmergency u)))
  have emu : t.emu = (resumeEmergency u).emu := by simp [t]
  have queue : t.cau.queue = (resumeEmergency u).cau.queue := by simp [t]
  have clock : t.now = u.now := by simp [t]
  have gives : exec .lampTestEnd s = .next t := by
    rw [lampTestEnd_gives phase, beginRunning_eq, sound, if_neg (by decide)]
  refine ⟨t, gives, by simp [t, u, blocksBegun], ?idle, ?active, ?acknowledged, ?covert, ?asked, ?clearing⟩
  case idle =>
    intro idle pressed
    have line : u.lines.alarmPressed = true := by simp [u, blocksBegun, pressed]
    have arms : resumeEmergency u = startArming u := by
      simp [resumeEmergency, u, state, idle] at line ⊢
      simp [line]
    have mask : (startBeacon (enterPower (startArming u))).cau.mask = 1 := by
      unfold startBeacon reloadBeacon startArming silence setMask
      split <;> simp [updEmu]
    rw [emu, clock, arms]
    refine ⟨rfl, ?_, rfl⟩
    simp only [t, arms, finish_fields]
    exact mask
  case active =>
    intro active
    obtain ⟨stays, runs, _⟩ := resumeEmergency_active (state.trans active)
    rw [emu, clock]
    refine ⟨stays, runs, ?_⟩
    have awake : (resumeEmergency u).parkConditions = false := by
      simp [State.parkConditions, State.emergencyIdle, u, stays]
    have power : u.stc.power = s.stc.power := by simp [u, blocksBegun]
    simp [t, awake, power]
  case acknowledged =>
    intro acknowledged
    have resumed : resumeEmergency u = askAlarm (startSlow 60000 u) := by
      simp [resumeEmergency, u, state, acknowledged, tAlm3]
    obtain ⟨stays, runs, _⟩ := askAlarm_startSlow 60000 u
    rw [emu, clock, resumed]
    exact ⟨stays.trans (state.trans acknowledged), runs⟩
  case covert =>
    intro covert
    have resumed : resumeEmergency u = askAlarm (startSlow 30000 u) := by
      simp [resumeEmergency, u, state, covert, tAlm2]
    obtain ⟨stays, runs, _⟩ := askAlarm_startSlow 30000 u
    rw [emu, clock, resumed]
    exact ⟨stays.trans (state.trans covert), runs⟩
  case asked =>
    intro retained empty
    have empty' : u.cau.queue = [] := by rw [cau]; exact empty
    rw [queue]
    rcases retained with active | acknowledged | covert
    · obtain ⟨_, _, asks⟩ := resumeEmergency_active (state.trans active)
      exact asks empty'
    · have resumed : resumeEmergency u = askAlarm (startSlow tAlm3 u) := by
        simp [resumeEmergency, u, state, acknowledged]
      obtain ⟨_, _, asks⟩ := askAlarm_startSlow tAlm3 u
      rw [resumed]
      exact asks empty'
    · have resumed : resumeEmergency u = askAlarm (startSlow tAlm2 u) := by
        simp [resumeEmergency, u, state, covert]
      obtain ⟨_, _, asks⟩ := askAlarm_startSlow tAlm2 u
      rw [resumed]
      exact asks empty'
  case clearing =>
    intro clearing
    have resumed : resumeEmergency u = askClear u := by simp [resumeEmergency, u, state, clearing]
    obtain ⟨stays, runs⟩ := (askClear_asked u).emergency
    rw [emu, queue, resumed]
    refine ⟨stays.trans (state.trans clearing), runs.trans schedule, fun empty => askClear_empty ?_⟩
    rw [cau]
    exact empty

/-! ## The stops (R24, R194, R196) -/

/-- A stop leaves the emergency its state, its serial, its count of attempts, and a running lockout the time left. -/
theorem standLockout_emu (s : State) :
    (standLockout s).emu.state = s.emu.state ∧ (standLockout s).emu.ownSerial = s.emu.ownSerial ∧
    (standLockout s).emu.attempts = s.emu.attempts ∧
    ∀ deadline, s.emu.lockout = some (.running deadline) →
      (standLockout s).emu.lockout = some (.standing (deadline - s.now)) := by
  unfold standLockout
  split
  · rename_i deadline lockout
    refine ⟨rfl, rfl, rfl, fun d held => ?_⟩
    rw [lockout] at held
    cases held
    rfl
  · rename_i lockout
    exact ⟨rfl, rfl, rfl, fun d held => by rw [lockout] at held; cases held⟩
  · rename_i lockout
    exact ⟨rfl, rfl, rfl, fun d held => by rw [lockout] at held; cases held⟩

/-- Settles O8: both rows write the line and stop the blocks; neither asks what the 4120 is doing. -/
theorem powerLossAndResetStopTheBlock : Obligations.PowerLossAndResetStopTheBlock := by
  intro s c row
  have stops : ∀ v : State, v.emu = s.emu → v.now = s.now →
      (halt v).emu.state = s.emu.state ∧ (halt v).emu.ownSerial = s.emu.ownSerial ∧
      (halt v).emu.attempts = s.emu.attempts ∧
      ∀ deadline, s.emu.lockout = some (.running deadline) →
        (halt v).emu.lockout = some (.standing (deadline - s.now)) := by
    intro v emu now
    rw [← emu, ← now]
    exact standLockout_emu v
  simp only [List.mem_cons, List.not_mem_nil, or_false] at row
  rcases row with rfl | rfl
  · obtain ⟨state, serial, attempts, lockout⟩ := stops
      { s with lines := { s.lines with mainPower := false }, stc := { s.stc with powerLost := true } } rfl rfl
    refine ⟨_, rfl, rfl, rfl, rfl, rfl, rfl, rfl, rfl, rfl, rfl, rfl, rfl, rfl, ?_, ?_, ?_, ?_, ?_,
      state, serial, attempts, lockout, ?_, ?_, ?_, fun _ => ⟨?_, ?_, ?_⟩, nofun⟩ <;> simp [halt]
  · obtain ⟨state, serial, attempts, lockout⟩ := stops
      { s with lines := { s.lines with resetAsserted := true } } rfl rfl
    refine ⟨_, rfl, rfl, rfl, rfl, rfl, rfl, rfl, rfl, rfl, rfl, rfl, rfl, rfl, ?_, ?_, ?_, ?_, ?_,
      state, serial, attempts, lockout, ?_, ?_, ?_, nofun, fun _ => ⟨?_, ?_, ?_⟩⟩ <;> simp [halt]

end Sys2Proof.Machine
end

section
/-! PROOFS. The clocks, the position, IGN and the park timer. -/

namespace Sys2Proof.Machine

open Sys2Proof

-- The kernel's checks run one after another: side by side they ask for more threads than there is room for.
set_option Elab.async false

theorem phase_of_running {s : State} (h : s.running = true) : s.stc.phase = .running := by
  simpa [State.running] using h

/-! ## The 1 s tick (R19, R20, R21, R64, R70, R146, R150, R166, R178) -/

theorem aged_eq (e : MsgEntry) : e.aged =
    if e.state = .assembling then { e with assemblyAge := min 30 (e.assemblyAge + 1) }
    else { e with listAge := min 65535 (e.listAge + 1), validityLeft := e.validityLeft.map (· - 1) } := by
  unfold MsgEntry.aged
  cases e.state <;> rfl

theorem tickElapsed_emu {s : State} (run : s.running = true) : (tickElapsed s).emu = { s.emu with
    elapsed := if !s.stc.fault && s.emu.state.takesCode then min 65535 (s.emu.elapsed + 1) else s.emu.elapsed } := by
  unfold tickElapsed elapsedRuns
  rw [run, Bool.true_and]
  split <;> rfl

@[simp] theorem tickBeacon_frame (s : State) :
    (tickBeacon s).lines = s.lines ∧ (tickBeacon s).stc = s.stc ∧ (tickBeacon s).dtc = s.dtc ∧
    (tickBeacon s).fre = s.fre ∧ (tickBeacon s).nbt = s.nbt ∧ (tickBeacon s).ocu = s.ocu ∧
    (tickBeacon s).fmr = s.fmr ∧ (tickBeacon s).tlu = s.tlu ∧ (tickBeacon s).mst = s.mst ∧
    (tickBeacon s).cns = s.cns ∧ (tickBeacon s).emu = s.emu ∧ (tickBeacon s).now = s.now ∧
    (tickBeacon s).tickAt = s.tickAt ∧ (tickBeacon s).slotAt = s.slotAt ∧ (tickBeacon s).pending = s.pending := by
  unfold tickBeacon
  split <;> exact ⟨rfl, rfl, rfl, rfl, rfl, rfl, rfl, rfl, rfl, rfl, rfl, rfl, rfl, rfl, rfl⟩

@[simp] theorem tickBeacon_cau (s : State) : (tickBeacon s).cau = { s.cau with
    beaconCount := if beaconRuns s then s.cau.beaconCount - 1 else s.cau.beaconCount } := by
  unfold tickBeacon
  split <;> rfl

@[simp] theorem tickSecond_frame (s : State) :
    (tickSecond s).lines = s.lines ∧ (tickSecond s).stc = s.stc ∧ (tickSecond s).fre = s.fre ∧
    (tickSecond s).cau = s.cau ∧ (tickSecond s).ocu = s.ocu ∧ (tickSecond s).fmr = s.fmr ∧
    (tickSecond s).tlu = s.tlu ∧ (tickSecond s).cns = s.cns ∧ (tickSecond s).emu = s.emu ∧
    (tickSecond s).slotAt = s.slotAt ∧ (tickSecond s).pending = s.pending :=
  ⟨rfl, rfl, rfl, rfl, rfl, rfl, rfl, rfl, rfl, rfl, rfl⟩

theorem refreshTarget_target {s : State} (run : s.running = true) (power : s.stc.power = .run) :
    (refreshTarget s).cns.target = targetLevel s := by
  simp only [refreshTarget, run, power, setTarget]
  split <;> [split; skip] <;> simp_all

/-- Settles O9: the tick counts in each block's own field, and the running 4120 then works out its levels. -/
theorem oneSecondTickCounts : Obligations.OneSecondTickCounts := by
  intro s run
  have phase := phase_of_running run
  let u := tickBeacon (tickElapsed (tickSecond s))
  have gives : exec .oneSecondTick s = .next (finish (refreshTarget u)) := by
    show execOneSecondTick s = _
    simp [execOneSecondTick, phase, u]
  have runs : (tickSecond s).running = true := by simp [State.running, phase]
  have beacon : beaconRuns (tickElapsed (tickSecond s)) = beaconRuns s := by
    simp [beaconRuns, State.running]
  refine ⟨_, gives, ?dtc, ?nbt, ?mst, ?emu, ?beacon, ?target, ?now, ?tick, ?_⟩
  case dtc => simp [u]; rfl
  case nbt => simp [u]; rfl
  case mst =>
    have entries : s.mst.entries.map MsgEntry.aged = _ := List.map_congr_left fun e _ => aged_eq e
    rw [← entries]
    simp [u]
    rfl
  case emu => simp [u, tickElapsed_emu runs]
  case beacon => simp [u, beacon]
  case target =>
    intro power
    have level : targetLevel (finish (refreshTarget u)) = targetLevel u :=
      targetLevel_congr (by simp) (by simp) (by simp) (by simp)
    simp only [level, finish_fields]
    exact refreshTarget_target (by simp [u, State.running, phase]) (by simp [u, power])
  case now => simp [u]; rfl
  case tick => simp [u]; rfl
  all_goals simp [u]

/-! ## The slot clock and SENSE (R57, R76, R200) -/

/-- The generator shifts its bits up by one; bit 0 is the difference of bits 14 and 13 (R57). -/
theorem rngAdvance_bit (g : BitVec 15) {n : Nat} (h : n < 15) : (rngAdvance g).getLsbD n =
    if n = 0 then g.getLsbD 14 != g.getLsbD 13 else g.getLsbD (n - 1) := by
  unfold rngAdvance
  by_cases zero : n = 0
  · subst zero
    cases g.getLsbD 14 <;> cases g.getLsbD 13 <;> simp
  · have one : (1#15).getLsbD n = false := by simp [BitVec.getLsbD_one, zero]
    have none' : (0#15).getLsbD n = false := by simp
    have shift : (g <<< 1).getLsbD n = g.getLsbD (n - 1) := by
      rw [BitVec.getLsbD_shiftLeft]
      simp [h, show ¬n < 1 by omega]
    rw [BitVec.getLsbD_or, shift, if_neg zero]
    split
    · rw [one, Bool.or_false]
    · rw [none', Bool.or_false]

theorem sampleLow_eq (mv : Nat) (s : State) : sampleLow mv s =
    if s.stc.supply = .normal ∧ mv < fallingMv (senseLevelNow s) then
      { s with stc := { s.stc with supply := .low }, lines := { s.lines with senseMv := mv } }
    else s := by
  simp [sampleLow]

theorem sampleNormal_eq (mv : Nat) (s : State) : sampleNormal mv s =
    if s.stc.supply = .low ∧ risingMv (senseLevelNow s) < mv then
      { s with stc := { s.stc with supply := .normal }, lines := { s.lines with senseMv := mv } }
    else s := by
  simp [sampleNormal]

/-- A sample sets the level read and moves the supply in one direction (R200). -/
theorem sampleSense_eq (mv : Nat) (s : State) : ∃ supply, sampleSense mv s =
      { s with lines := { s.lines with senseMv := mv }, stc := { s.stc with supply := supply } } ∧
    (s.stc.supply = .normal → supply = if mv < fallingMv (senseLevelNow s) then .low else .normal) ∧
    (s.stc.supply = .low → supply = if risingMv (senseLevelNow s) < mv then .normal else .low) := by
  have level : senseLevelNow { s with lines := { s.lines with senseMv := mv } } = senseLevelNow s := rfl
  cases supply : s.stc.supply with
  | normal =>
    refine ⟨if mv < fallingMv (senseLevelNow s) then .low else .normal, ?_, fun _ => rfl, nofun⟩
    simp only [sampleSense, supply, sampleLow_eq, level, true_and]
    split
    · rfl
    · rw [← supply]
  | low =>
    refine ⟨if risingMv (senseLevelNow s) < mv then .normal else .low, ?_, nofun, fun _ => rfl⟩
    simp only [sampleSense, supply, sampleNormal_eq, level, true_and]
    split
    · rfl
    · rw [← supply]

/-- What a tick of the slot clock leaves, part by part. -/
theorem tickSlot_eq (mv : Nat) (s : State) : ∃ supply, tickSlot mv s =
      { s with
        now := max s.now (s.slotAt + 20)
        slotAt := s.slotAt + 20
        cau := { s.cau with rng := rngAdvance s.cau.rng }
        nbt := { s.nbt with
          relays := updateWhere (·.state = .delay) (fun r => { r with slotsLeft := r.slotsLeft - 1 }) s.nbt.relays }
        lines := { s.lines with senseMv := mv }
        stc := { s.stc with supply := supply } } ∧
    (s.stc.supply = .normal → supply = if mv < fallingMv (senseLevelNow s) then .low else .normal) ∧
    (s.stc.supply = .low → supply = if risingMv (senseLevelNow s) < mv then .normal else .low) :=
  sampleSense_eq mv (tickRelays
    { s with
      now := max s.now (s.slotAt + 20), slotAt := s.slotAt + 20, cau := { s.cau with rng := rngAdvance s.cau.rng } })

/-- Settles O10: the slot clock's three parts each on their own field, and the two rows of SENSE. -/
theorem slotTickAdvancesGeneratorRelaysAndSense : Obligations.SlotTickAdvancesGeneratorRelaysAndSense := by
  refine ⟨fun mv s run => ?_, rfl, fun mv s run => ⟨?_, ?_⟩⟩
  · obtain ⟨supply, ticked, falls, rises⟩ := tickSlot_eq mv s
    have gives : exec (.slotClockTick mv) s = .next (finish (tickSlot mv s)) := by
      show execSlotClockTick mv s = _
      rw [execSlotClockTick, whenRunning_of_running _ run]
    refine ⟨_, gives, fun n small => ?rng, ?_⟩
    case rng =>
      rw [← rngAdvance_bit _ small, ticked]
      simp
    rw [ticked]
    cases before : s.stc.supply with
    | normal => simp [falls before, updateWhere]
    | low => simp [rises before, updateWhere]
  · exact gives_of_whenRunning rfl run (sampleLow_eq mv s)
  · exact gives_of_whenRunning rfl run (sampleNormal_eq mv s)

/-! ## Position and time (R18, R20) -/

theorem navValid_iff (r : NavRecord) : navValid r = true ↔
    r.markerBegins = true ∧ r.allFields = true ∧ r.checkMatches = true ∧ r.timeOfDay ≤ 86399 ∧
      (r.fix = .fix ∨ r.fix = .noFix) := by
  have fix : r.fix ≠ .neither ↔ r.fix = .fix ∨ r.fix = .noFix := by cases r.fix <;> decide
  rw [← fix]
  simp [navValid, and_assoc]

/-- A taken record leaves the duty and what belongs to it. -/
theorem takeNav_fields (r : NavRecord) (d : Dtc) :
    (takeNav r d).timeOfDay = r.timeOfDay ∧ (takeNav r d).timeValid = true ∧
    (r.fix = .fix → (takeNav r d).pos = r.position ∧ (takeNav r d).fixValid = true ∧ (takeNav r d).posAge = 0) ∧
    (r.fix = .noFix → (takeNav r d).fixValid = false ∧ (takeNav r d).posAge = d.posAge) ∧
    (takeNav r d).duty = d.duty ∧ (takeNav r d).vacantSeconds = d.vacantSeconds ∧ (takeNav r d).job = d.job := by
  cases fix : r.fix <;> simp [takeNav, fix]

/-- What a valid record leaves: the cab record taken, and where the time moved, a target worked out. -/
theorem navRecord_valid {r : NavRecord} {s : State} (run : s.running = true) (valid : navValid r = true) :
    ∃ u, exec (.navRecord r) s = .next (finish u) ∧ u.dtc = takeNav r s.dtc ∧ u.fre = s.fre ∧ u.nbt = s.nbt ∧
      u.ocu = s.ocu ∧ u.fmr = s.fmr ∧ u.tlu = s.tlu ∧ u.mst = s.mst ∧ u.emu = s.emu ∧ u.now = s.now ∧ u.cau = s.cau := by
  let taken : State := { s with dtc := takeNav r s.dtc }
  by_cases changed : s.time ≠ some r.timeOfDay
  · refine ⟨refreshTarget taken, ?_, by simp [taken], by simp [taken], by simp [taken], by simp [taken],
      by simp [taken], by simp [taken], by simp [taken], by simp [taken], by simp [taken], by simp [taken]⟩
    show execNavRecord r s = _
    simp [execNavRecord, whenRunning_of_running _ run, valid, changed, taken]
  · refine ⟨taken, ?_, rfl, rfl, rfl, rfl, rfl, rfl, rfl, rfl, rfl, rfl⟩
    show execNavRecord r s = _
    simp only [execNavRecord, whenRunning_of_running _ run, valid, changed, decide_false, if_true, if_false, taken,
      Bool.false_eq_true]

/-- Settles O11: the stale position by its age, a record by its tests. -/
theorem navRecordAndAgeMovePosition : Obligations.NavRecordAndAgeMovePosition := by
  refine ⟨fun s run => gives_of_whenRunning (f := fun s =>
    if s.dtc.fixValid && 10 ≤ s.dtc.posAge then { s with dtc := { s.dtc with fixValid := false } } else s)
    rfl run (by simp), fun r s run => ?_⟩
  cases valid : navValid r with
  | false =>
    have gives : exec (.navRecord r) s = .next (finish s) := by
      show execNavRecord r s = _
      simp [execNavRecord, whenRunning_of_running _ run, valid]
    have refused := mt (navValid_iff r).2 (by rw [valid]; decide)
    exact ⟨_, gives, fun tests => absurd tests refused, fun _ => finish_settled s, by simp⟩
  | true =>
    have accepted := (navValid_iff r).1 valid
    obtain ⟨u, gives, dtc, fre, nbt, ocu, fmr, tlu, mst, emu, now, cau⟩ := navRecord_valid run valid
    obtain ⟨time, timeValid, fix, noFix, duty, vacant, job⟩ := takeNav_fields r s.dtc
    have taken : (finish u).dtc = takeNav r s.dtc := by simp [dtc]
    refine ⟨_, gives, fun _ => ?_, fun other => absurd accepted other, ?_⟩
    · rw [taken]
      exact ⟨time, timeValid, fix, noFix⟩
    · rw [taken]
      refine ⟨duty, vacant, job, ?_⟩
      simp [fre, nbt, ocu, fmr, tlu, mst, emu, now, cau]

/-! ## IGN and the park timer (R199, R168, R176) -/

/-- Closing the driver view changes it and nothing else of the console. -/
theorem closeTo_cns (v : DriverView) (s : State) : (closeTo v s).cns = { s.cns with view := v } := by
  have freed : ∀ n u, ∃ w, (freeMsg n u).cns = { u.cns with view := w } := fun n u => by
    unfold freeMsg
    dsimp only
    split
    · exact ⟨_, rfl⟩
    · exact ⟨u.cns.view, rfl⟩
  have removed : ∀ n u, ∃ w, (removeMsg n u).cns = { u.cns with view := w } := fun n u => by
    unfold removeMsg
    split
    · exact ⟨u.cns.view, rfl⟩
    · dsimp only
      split
      · rw [(removeFrame_asked _ _ _).cns]; exact freed n u
      · exact freed n u
  have closed : ∃ w, (closeMsg s).cns = { s.cns with view := w } := by
    unfold closeMsg
    split
    · dsimp only
      split
      · exact removed _ _
      · exact ⟨s.cns.view, rfl⟩
    · exact ⟨s.cns.view, rfl⟩
  obtain ⟨w, closed⟩ := closed
  simp only [closeTo, closed]

/-- Closing the driver view leaves no open entry. -/
theorem closeTo_openEntry (v : DriverView) (s : State) : (closeTo v s).mst.openEntry = none := by
  have freed : ∀ n u, u.mst.openEntry = none → (freeMsg n u).mst.openEntry = none := fun n u h => by
    simp [freeMsg, h]
  have removed : ∀ n u, u.mst.openEntry = none → (removeMsg n u).mst.openEntry = none := fun n u h => by
    unfold removeMsg
    split
    · exact h
    · dsimp only
      split
      · rw [(removeFrame_asked _ _ _).mst]; exact freed n u h
      · exact freed n u h
  show (closeMsg s).mst.openEntry = none
  unfold closeMsg
  split
  · dsimp only
    split
    · exact removed _ _ rfl
    · rfl
  · rfl

theorem finish_parkSince_eq (s : State) : (finish s).stc.parkSince =
    if s.stc.power = .run && s.parkConditions then some (s.stc.parkSince.getD s.now) else none := by
  have park : (followPark (settleAccess s)).stc.parkSince =
      if s.stc.power = .run && s.parkConditions then some (s.stc.parkSince.getD s.now) else none := by
    have conditions : (settleAccess s).parkConditions = s.parkConditions := by
      simp [State.parkConditions, State.emergencyIdle]
    have power : (settleAccess s).stc = s.stc := by simp
    unfold followPark
    rw [conditions, power]
    cases since : s.stc.parkSince <;> split <;> simp [since, power]
  rw [← park]
  simp [finish]

theorem finish_display_dark {s : State} (power : s.stc.power = .park) (asleep : s.cns.wakeSince = none) :
    (finish s).cns.display = blankDisplay := by
  rw [finish_display]
  simp [displayNow, power, asleep]

theorem enterPark_cns (s : State) : (enterPark s).cns =
    { s.cns with
      view := .none, keyPrefix := none, buzzer := parkTone s.cns.buzzer, wakeSince := none, level := 0,
      dimSince := none } := by
  simp only [enterPark, setLevel, closeTo_cns, dropPrefix]

/-- Settles O13: IGN on runs, IGN off starts the timer, and its end darkens the console. -/
theorem ignitionAndParkTimerMovePower : Obligations.IgnitionAndParkTimerMovePower := by
  intro s run
  refine ⟨?on, ?off, ?expiry⟩
  case on =>
    let v : State := { s with lines := { s.lines with ignOn := true } }
    have gives : exec .ignOn s = .next (finish (toRun v)) := by
      show execIgnOn s = _
      simp [execIgnOn, v, whenRunning, State.running, phase_of_running run]
    have stopped : (toRun v).parkConditions = false := by simp [State.parkConditions, v]
    refine ⟨_, gives, by simp [v], by simp [toRun_power], by simp [finish_parkSince_eq, stopped], ?_, by simp [v]⟩
    intro parked
    have awake : (toRun v).cns.wakeSince = none := by
      have power : v.stc.power = .park := parked
      simp only [toRun, power, refreshTarget, setTarget]
      (repeat' split) <;> rfl
    simp [awake]
  case off =>
    let v : State := { s with lines := { s.lines with ignOn := false } }
    have gives : exec .ignOff s = .next (finish (followPark v)) := by
      show execIgnOff s = _
      simp [execIgnOff, v, whenRunning, State.running, phase_of_running run]
    refine ⟨_, gives, (followPark_settled v).trans (finish_settled _), fun power duty idle => ?_⟩
    have conditions : v.parkConditions = true := by
      rcases duty with d | d <;> simp [State.parkConditions, v, State.emergencyIdle, d, idle]
    have since : (followPark v).stc.parkSince = some (s.stc.parkSince.getD s.now) := by
      have running : v.stc.power = .run := power
      simp only [followPark, running, conditions]
      cases h : v.stc.parkSince with
      | none => simp [h, show s.stc.parkSince = none from h, v]
      | some t => simp [h, show s.stc.parkSince = some t from h]
    have kept : (followPark v).parkConditions = true := by
      rw [← conditions]
      simp [State.parkConditions, State.emergencyIdle]
    have runs : (followPark v).stc.power = .run := by
      rw [((followPark_settled v).keepsParts).2.1]
      exact power
    rw [finish_parkSince_eq, kept, runs, since]
    rfl
  case expiry =>
    intro since held power conditions
    let u : State := s.reach (since + tPark)
    have gives : exec .parkTimerExpiry s = .next (finish (enterPark u)) := by
      show execParkTimerExpiry s = _
      simp [execParkTimerExpiry, whenRunning_of_running _ run, held, power, conditions, u]
    have parked : (enterPark u).stc.power = .park := rfl
    have asleep : (enterPark u).cns.wakeSince = none := rfl
    refine ⟨_, gives, by simp [parked], by simp [finish_parkSince_eq, parked], ?now, ?view, ?keyPrefix, ?level,
      finish_display_dark parked asleep, ?entry, ?buzzer, ?_⟩
    case now => simp [enterPark, u, tPark, State.reach]
    case view => simp [enterPark_cns]
    case keyPrefix => simp [enterPark_cns]
    case level => simp [enterPark_cns]
    case entry => simp [enterPark, closeTo_openEntry]
    case buzzer => simp [enterPark_cns, parkTone, u]
    all_goals simp [enterPark, u]

end Sys2Proof.Machine
end

section
/-! PROOFS. The key scanner, the repeats of a held arrow, the dark display, and the keys that are not available. -/

namespace Sys2Proof.Machine

open Sys2Proof

-- The kernel's checks run one after another: side by side they ask for more threads than there is room for.
set_option Elab.async false

/-! ## The scanner (R169) -/

/-- Where a contact of a key moves the scanner (R169). -/
def Scanner.contacted (k : Key) (now : Moment) : Scanner → Scanner
  | .free => .settling k now
  | .settling j since => if j = k then .settling j since else .locked
  | .held j down due => .held j down due
  | .locked => .locked
  | .off => .off

/-- Where a release of a key moves the scanner (R169). -/
def Scanner.released (k : Key) : Scanner → Scanner
  | .free => .free
  | .settling j since => if j = k then .free else .settling j since
  | .held j down due => .held j (down && j ≠ k) due
  | .locked => .locked
  | .off => .off

/-- A contact moves the scanner and at most ends a release wait. -/
theorem scanContact_eq (k : Key) (s : State) : ∃ scanner wait, scanContact k s =
      { s with cns := { s.cns with scanner := scanner, releaseSince := wait } } ∧
    scanner = s.cns.scanner.contacted k s.now ∧
    ((∃ j down due, s.cns.scanner = .held j down due) ∨ s.cns.scanner = .locked → wait = none) := by
  unfold scanContact
  cases scanner : s.cns.scanner with
  | free => exact ⟨_, s.cns.releaseSince, rfl, rfl, by simp⟩
  | settling j since =>
    by_cases same : j = k
    · exact ⟨s.cns.scanner, s.cns.releaseSince, by simp [same], by simp [same, scanner, Scanner.contacted], by simp⟩
    · exact ⟨.locked, s.cns.releaseSince, by simp [same], by simp [same, Scanner.contacted], by simp⟩
  | held j down due => exact ⟨s.cns.scanner, none, by simp, scanner, fun _ => rfl⟩
  | locked => exact ⟨s.cns.scanner, none, by simp, scanner, fun _ => rfl⟩
  | off => exact ⟨s.cns.scanner, s.cns.releaseSince, by simp, scanner, by simp⟩

/-- A release moves the scanner and at most begins a release wait, where no key makes contact any more. -/
theorem scanRelease_eq (k : Key) (s : State) : ∃ scanner wait, scanRelease k s =
      { s with cns := { s.cns with scanner := scanner, releaseSince := wait } } ∧
    scanner = s.cns.scanner.released k ∧
    ((∃ j down due, s.cns.scanner = .held j down due) ∨ s.cns.scanner = .locked →
      s.cns.contacts = [] → wait = some s.now) := by
  have waits : ∀ u : State, ∃ wait, startReleaseWait u = { u with cns := { u.cns with releaseSince := wait } } ∧
      (u.cns.contacts = [] → wait = some u.now) := fun u => by
    unfold startReleaseWait
    split
    · exact ⟨_, rfl, fun _ => rfl⟩
    · rename_i some
      exact ⟨u.cns.releaseSince, rfl, fun none => absurd (by simp [none]) some⟩
  unfold scanRelease
  cases scanner : s.cns.scanner with
  | free => exact ⟨s.cns.scanner, s.cns.releaseSince, by simp, scanner, by simp⟩
  | settling j since =>
    by_cases same : j = k
    · exact ⟨.free, s.cns.releaseSince, by simp [same], by simp [same, Scanner.released], by simp⟩
    · exact ⟨s.cns.scanner, s.cns.releaseSince, by simp [same], by simp [same, scanner, Scanner.released], by simp⟩
  | held j down due =>
    obtain ⟨wait, began, from_⟩ := waits { s with cns := { s.cns with scanner := .held j (down && j ≠ k) due } }
    exact ⟨_, wait, began, rfl, fun _ => from_⟩
  | locked =>
    obtain ⟨wait, began, from_⟩ := waits s
    exact ⟨s.cns.scanner, wait, began, scanner, fun _ => from_⟩
  | off => exact ⟨s.cns.scanner, s.cns.releaseSince, by simp, scanner, by simp⟩

/-- Settles O14: each row of the scanner by where it stands. -/
theorem scannerFollowsContacts : Obligations.ScannerFollowsContacts := by
  intro k s run
  have phase := phase_of_running run
  refine ⟨?contact, ?release, ?wait⟩
  case contact =>
    obtain ⟨scanner, wait, act, moved, ends⟩ := scanContact_eq k (addContact k s)
    have gives : exec (.keyContact k) s = .next (finish (scanContact k (addContact k s))) := by
      show execKeyContact k s = _
      simp [execKeyContact, whenRunning, State.running, phase]
    refine ⟨_, gives, ?_⟩
    rw [act]
    refine ⟨?_, fun j hj => ?_, ?_, by simpa [addContact] using ends, by simp, by simp,
      by simp⟩
    · simp only [finish_fields, addContact]
      split <;> simp_all
    · simp only [finish_fields, addContact]
      split
      · exact hj
      · exact List.mem_append_left _ hj
    · simp only [finish_fields, moved]
      show s.cns.scanner.contacted k s.now = _
      cases s.cns.scanner <;> rfl
  case release =>
    obtain ⟨scanner, wait, act, moved, begins⟩ := scanRelease_eq k (dropContact k s)
    have gives : exec (.keyRelease k) s = .next (finish (scanRelease k (dropContact k s))) := by
      show execKeyRelease k s = _
      simp [execKeyRelease, whenRunning, State.running, phase]
    refine ⟨_, gives, ?_⟩
    rw [act]
    refine ⟨by simp [dropContact], ?_, by simpa [dropContact] using begins, by simp, by simp, by simp⟩
    simp only [finish_fields, moved]
    show s.cns.scanner.released k = _
    cases s.cns.scanner <;> rfl
  case wait =>
    intro since waits contacts held
    refine gives_of_whenRunning rfl run ?_
    simp [waits, contacts, held, State.reach, tDebounce]

/-! ## A key in the dark (R168, R176) -/

/-- A row of a key is its acceptance, with an act of its own. -/
theorem keyCommand_acceptKey (k : Key) : ∃ act, ∀ s, exec (keyCommand k) s = acceptKey k act s := by
  cases k <;> exact ⟨_, fun _ => rfl⟩

/-- In the dark a click is not accepted (R176). -/
theorem clickTone_of_dark {s : State} (power : s.stc.power = .park) : clickTone s = s := by
  have silent : toneAccepted .click s = false := by simp [toneAccepted, power]
  simp [clickTone, requestTone, silent]

/-- The display woken: the night level, the wake timer from this moment (R168). -/
theorem wakeDisplay_eq (s : State) : wakeDisplay s = { s with cns := { s.cns with
    wakeSince := some s.now, level := s.consoleConfig.nightLevel, dimSince := none } } := rfl

/-- Settles O16: the dark display takes any key for its waking alone, and darkens at the timer's end. -/
theorem darkDisplayWakesOnAnyKey : Obligations.DarkDisplayWakesOnAnyKey := by
  intro s run power
  refine ⟨fun k accepts dark => ?_, fun since wakes => ?_⟩
  · obtain ⟨act, row⟩ := keyCommand_acceptKey k
    obtain ⟨settled, scanner⟩ := settling_of_canAccept accepts
    let held : State := { s with
      now := max s.now (settled + 20)
      cns := { s.cns with scanner := .held k true (max s.now (settled + 20) + 500), releaseSince := none } }
    have holds : holdKey k s = held := by
      simp [holdKey, reachDebounce, scanner, held, State.reach, tDebounce, tRepeatFirst]
    have gives : exec (keyCommand k) s = .next (finish (wakeDisplay held)) := by
      rw [row, acceptKey, if_pos (by rw [run, accepts]; rfl), holds, keyEvent,
        clickTone_of_dark (s := held) power]
      simp [held, power, dark]
    have parked : (finish (wakeDisplay held)).stc.power = .park := by simp [wakeDisplay_eq, held, power]
    refine ⟨_, gives, ?_, ?_, ?_, ?_, ?_, parked, ?_⟩
    · simp [wakeDisplay_eq]
    · simp [wakeDisplay_eq, State.consoleConfig, held]
    · rw [finish_display]
      unfold displayNow
      rw [parked]
      simp [wakeDisplay_eq]
    all_goals simp [wakeDisplay_eq, held]
  · let u : State := { s with now := max s.now (since + 30000), cns := { s.cns with wakeSince := none } }
    have gives : exec .wakeTimerExpiry s = .next (finish (setLevel 0 u)) := by
      show execWakeTimerExpiry s = _
      simp [execWakeTimerExpiry, whenRunning_of_running _ run, wakes, power, State.reach, tWake, u]
    refine ⟨_, gives, by simp [u], by simp [u, setLevel], by simp [setLevel], finish_display_dark ?_ rfl, by simp [u]⟩
    simp [u, power]

/-! ## The keys that are not available (R14 to R16) -/

/-- The act of a key that is not available refuses it. -/
theorem keyCommand_refuses {k : Key} {s : State} (taken : keyTaken k s = true)
    (unavailable : keyAvailable k s.dtc.duty = false) (calm : k = .accept → s.emu.state = .idle) :
    ∃ u, KeyHeard k none s u ∧ exec (keyCommand k) s = .next (finish (refuse u)) := by
  have act : ∀ {k} {act : State → State}, keyTaken k s = true → viewKey k = false →
      (∀ u : State, u.dtc = s.dtc → u.emu = s.emu → act u = refuse u) →
      ∃ u, KeyHeard k none s u ∧ acceptKey k (fun s => act (dropPrefix s)) s = .next (finish (refuse u)) := by
    intro k act taken duty refuses
    obtain ⟨u, heard, run⟩ := acceptKey_dropPrefix act taken duty
    obtain ⟨-, -, dtc, -, -, -, -, -, -, -, emu⟩ := heard.keeps
    exact ⟨u, heard, by rw [run, refuses u dtc emu]⟩
  cases k
  case shift =>
    refine act (act := shiftKey) taken rfl fun u dtc _ => ?_
    cases duty : s.dtc.duty <;> simp_all [keyAvailable, shiftKey]
  case hire =>
    refine act (act := hireKey) taken rfl fun u dtc _ => ?_
    cases duty : s.dtc.duty <;> simp_all [keyAvailable, hireKey]
  case pay =>
    refine act (act := payKey) taken rfl fun u dtc _ => ?_
    cases duty : s.dtc.duty <;> simp_all [keyAvailable, payKey]
  case vacant =>
    refine act (act := vacantKey) taken rfl fun u dtc _ => ?_
    cases duty : s.dtc.duty <;> simp_all [keyAvailable, vacantKey]
  case onBreak =>
    refine act (act := breakKey) taken rfl fun u dtc _ => ?_
    cases duty : s.dtc.duty <;> simp_all [keyAvailable, breakKey]
  case accept =>
    refine act (act := acceptRoute) taken rfl fun u dtc emu => ?_
    have idle : u.emergencyIdle = true := by simp [State.emergencyIdle, emu, calm rfl]
    cases duty : s.dtc.duty <;> simp_all [keyAvailable, acceptRoute]
  case decline =>
    refine act (act := declineKey) taken rfl fun u dtc _ => ?_
    cases duty : s.dtc.duty <;> simp_all [keyAvailable, declineKey]
  case extra =>
    refine act (act := extraKey) taken rfl fun u dtc _ => ?_
    cases duty : s.dtc.duty <;> simp_all [keyAvailable, extraKey]
  case tariff =>
    refine act (act := tariffPrefixKey) taken rfl fun u dtc _ => ?_
    cases duty : s.dtc.duty <;> simp_all [keyAvailable, tariffPrefixKey]
  all_goals cases unavailable

/-- What plays after ERROR is requested in RUN without an emergency: a better pattern or ERROR itself runs on. -/
theorem buzzerAfter_error {u : State} (run : u.running = true) (power : u.stc.power = .run)
    (idle : u.emu.state = .idle) : buzzerAfter .error u =
      if toneStarts .error u.cns.buzzer then some (.error, u.now) else u.cns.buzzer := by
  simp [buzzerAfter, toneAccepted, run, power, State.emergencyIdle, idle]

/-- In PARK, and in an emergency, no click and no error is heard (R176). -/
theorem buzzerAfter_of_refused {tone : Tone} {u : State} (other : tone ≠ .alarmNear)
    (quiet : u.stc.power = .park ∨ u.emu.state ≠ .idle) : buzzerAfter tone u = u.cns.buzzer := by
  have refused : toneAccepted tone u = false := by
    rcases quiet with power | emergency
    · simp [toneAccepted, power, other]
    · simp [toneAccepted, State.emergencyIdle, emergency]
  simp [buzzerAfter, refused]

/-- A pattern better than CLICK runs on at the key, and the rest gives way to ERROR. -/
theorem error_after_click {s : State} (now : Moment) (idle : s.emu.state = .idle) (power : s.stc.power = .run)
    (run : s.running = true) (click : Option (Tone × Moment))
    (clicked : click = buzzerAfterKey now s) :
    (if toneStarts .error click then some (Tone.error, now) else click) = match s.cns.buzzer with
      | some (.alarmNear, since) => some (.alarmNear, since)
      | some (.offer, since) => some (.offer, since)
      | some (.error, since) => some (.error, since)
      | some (.message, _) | some (.click, _) | none => some (.error, now) := by
  subst clicked
  have accepted : toneAccepted .click { s with now := now } = true := by
    have running : ({ s with now := now } : State).running = true := run
    simp [toneAccepted, running, power, State.emergencyIdle, idle]
  have click : buzzerAfterKey now s = s.cns.buzzer ∨
      (s.cns.buzzer = none ∧ buzzerAfterKey now s = some (.click, now)) := by
    unfold buzzerAfterKey buzzerAfter
    split
    · cases plays : s.cns.buzzer with
      | none => exact .inr ⟨rfl, by simp [accepted, toneStarts, plays]⟩
      | some p =>
        obtain ⟨tone, since⟩ := p
        refine .inl ?_
        cases tone <;> simp [toneStarts, toneRank, plays]
    · exact .inl rfl
  rcases click with same | ⟨silent, clicks⟩
  · rw [same]
    rcases s.cns.buzzer with _ | ⟨tone, since⟩
    · rfl
    · cases tone <;> rfl
  · rw [clicks, silent]
    rfl

/-- Settles O17: the refusal, and what the two requests leave of the pattern that plays. -/
theorem unavailableKeyIsRefused : Obligations.UnavailableKeyIsRefused := by
  intro k s taken unavailable calm
  obtain ⟨u, heard, run⟩ := keyCommand_refuses taken unavailable calm
  rw [refuse_eq] at run
  refine ⟨u, _, heard, run, finish_settled _, ?_⟩
  obtain ⟨-, stc, -, -, -, -, -, -, -, -, emu⟩ := heard.keeps
  obtain ⟨since, now, -, -, parts⟩ := heard
  have clock : u.now = now := by rw [parts]
  have clicks : u.cns.buzzer = buzzerAfterKey now s := by rw [parts]
  simp only [keyTaken, Bool.and_eq_true] at taken
  obtain ⟨⟨running, -⟩, -⟩ := taken
  refine ⟨fun power idle => ?_, fun quiet => ?_⟩
  · have plays := buzzerAfter_error (u := u) (by rw [State.running, stc]; exact running) (stc ▸ power) (emu ▸ idle)
    have moment : (finish (refused u)).now = now := by simp [refused, clock]
    rw [moment]
    simp only [finish_fields, refused, plays, clicks, clock]
    exact error_after_click now idle power running _ rfl
  · have silent : buzzerAfterKey now s = s.cns.buzzer := by
      unfold buzzerAfterKey
      split
      · exact buzzerAfter_of_refused (by decide) quiet
      · rfl
    have refusal : buzzerAfter .error u = u.cns.buzzer :=
      buzzerAfter_of_refused (by decide) (by rw [stc, emu]; exact quiet)
    simp only [finish_fields, refused, refusal, clicks, silent]

end Sys2Proof.Machine
end

section
/-! PROOFS. The view keys and the repeats of a held arrow: the pointers, the selection and the open entry. -/

namespace Sys2Proof.Machine

open Sys2Proof

-- The kernel's checks run one after another: side by side they ask for more threads than there is room for.
set_option Elab.async false

/-! ## The pointers after a command (R164) -/

/-- What follows before the view: the access procedure, the park timer, the lamps. -/
def beforeView (u : State) : State := followLamps (followPark (settleAccess u))

theorem beforeView_settled (u : State) : Settled u (beforeView u) :=
  (settleAccess_settled u).trans ((followPark_settled _).trans (followLamps_settled _))

theorem beforeView_cns (u : State) : (beforeView u).cns = { u.cns with lamps := (beforeView u).cns.lamps } := by
  have park : ∀ s : State, (followPark s).cns = s.cns := fun s => by
    unfold followPark
    (repeat' split) <;> rfl
  show (followLamps (followPark (settleAccess u))).cns = _
  unfold beforeView followLamps
  rw [park]
  rfl

theorem messageList_congr {s t : State} (mst : t.mst = s.mst) : t.messageList = s.messageList := by
  simp [State.messageList, mst]

theorem pointerNow_congr {s t : State} {v : View} (mst : t.mst = s.mst) (limit : pointerLimit t v = pointerLimit s v)
    (shown : t.cns.shown = s.cns.shown) (pointers : t.cns.pointers = s.cns.pointers)
    (selection : t.cns.selection = s.cns.selection) : pointerNow t v = pointerNow s v := by
  have line : listLineOf t = listLineOf s := funext fun n => by simp [listLineOf, messageList_congr mst]
  cases v <;> simp only [pointerNow, shown, selection, pointers, line, limit]

/-- The pointer of the view shown is worked out afresh, and in LIST the selection with it. -/
theorem finish_pointers {u : State} {v : View} (view : viewShown u = some v) :
    (finish u).cns.pointers = u.cns.pointers.set v (pointerNow u v) ∧
    (v = .list → (finish u).cns.selection = listEntryAt u (pointerNow u v)) := by
  have settled := beforeView_settled u
  obtain ⟨-, -, -, -, -, -, -, mst, -⟩ := settled.keeps
  have cns := beforeView_cns u
  have now : pointerNow (beforeView u) v = pointerNow u v :=
    pointerNow_congr mst (settled.pointerLimit v) (by rw [cns]) (by rw [cns]) (by rw [cns])
  have shown : viewShown (beforeView u) = some v := by rw [settled.viewShown, view]
  have follows : (followView (beforeView u)).cns.pointers = u.cns.pointers.set v (pointerNow u v) ∧
      (v = .list → (followView (beforeView u)).cns.selection = listEntryAt u (pointerNow u v)) := by
    unfold followView
    rw [shown]
    refine ⟨?_, fun list => ?_⟩
    · show (beforeView u).cns.pointers.set v (pointerNow (beforeView u) v) = _
      rw [now, cns]
    · show (if v = .list then listEntryAt (beforeView u) (pointerNow (beforeView u) v) else _) = _
      rw [if_pos list, now, settled.listEntryAt]
  exact follows

/-- In a store whose entries are told apart, the line of the entry on a line of the list is that line. -/
theorem listLineOf_entryAt {s : State} (wf : StoreWf s) {line n : Nat} (entry : listEntryAt s line = some n) :
    listLineOf s n = some line := by
  obtain ⟨e, at_, number⟩ : ∃ e, s.messageList[line]? = some e ∧ e.entry = n := by
    simpa [listEntryAt] using entry
  obtain ⟨-, numbers, -⟩ := wf
  have nodup : (s.messageList.map (·.entry)).Nodup := numbers.sublist (List.filter_sublist.map _)
  obtain ⟨bound, here⟩ := List.getElem?_eq_some_iff.mp at_
  rw [listLineOf, List.findIdx?_eq_some_iff_getElem]
  refine ⟨bound, by simp [here, number], fun j before => ?_⟩
  simp only [decide_eq_true_eq]
  intro same
  have equal : (s.messageList.map (·.entry))[j]'(by simp; omega) = (s.messageList.map (·.entry))[line]'(by simpa) := by
    simp [same, here, number]
  exact absurd ((List.Nodup.getElem_inj_iff nodup).mp equal) (by omega)

/-- A pointer moved within its limit stays where it was moved to. -/
theorem finish_movePointer {f : Nat → Nat → Nat} {x : State} {v : View} (view : viewShown x = some v)
    (shown : x.cns.shown = some v) (bound : f (pointerLimit x v) (x.cns.pointers.get v) ≤ pointerLimit x v)
    (wf : v = .list → StoreWf x) :
    (finish (movePointer f x)).cns.pointers.get v = f (pointerLimit x v) (x.cns.pointers.get v) ∧
    (v = .list →
      (finish (movePointer f x)).cns.selection = listEntryAt x (f (pointerLimit x v) (x.cns.pointers.get v))) := by
  let p := f (pointerLimit x v) (x.cns.pointers.get v)
  let u : State := { x with cns := { x.cns with
    pointers := x.cns.pointers.set v p
    selection := if v = .list then listEntryAt x p else x.cns.selection } }
  have moved : movePointer f x = u := by
    unfold movePointer
    rw [view]
  have limit : pointerLimit u v = pointerLimit x v := by cases v <;> rfl
  have stays : pointerNow u v = p := by
    by_cases list : v = .list
    · subst list
      have shown' : u.cns.shown = some .list := shown
      have selects : u.cns.selection = listEntryAt x p := by simp [u]
      unfold pointerNow
      rw [shown', selects]
      cases entry : listEntryAt x p with
      | none =>
        show min p (pointerLimit u .list) = p
        rw [limit]
        exact Nat.min_eq_left bound
      | some n =>
        have line : listLineOf u n = some p := listLineOf_entryAt (wf rfl) entry
        simp [listGoesOn, line]
    · have kept : pointerNow u v = if u.cns.shown = some v then min (u.cns.pointers.get v) (pointerLimit u v) else 0 := by
        cases v <;> first | rfl | exact absurd rfl list
      have shown' : u.cns.shown = some v := shown
      have get : u.cns.pointers.get v = p := Pointers.get_set _ _ _
      rw [kept, if_pos shown', get, limit]
      exact Nat.min_eq_left bound
  obtain ⟨pointers, selection⟩ := finish_pointers (u := u) (v := v) view
  rw [moved]
  refine ⟨by rw [pointers, Pointers.get_set, stays], fun list => ?_⟩
  rw [selection list, stays]
  rfl

/-! ## UP and DOWN (R164) -/

/-- Where UP and DOWN move a pointer under a limit. -/
def arrowMove (k : Key) (limit p : Nat) : Nat := if k = .up then p - 1 else min limit (p + 1)

/-- The route of the two arrows. -/
def arrowRoute (k : Key) : State → State := movePointer (arrowMove k)

theorem upRoute_eq : upRoute = arrowRoute .up := rfl

theorem downRoute_eq : downRoute = arrowRoute .down := by
  unfold downRoute arrowRoute arrowMove
  rfl

theorem arrowMove_le (k : Key) {limit p : Nat} (h : p ≤ limit) : arrowMove k limit p ≤ limit := by
  unfold arrowMove
  split <;> omega

@[simp] theorem arrowRoute_frame (k : Key) (x : State) :
    (arrowRoute k x).cns.view = x.cns.view ∧ (arrowRoute k x).cns.keyPrefix = x.cns.keyPrefix ∧
    (arrowRoute k x).cns.scanner = x.cns.scanner ∧ (arrowRoute k x).dtc = x.dtc ∧ (arrowRoute k x).fmr = x.fmr ∧
    (arrowRoute k x).mst = x.mst ∧ (arrowRoute k x).emu = x.emu ∧ (arrowRoute k x).now = x.now := by
  unfold arrowRoute movePointer
  split <;> exact ⟨rfl, rfl, rfl, rfl, rfl, rfl, rfl, rfl⟩

theorem pointerLimit_arrowRoute (k : Key) (x : State) (v : View) :
    pointerLimit (arrowRoute k x) v = pointerLimit x v := by
  unfold arrowRoute movePointer
  split
  · rfl
  · cases v <;> rfl

/-- What an arrow leaves of the pointers, from a state `x` that shows what `s` showed. -/
theorem arrow_moves {k : Key} {s x : State} (view : viewShown x = viewShown s) (shown : x.cns.shown = s.cns.shown)
    (pointers : x.cns.pointers = s.cns.pointers) (mst : x.mst = s.mst) :
    (∀ v, viewShown s = some v → s.cns.shown = some v → v ≠ .list → s.cns.pointers.get v ≤ pointerLimit s v →
      pointerLimit (finish (arrowRoute k x)) v = pointerLimit s v →
      (finish (arrowRoute k x)).cns.pointers.get v =
        if k = .up then s.cns.pointers.get v - 1 else min (pointerLimit s v) (s.cns.pointers.get v + 1)) ∧
    (StoreWf s → viewShown s = some .list → s.cns.shown = some .list →
      s.cns.pointers.list ≤ pointerLimit s .list →
      (finish (arrowRoute k x)).cns.pointers.list =
        (if k = .up then s.cns.pointers.list - 1
         else min (s.messageList.length - 1) (s.cns.pointers.list + 1)) ∧
      (finish (arrowRoute k x)).cns.selection =
        (s.messageList[(finish (arrowRoute k x)).cns.pointers.list]?).map (·.entry)) := by
  refine ⟨fun v viewing showing other within same => ?_, fun wf viewing showing within => ?_⟩
  · have limit : pointerLimit x v = pointerLimit s v := by
      rw [← same, (finish_settled _).pointerLimit, pointerLimit_arrowRoute]
    have moves := (finish_movePointer (f := arrowMove k) (view.trans viewing) (shown.trans showing)
      (arrowMove_le k (by rw [pointers, limit]; exact within)) (fun list => absurd list other)).1
    rw [limit, pointers] at moves
    exact moves
  · have list := messageList_congr mst
    have limit : pointerLimit x .list = pointerLimit s .list := by simp [pointerLimit, list]
    obtain ⟨moves, selects⟩ := finish_movePointer (f := arrowMove k) (view.trans viewing) (shown.trans showing)
      (arrowMove_le k (by rw [pointers, limit]; exact within)) (fun _ => by unfold StoreWf; rw [mst]; exact wf)
    rw [limit, pointers] at moves selects
    refine ⟨moves, (selects rfl).trans ?_⟩
    have line : (finish (arrowRoute k x)).cns.pointers.list =
        arrowMove k (pointerLimit s .list) (s.cns.pointers.get .list) := moves
    rw [line, listEntryAt, list]

/-- The click of a key event changes the buzzer alone. -/
theorem clickTone_eq (s : State) : ∃ buzzer, clickTone s = { s with cns := { s.cns with buzzer := buzzer } } := by
  unfold clickTone
  split
  · exact ⟨_, requestTone_eq .click s⟩
  · exact ⟨s.cns.buzzer, rfl⟩

/-- Settles O15: the repeat is the arrow's act at the due moment, with the next one 150 ms on. -/
theorem heldArrowRepeats : Obligations.HeldArrowRepeats := by
  intro k due s run power arrow held
  let x : State := { s with
    now := max s.now due
    cns := { s.cns with scanner := .held k true (due + 150), keyPrefix := none } }
  obtain ⟨buzzer, clicks⟩ := clickTone_eq
    { s with now := max s.now due, cns := { s.cns with scanner := .held k true (due + 150) } }
  let y : State := { x with cns := { x.cns with buzzer := buzzer } }
  have event : ∀ act, repeatEvent k act due s = act y := fun act => by
    have awake : ¬(s.stc.power = .park) := by rw [power]; decide
    have clicked : clickTone { s.reach due with
        cns := { (s.reach due).cns with scanner := .held k true (due + tRepeat) } } = _ := clicks
    unfold repeatEvent keyEvent
    simp only [clicked]
    simp only [State.reach, awake, decide_false, Bool.false_and, Bool.false_eq_true, if_false]
    rfl
  have gives : exec .keyRepeat s = .next (finish (arrowRoute k y)) := by
    show execKeyRepeat s = _
    rcases arrow with rfl | rfl
    · simp only [execKeyRepeat, whenRunning_of_running _ run, held, event, upRoute_eq]
    · simp only [execKeyRepeat, whenRunning_of_running _ run, held, event, downRoute_eq]
  obtain ⟨others, list⟩ := arrow_moves (k := k) (s := s) (x := y) rfl rfl rfl rfl
  exact ⟨_, gives, by simp [y, x], by simp [y, x], by simp [y, x], others, list, by simp [y, x], by simp [y, x],
    by simp [y, x], by simp [y, x]⟩

/-! ## READ and CLEAR (R148, R149, R161) -/

theorem keyTakenInRun_iff (k : Key) (s : State) :
    keyTakenInRun k s = true ↔ keyTaken k s = true ∧ s.stc.power = .run := by
  simp only [keyTakenInRun, keyTaken, awake, Bool.and_eq_true, Bool.or_eq_true, decide_eq_true_eq]
  tauto

/-- A view key in RUN is heard, and then its act runs. -/
theorem acceptKey_inRun {k : Key} {s : State} (act : State → State) (taken : keyTakenInRun k s = true) :
    ∃ u, KeyHeard k none s u ∧ acceptKey k (fun s => act (dropPrefix s)) s = .next (finish (act u)) := by
  obtain ⟨taken, power⟩ := (keyTakenInRun_iff k s).1 taken
  obtain ⟨u, heard, run⟩ := acceptKey_taken (fun s => act (dropPrefix s)) taken (.inl power)
  exact ⟨dropPrefix u, heard.dropPrefix, run⟩

/-- What a key event leaves of the console, whatever its key. -/
theorem KeyHeard.console {k : Key} {p : Option KeyPrefix} {s u : State} (h : KeyHeard k p s u) :
    u.cns.view = s.cns.view ∧ u.cns.pointers = s.cns.pointers ∧ u.cns.shown = s.cns.shown ∧
    u.cns.selection = s.cns.selection ∧ u.cns.keyPrefix = p ∧ viewShown u = viewShown s := by
  obtain ⟨since, now, -, -, rfl⟩ := h
  exact ⟨rfl, rfl, rfl, rfl, rfl, rfl⟩

theorem clearRoute_of_idle {u : State} (idle : u.emu.state = .idle) : clearRoute u = clearView u := by
  have kept : (clearView u).emu = u.emu := by
    unfold clearView
    split <;> simp
  simp [clearRoute, State.emergencyIdle, kept, idle]

/-- Closing the view of an open entry that has not expired leaves the entry. -/
theorem closeTo_of_unexpired {v : DriverView} {u : State} {e : MsgEntry} (open_ : u.openMsg = some e)
    (valid : e.expired = false) : closeTo v u =
      { u with mst := { u.mst with openEntry := none }, cns := { u.cns with view := v } } := by
  simp [closeTo, closeMsg, open_, valid]

/-- READ in RUN, by the view (R148, R161). -/
theorem read_moves {s : State} (taken : keyTakenInRun .read s = true) :
    (s.cns.view = .none → ∃ u t, KeyHeard .read none s u ∧ exec .read s = .next t ∧
      Settled { u with cns := { u.cns with view := .list } } t) ∧
    (s.cns.view = .list → ∀ n, listEntryAt s s.cns.pointers.list = some n →
      ∃ u t, KeyHeard .read none s u ∧ exec .read s = .next t ∧
        Settled { u with
          mst := { u.mst with
            entries := u.mst.entries.map fun e =>
              if e.entry = n then { e with state := if e.state = .unread then .read else e.state } else e
            openEntry := some n }
          cns := { u.cns with view := .message } } t) ∧
    (s.cns.view = .list → listEntryAt s s.cns.pointers.list = none →
      ∃ u t, KeyHeard .read none s u ∧ exec .read s = .next t ∧ Settled u t) ∧
    (s.cns.view = .message ∨ s.cns.view = .menu →
      ∃ t, exec .read s = .next t ∧ t.cns.view = .list ∧ t.mst.openEntry = none ∧
        t.dtc = s.dtc ∧ t.fmr = s.fmr ∧ t.emu = s.emu) := by
  obtain ⟨u, heard, run⟩ := acceptKey_inRun readRoute taken
  obtain ⟨-, -, dtc, -, -, -, -, fmr, -, mst, emu⟩ := heard.keeps
  obtain ⟨view, pointers, -⟩ := heard.console
  have line : listEntryAt u u.cns.pointers.list = listEntryAt s s.cns.pointers.list := by
    rw [pointers, listEntryAt, messageList_congr mst]
    rfl
  refine ⟨fun none' => ?_, fun list n entry => ?_, fun list none' => ?_, fun deeper => ?_⟩
  · have act : readRoute u = { u with cns := { u.cns with view := .list } } := by simp [readRoute, view, none']
    exact ⟨u, _, heard, run, act ▸ finish_settled _⟩
  · have act : readRoute u = openMsgEntry n u := by simp [readRoute, view, list, line, entry]
    refine ⟨u, _, heard, run, act ▸ ?_⟩
    have opened := finish_settled (openMsgEntry n u)
    simpa [openMsgEntry, State.updMsg, updateWhere] using opened
  · have act : readRoute u = u := by simp [readRoute, view, list, line, none']
    exact ⟨u, _, heard, run, by rw [act]; exact finish_settled u⟩
  · have act : readRoute u = closeTo .list u := by rcases deeper with d | d <;> simp [readRoute, view, d]
    refine ⟨_, act ▸ run, ?_, ?_, ?_⟩
    · simp [closeTo_cns]
    · simp [closeTo_openEntry]
    · simp [dtc, fmr, emu]

/-- CLEAR in RUN without an emergency, by the view (R149, R161). -/
theorem clear_moves {s : State} (taken : keyTakenInRun .clear s = true) (idle : s.emu.state = .idle) :
    (s.cns.view = .none → ∃ u t, KeyHeard .clear none s u ∧ exec .clear s = .next t ∧ Settled u t) ∧
    (s.cns.view = .list → ∃ u t, KeyHeard .clear none s u ∧ exec .clear s = .next t ∧
      Settled { u with cns := { u.cns with view := .none } } t) ∧
    (∀ n e, s.cns.view = .message → s.mst.openEntry = some n → s.msg? n = some e → e.expired = false →
      ∃ u t, KeyHeard .clear none s u ∧ exec .clear s = .next t ∧
        Settled { u with
          mst := { u.mst with
            entries := u.mst.entries.map fun x => if x.entry = n then { x with pin := false } else x
            openEntry := none }
          cns := { u.cns with view := .list } } t) ∧
    (s.cns.view = .menu → ∃ t, exec .clear s = .next t ∧ t.cns.view = .list ∧ t.mst.openEntry = none ∧
      t.dtc = s.dtc ∧ t.fmr = s.fmr ∧ t.emu = s.emu) := by
  obtain ⟨u, heard, run⟩ := acceptKey_inRun clearRoute taken
  obtain ⟨-, -, dtc, -, -, -, -, fmr, -, mst, emu⟩ := heard.keeps
  obtain ⟨view, -⟩ := heard.console
  rw [clearRoute_of_idle (by rw [emu, idle])] at run
  refine ⟨fun none' => ?_, fun list => ?_, fun n e message opened entry valid => ?_, fun menu => ?_⟩
  · have act : clearView u = u := by simp [clearView, view, none']
    exact ⟨u, _, heard, run, by rw [act]; exact finish_settled u⟩
  · have act : clearView u = { u with cns := { u.cns with view := .none } } := by simp [clearView, view, list]
    exact ⟨u, _, heard, run, act ▸ finish_settled _⟩
  · have pinned : clearPin u = u.updMsg n fun x => { x with pin := false } := by simp [clearPin, mst, opened]
    have still : (clearPin u).openMsg = some { e with pin := false } := by
      have found : u.mst.entries.find? (·.entry = n) = some e := by rw [mst]; exact entry
      have number : e.entry = n := by simpa using List.find?_some found
      simp only [pinned, State.openMsg, State.updMsg, State.msg?, mst, opened, Option.bind_some]
      rw [find?_updateWhere _ _ _ _ (by simp), ← mst, found]
      simp [number]
    have act : clearView u = closeTo .list (clearPin u) := by simp [clearView, view, message]
    refine ⟨u, _, heard, run, ?_⟩
    rw [act, closeTo_of_unexpired still valid, pinned]
    simpa [State.updMsg, updateWhere] using finish_settled _
  · have act : clearView u = closeTo .list u := by simp [clearView, view, menu]
    refine ⟨_, act ▸ run, ?_, ?_, ?_⟩
    · simp [closeTo_cns]
    · simp [closeTo_openEntry]
    · simp [dtc, fmr, emu]

/-- UP and DOWN in RUN (R164). -/
theorem arrow_moves_inRun {k : Key} {s : State} (arrow : k = .up ∨ k = .down) (taken : keyTakenInRun k s = true) :
    ∃ u, KeyHeard k none s u ∧ exec (keyCommand k) s = .next (finish (arrowRoute k u)) := by
  rcases arrow with rfl | rfl
  · exact acceptKey_inRun upRoute taken
  · obtain ⟨u, heard, run⟩ := acceptKey_inRun downRoute taken
    exact ⟨u, heard, downRoute_eq ▸ run⟩

end Sys2Proof.Machine
end

section
/-! PROOFS. What an act leaves of the pointers, the view shown at the last layout, and the selection. -/

namespace Sys2Proof.Machine

open Sys2Proof

-- The kernel's checks run one after another: side by side they ask for more threads than there is room for.
set_option Elab.async false

@[simp] theorem setLevel_place (l : Nat) (s : State) :
    (setLevel l s).cns.pointers = s.cns.pointers ∧ (setLevel l s).cns.shown = s.cns.shown ∧
    (setLevel l s).cns.selection = s.cns.selection := by
  unfold setLevel
  (repeat' split) <;> simp

@[simp] theorem signalActivity_place (s : State) :
    (signalActivity s).cns.pointers = s.cns.pointers ∧ (signalActivity s).cns.shown = s.cns.shown ∧
    (signalActivity s).cns.selection = s.cns.selection := by
  unfold signalActivity
  (repeat' split) <;> simp

@[simp] theorem silence_place (s : State) :
    (silence s).cns.pointers = s.cns.pointers ∧ (silence s).cns.shown = s.cns.shown ∧
    (silence s).cns.selection = s.cns.selection := by
  unfold silence
  (repeat' split) <;> simp

@[simp] theorem beginTransmission_place (t : TxFrame) (s : State) :
    (beginTransmission t s).cns.pointers = s.cns.pointers ∧ (beginTransmission t s).cns.shown = s.cns.shown ∧
    (beginTransmission t s).cns.selection = s.cns.selection := by
  unfold beginTransmission
  (repeat' split) <;> simp

@[simp] theorem dropPrefix_place (s : State) :
    (dropPrefix s).cns.pointers = s.cns.pointers ∧ (dropPrefix s).cns.shown = s.cns.shown ∧
    (dropPrefix s).cns.selection = s.cns.selection := by
  unfold dropPrefix
  (repeat' split) <;> simp

@[simp] theorem setPrefix_place (p : KeyPrefix) (s : State) :
    (setPrefix p s).cns.pointers = s.cns.pointers ∧ (setPrefix p s).cns.shown = s.cns.shown ∧
    (setPrefix p s).cns.selection = s.cns.selection := by
  unfold setPrefix
  (repeat' split) <;> simp

@[simp] theorem restartWake_place (s : State) :
    (restartWake s).cns.pointers = s.cns.pointers ∧ (restartWake s).cns.shown = s.cns.shown ∧
    (restartWake s).cns.selection = s.cns.selection := by
  unfold restartWake
  (repeat' split) <;> simp

@[simp] theorem wakeDisplay_place (s : State) :
    (wakeDisplay s).cns.pointers = s.cns.pointers ∧ (wakeDisplay s).cns.shown = s.cns.shown ∧
    (wakeDisplay s).cns.selection = s.cns.selection := by
  unfold wakeDisplay
  (repeat' split) <;> simp

@[simp] theorem addContact_place (k : Key) (s : State) :
    (addContact k s).cns.pointers = s.cns.pointers ∧ (addContact k s).cns.shown = s.cns.shown ∧
    (addContact k s).cns.selection = s.cns.selection := by
  unfold addContact
  (repeat' split) <;> simp

@[simp] theorem dropContact_place (k : Key) (s : State) :
    (dropContact k s).cns.pointers = s.cns.pointers ∧ (dropContact k s).cns.shown = s.cns.shown ∧
    (dropContact k s).cns.selection = s.cns.selection := by
  unfold dropContact
  (repeat' split) <;> simp

@[simp] theorem countGood_place (s : State) :
    (countGood s).cns.pointers = s.cns.pointers ∧ (countGood s).cns.shown = s.cns.shown ∧
    (countGood s).cns.selection = s.cns.selection := by
  unfold countGood
  (repeat' split) <;> simp

@[simp] theorem requestTone_place (t : Tone) (s : State) :
    (requestTone t s).cns.pointers = s.cns.pointers ∧ (requestTone t s).cns.shown = s.cns.shown ∧
    (requestTone t s).cns.selection = s.cns.selection := by
  unfold requestTone
  (repeat' split) <;> simp

@[simp] theorem setTarget_place (l : Nat) (s : State) :
    (setTarget l s).cns.pointers = s.cns.pointers ∧ (setTarget l s).cns.shown = s.cns.shown ∧
    (setTarget l s).cns.selection = s.cns.selection := by
  unfold setTarget
  (repeat' split) <;> simp

@[simp] theorem refuse_place (s : State) :
    (refuse s).cns.pointers = s.cns.pointers ∧ (refuse s).cns.shown = s.cns.shown ∧
    (refuse s).cns.selection = s.cns.selection := by
  unfold refuse
  (repeat' split) <;> simp

@[simp] theorem refreshTarget_place (s : State) :
    (refreshTarget s).cns.pointers = s.cns.pointers ∧ (refreshTarget s).cns.shown = s.cns.shown ∧
    (refreshTarget s).cns.selection = s.cns.selection := by
  unfold refreshTarget
  (repeat' split) <;> simp

@[simp] theorem toggleLamp_place (l : Lamp) (s : State) :
    (toggleLamp l s).cns.pointers = s.cns.pointers ∧ (toggleLamp l s).cns.shown = s.cns.shown ∧
    (toggleLamp l s).cns.selection = s.cns.selection := by
  unfold toggleLamp
  (repeat' split) <;> simp

@[simp] theorem dimStep_place (t : Moment) (s : State) :
    (dimStep t s).cns.pointers = s.cns.pointers ∧ (dimStep t s).cns.shown = s.cns.shown ∧
    (dimStep t s).cns.selection = s.cns.selection := by
  unfold dimStep
  (repeat' split) <;> simp

@[simp] theorem freeMsg_place (n : Nat) (s : State) :
    (freeMsg n s).cns.pointers = s.cns.pointers ∧ (freeMsg n s).cns.shown = s.cns.shown ∧
    (freeMsg n s).cns.selection = s.cns.selection := by
  unfold freeMsg
  dsimp only
  repeat' split
  all_goals try simp_all
  all_goals repeat' split
  all_goals simp_all

@[simp] theorem removeMsg_place (n : Nat) (s : State) :
    (removeMsg n s).cns.pointers = s.cns.pointers ∧ (removeMsg n s).cns.shown = s.cns.shown ∧
    (removeMsg n s).cns.selection = s.cns.selection := by
  unfold removeMsg
  (repeat' split) <;> simp

@[simp] theorem takePlace_place (s : State) :
    (takePlace s).cns.pointers = s.cns.pointers ∧ (takePlace s).cns.shown = s.cns.shown ∧
    (takePlace s).cns.selection = s.cns.selection := by
  unfold takePlace
  (repeat' split) <;> simp

@[simp] theorem completeIfWhole_place (n : Nat) (s : State) :
    (completeIfWhole n s).cns.pointers = s.cns.pointers ∧ (completeIfWhole n s).cns.shown = s.cns.shown ∧
    (completeIfWhole n s).cns.selection = s.cns.selection := by
  unfold completeIfWhole
  (repeat' split) <;> simp

@[simp] theorem createMsg_place (src : Station) (d : Bool) (p : MsgPayload) (s : State) :
    (createMsg src d p s).cns.pointers = s.cns.pointers ∧ (createMsg src d p s).cns.shown = s.cns.shown ∧
    (createMsg src d p s).cns.selection = s.cns.selection := by
  unfold createMsg
  (repeat' split) <;> simp

@[simp] theorem placeSegment_place (e : MsgEntry) (p : MsgPayload) (s : State) :
    (placeSegment e p s).cns.pointers = s.cns.pointers ∧ (placeSegment e p s).cns.shown = s.cns.shown ∧
    (placeSegment e p s).cns.selection = s.cns.selection := by
  unfold placeSegment
  (repeat' split) <;> simp

@[simp] theorem deliverMsg_place (src : Station) (d : Bool) (p : MsgPayload) (s : State) :
    (deliverMsg src d p s).cns.pointers = s.cns.pointers ∧ (deliverMsg src d p s).cns.shown = s.cns.shown ∧
    (deliverMsg src d p s).cns.selection = s.cns.selection := by
  unfold deliverMsg
  (repeat' split) <;> simp

@[simp] theorem openMsgEntry_place (n : Nat) (s : State) :
    (openMsgEntry n s).cns.pointers = s.cns.pointers ∧ (openMsgEntry n s).cns.shown = s.cns.shown ∧
    (openMsgEntry n s).cns.selection = s.cns.selection := by
  unfold openMsgEntry
  (repeat' split) <;> simp

@[simp] theorem closeMsg_place (s : State) :
    (closeMsg s).cns.pointers = s.cns.pointers ∧ (closeMsg s).cns.shown = s.cns.shown ∧
    (closeMsg s).cns.selection = s.cns.selection := by
  unfold closeMsg
  (repeat' split) <;> simp

@[simp] theorem closeTo_place (v : DriverView) (s : State) :
    (closeTo v s).cns.pointers = s.cns.pointers ∧ (closeTo v s).cns.shown = s.cns.shown ∧
    (closeTo v s).cns.selection = s.cns.selection := by
  unfold closeTo
  (repeat' split) <;> simp

@[simp] theorem expireMsg_place (n : Nat) (s : State) :
    (expireMsg n s).cns.pointers = s.cns.pointers ∧ (expireMsg n s).cns.shown = s.cns.shown ∧
    (expireMsg n s).cns.selection = s.cns.selection := by
  unfold expireMsg
  (repeat' split) <;> simp

@[simp] theorem raiseNotice_place (k : NoticeKey) (p : Bool) (t : List Byte) (s : State) :
    (raiseNotice k p t s).cns.pointers = s.cns.pointers ∧ (raiseNotice k p t s).cns.shown = s.cns.shown ∧
    (raiseNotice k p t s).cns.selection = s.cns.selection := by
  unfold raiseNotice
  (repeat' split) <;> simp

@[simp] theorem noticeJobGone_place (t : List Byte) (s : State) :
    (noticeJobGone t s).cns.pointers = s.cns.pointers ∧ (noticeJobGone t s).cns.shown = s.cns.shown ∧
    (noticeJobGone t s).cns.selection = s.cns.selection := by
  unfold noticeJobGone
  (repeat' split) <;> simp

@[simp] theorem noticeLogFull_place (s : State) :
    (noticeLogFull s).cns.pointers = s.cns.pointers ∧ (noticeLogFull s).cns.shown = s.cns.shown ∧
    (noticeLogFull s).cns.selection = s.cns.selection := by
  unfold noticeLogFull
  (repeat' split) <;> simp

@[simp] theorem noticeTariffNew_place (v : Nat) (s : State) :
    (noticeTariffNew v s).cns.pointers = s.cns.pointers ∧ (noticeTariffNew v s).cns.shown = s.cns.shown ∧
    (noticeTariffNew v s).cns.selection = s.cns.selection := by
  unfold noticeTariffNew
  (repeat' split) <;> simp

@[simp] theorem noticeAlarmNear_place (n : Station) (d : Option Nat) (s : State) :
    (noticeAlarmNear n d s).cns.pointers = s.cns.pointers ∧ (noticeAlarmNear n d s).cns.shown = s.cns.shown ∧
    (noticeAlarmNear n d s).cns.selection = s.cns.selection := by
  unfold noticeAlarmNear
  (repeat' split) <;> simp

@[simp] theorem dropAlarmNotice_place (n : Station) (s : State) :
    (dropAlarmNotice n s).cns.pointers = s.cns.pointers ∧ (dropAlarmNotice n s).cns.shown = s.cns.shown ∧
    (dropAlarmNotice n s).cns.selection = s.cns.selection := by
  unfold dropAlarmNotice
  (repeat' split) <;> simp

@[simp] theorem applyPendingSet_place (s : State) :
    (applyPendingSet s).cns.pointers = s.cns.pointers ∧ (applyPendingSet s).cns.shown = s.cns.shown ∧
    (applyPendingSet s).cns.selection = s.cns.selection := by
  unfold applyPendingSet
  (repeat' split) <;> simp

@[simp] theorem toRun_place (s : State) :
    (toRun s).cns.pointers = s.cns.pointers ∧ (toRun s).cns.shown = s.cns.shown ∧
    (toRun s).cns.selection = s.cns.selection := by
  unfold toRun
  (repeat' split) <;> simp

@[simp] theorem enterVacant_place (s : State) :
    (enterVacant s).cns.pointers = s.cns.pointers ∧ (enterVacant s).cns.shown = s.cns.shown ∧
    (enterVacant s).cns.selection = s.cns.selection := by
  unfold enterVacant
  dsimp only
  repeat' split
  all_goals try simp_all
  all_goals repeat' split
  all_goals simp_all

@[simp] theorem enterIdleDuty_place (d : DutyState) (s : State) :
    (enterIdleDuty d s).cns.pointers = s.cns.pointers ∧ (enterIdleDuty d s).cns.shown = s.cns.shown ∧
    (enterIdleDuty d s).cns.selection = s.cns.selection := by
  unfold enterIdleDuty
  (repeat' split) <;> simp

@[simp] theorem enterPending_place (s : State) :
    (enterPending s).cns.pointers = s.cns.pointers ∧ (enterPending s).cns.shown = s.cns.shown ∧
    (enterPending s).cns.selection = s.cns.selection := by
  unfold enterPending
  (repeat' split) <;> simp

@[simp] theorem endPending_place (s : State) :
    (endPending s).cns.pointers = s.cns.pointers ∧ (endPending s).cns.shown = s.cns.shown ∧
    (endPending s).cns.selection = s.cns.selection := by
  unfold endPending
  (repeat' split) <;> simp

@[simp] theorem giveUpJob_place (id : OfferId) (s : State) :
    (giveUpJob id s).cns.pointers = s.cns.pointers ∧ (giveUpJob id s).cns.shown = s.cns.shown ∧
    (giveUpJob id s).cns.selection = s.cns.selection := by
  unfold giveUpJob
  (repeat' split) <;> simp

@[simp] theorem hearTake_place (src : Station) (p : BidPayload) (s : State) :
    (hearTake src p s).cns.pointers = s.cns.pointers ∧ (hearTake src p s).cns.shown = s.cns.shown ∧
    (hearTake src p s).cns.selection = s.cns.selection := by
  unfold hearTake
  dsimp only
  repeat' split
  all_goals try simp_all
  all_goals repeat' split
  all_goals simp_all

@[simp] theorem winOffer_place (id : OfferId) (s : State) :
    (winOffer id s).cns.pointers = s.cns.pointers ∧ (winOffer id s).cns.shown = s.cns.shown ∧
    (winOffer id s).cns.selection = s.cns.selection := by
  unfold winOffer
  (repeat' split) <;> simp

@[simp] theorem endWindow_place (id : OfferId) (s : State) :
    (endWindow id s).cns.pointers = s.cns.pointers ∧ (endWindow id s).cns.shown = s.cns.shown ∧
    (endWindow id s).cns.selection = s.cns.selection := by
  unfold endWindow
  dsimp only
  repeat' split
  all_goals try simp_all
  all_goals repeat' split
  all_goals simp_all

@[simp] theorem declineWon_place (s : State) :
    (declineWon s).cns.pointers = s.cns.pointers ∧ (declineWon s).cns.shown = s.cns.shown ∧
    (declineWon s).cns.selection = s.cns.selection := by
  unfold declineWon
  (repeat' split) <;> simp

@[simp] theorem declineJob_place (s : State) :
    (declineJob s).cns.pointers = s.cns.pointers ∧ (declineJob s).cns.shown = s.cns.shown ∧
    (declineJob s).cns.selection = s.cns.selection := by
  unfold declineJob
  (repeat' split) <;> simp

@[simp] theorem armContests_place (s : State) :
    (armContests s).cns.pointers = s.cns.pointers ∧ (armContests s).cns.shown = s.cns.shown ∧
    (armContests s).cns.selection = s.cns.selection := by
  unfold armContests
  (repeat' split) <;> simp

@[simp] theorem jobGoesElsewhere_place (id : OfferId) (s : State) :
    (jobGoesElsewhere id s).cns.pointers = s.cns.pointers ∧ (jobGoesElsewhere id s).cns.shown = s.cns.shown ∧
    (jobGoesElsewhere id s).cns.selection = s.cns.selection := by
  unfold jobGoesElsewhere
  (repeat' split) <;> simp

@[simp] theorem confirmTaken_place (id : OfferId) (m : Bool) (s : State) :
    (confirmTaken id m s).cns.pointers = s.cns.pointers ∧ (confirmTaken id m s).cns.shown = s.cns.shown ∧
    (confirmTaken id m s).cns.selection = s.cns.selection := by
  unfold confirmTaken
  (repeat' split) <;> simp

@[simp] theorem closeOffer_place (e : OfferEntry) (s : State) :
    (closeOffer e s).cns.pointers = s.cns.pointers ∧ (closeOffer e s).cns.shown = s.cns.shown ∧
    (closeOffer e s).cns.selection = s.cns.selection := by
  unfold closeOffer
  (repeat' split) <;> simp

@[simp] theorem hearConfirm_place (src : Station) (p : ConfirmPayload) (s : State) :
    (hearConfirm src p s).cns.pointers = s.cns.pointers ∧ (hearConfirm src p s).cns.shown = s.cns.shown ∧
    (hearConfirm src p s).cns.selection = s.cns.selection := by
  unfold hearConfirm
  dsimp only
  repeat' split
  all_goals try simp_all
  all_goals repeat' split
  all_goals simp_all

@[simp] theorem startArming_place (s : State) :
    (startArming s).cns.pointers = s.cns.pointers ∧ (startArming s).cns.shown = s.cns.shown ∧
    (startArming s).cns.selection = s.cns.selection := by
  unfold startArming
  (repeat' split) <;> simp

@[simp] theorem returnToIdle_place (s : State) :
    (returnToIdle s).cns.pointers = s.cns.pointers ∧ (returnToIdle s).cns.shown = s.cns.shown ∧
    (returnToIdle s).cns.selection = s.cns.selection := by
  unfold returnToIdle
  dsimp only
  repeat' split
  all_goals try simp_all
  all_goals repeat' split
  all_goals simp_all

@[simp] theorem arm_place (s : State) :
    (arm s).cns.pointers = s.cns.pointers ∧ (arm s).cns.shown = s.cns.shown ∧
    (arm s).cns.selection = s.cns.selection := by
  unfold arm
  (repeat' split) <;> simp

@[simp] theorem holdReached_place (s : State) :
    (holdReached s).cns.pointers = s.cns.pointers ∧ (holdReached s).cns.shown = s.cns.shown ∧
    (holdReached s).cns.selection = s.cns.selection := by
  unfold holdReached
  (repeat' split) <;> simp

@[simp] theorem alarmDown_place (s : State) :
    (alarmDown s).cns.pointers = s.cns.pointers ∧ (alarmDown s).cns.shown = s.cns.shown ∧
    (alarmDown s).cns.selection = s.cns.selection := by
  unfold alarmDown
  (repeat' split) <;> simp

@[simp] theorem alarmUp_place (s : State) :
    (alarmUp s).cns.pointers = s.cns.pointers ∧ (alarmUp s).cns.shown = s.cns.shown ∧
    (alarmUp s).cns.selection = s.cns.selection := by
  unfold alarmUp
  (repeat' split) <;> simp

@[simp] theorem clearSent_place (s : State) :
    (clearSent s).cns.pointers = s.cns.pointers ∧ (clearSent s).cns.shown = s.cns.shown ∧
    (clearSent s).cns.selection = s.cns.selection := by
  unfold clearSent
  dsimp only
  repeat' split
  all_goals try simp_all
  all_goals repeat' split
  all_goals simp_all

@[simp] theorem dropAlarm_place (n : Station) (s : State) :
    (dropAlarm n s).cns.pointers = s.cns.pointers ∧ (dropAlarm n s).cns.shown = s.cns.shown ∧
    (dropAlarm n s).cns.selection = s.cns.selection := by
  unfold dropAlarm
  (repeat' split) <;> simp

@[simp] theorem roomForAlarm_place (s : State) :
    (roomForAlarm s).cns.pointers = s.cns.pointers ∧ (roomForAlarm s).cns.shown = s.cns.shown ∧
    (roomForAlarm s).cns.selection = s.cns.selection := by
  unfold roomForAlarm
  (repeat' split) <;> simp

@[simp] theorem newAlarm_place (p : AlarmPayload) (s : State) :
    (newAlarm p s).cns.pointers = s.cns.pointers ∧ (newAlarm p s).cns.shown = s.cns.shown ∧
    (newAlarm p s).cns.selection = s.cns.selection := by
  unfold newAlarm
  (repeat' split) <;> simp

@[simp] theorem emuAlarm_place (p : AlarmPayload) (s : State) :
    (emuAlarm p s).cns.pointers = s.cns.pointers ∧ (emuAlarm p s).cns.shown = s.cns.shown ∧
    (emuAlarm p s).cns.selection = s.cns.selection := by
  unfold emuAlarm
  (repeat' split) <;> simp

@[simp] theorem emuAlarmClear_place (p : AlarmPayload) (s : State) :
    (emuAlarmClear p s).cns.pointers = s.cns.pointers ∧ (emuAlarmClear p s).cns.shown = s.cns.shown ∧
    (emuAlarmClear p s).cns.selection = s.cns.selection := by
  unfold emuAlarmClear
  (repeat' split) <;> simp

@[simp] theorem toldSent_place (q : Request) (s : State) :
    (toldSent q s).cns.pointers = s.cns.pointers ∧ (toldSent q s).cns.shown = s.cns.shown ∧
    (toldSent q s).cns.selection = s.cns.selection := by
  unfold toldSent
  (repeat' split) <;> simp

@[simp] theorem told_place (x : Outcome) (q : Request) (s : State) :
    (told x q s).cns.pointers = s.cns.pointers ∧ (told x q s).cns.shown = s.cns.shown ∧
    (told x q s).cns.selection = s.cns.selection := by
  unfold told
  (repeat' split) <;> simp

@[simp] theorem leaveService_place (x : Outcome) (e : QueueEntry) (s : State) :
    (leaveService x e s).cns.pointers = s.cns.pointers ∧ (leaveService x e s).cns.shown = s.cns.shown ∧
    (leaveService x e s).cns.selection = s.cns.selection := by
  unfold leaveService
  (repeat' split) <;> simp

@[simp] theorem sendEntry_place (r : InService) (e : QueueEntry) (s : State) :
    (sendEntry r e s).cns.pointers = s.cns.pointers ∧ (sendEntry r e s).cns.shown = s.cns.shown ∧
    (sendEntry r e s).cns.selection = s.cns.selection := by
  unfold sendEntry
  dsimp only
  repeat' split
  all_goals try simp_all
  all_goals repeat' split
  all_goals simp_all

@[simp] theorem enterService_place (e : QueueEntry) (s : State) :
    (enterService e s).cns.pointers = s.cns.pointers ∧ (enterService e s).cns.shown = s.cns.shown ∧
    (enterService e s).cns.selection = s.cns.selection := by
  unfold enterService
  dsimp only
  repeat' split
  all_goals try simp_all
  all_goals repeat' split
  all_goals simp_all

@[simp] theorem keyIfZero_place (n : Nat) (s : State) :
    (keyIfZero n s).cns.pointers = s.cns.pointers ∧ (keyIfZero n s).cns.shown = s.cns.shown ∧
    (keyIfZero n s).cns.selection = s.cns.selection := by
  unfold keyIfZero
  (repeat' split) <;> simp

@[simp] theorem endGap_place (e : QueueEntry) (s : State) :
    (endGap e s).cns.pointers = s.cns.pointers ∧ (endGap e s).cns.shown = s.cns.shown ∧
    (endGap e s).cns.selection = s.cns.selection := by
  unfold endGap
  (repeat' split) <;> simp

@[simp] theorem endSlot_place (e : QueueEntry) (s : State) :
    (endSlot e s).cns.pointers = s.cns.pointers ∧ (endSlot e s).cns.shown = s.cns.shown ∧
    (endSlot e s).cns.selection = s.cns.selection := by
  unfold endSlot
  (repeat' split) <;> simp

@[simp] theorem endSending_place (r : InService) (e : QueueEntry) (s : State) :
    (endSending r e s).cns.pointers = s.cns.pointers ∧ (endSending r e s).cns.shown = s.cns.shown ∧
    (endSending r e s).cns.selection = s.cns.selection := by
  unfold endSending
  (repeat' split) <;> simp

@[simp] theorem endAckWait_place (r : InService) (e : QueueEntry) (s : State) :
    (endAckWait r e s).cns.pointers = s.cns.pointers ∧ (endAckWait r e s).cns.shown = s.cns.shown ∧
    (endAckWait r e s).cns.selection = s.cns.selection := by
  unfold endAckWait
  (repeat' split) <;> simp

@[simp] theorem hearAck_place (n : Station) (p : AckPayload) (s : State) :
    (hearAck n p s).cns.pointers = s.cns.pointers ∧ (hearAck n p s).cns.shown = s.cns.shown ∧
    (hearAck n p s).cns.selection = s.cns.selection := by
  unfold hearAck
  (repeat' split) <;> simp

@[simp] theorem sendAck_place (t : AckTx) (s : State) :
    (sendAck t s).cns.pointers = s.cns.pointers ∧ (sendAck t s).cns.shown = s.cns.shown ∧
    (sendAck t s).cns.selection = s.cns.selection := by
  unfold sendAck
  dsimp only
  repeat' split
  all_goals try simp_all
  all_goals repeat' split
  all_goals simp_all

@[simp] theorem deliver_place (k : FrameKind) (f : AirFrame) (s : State) :
    (deliver k f s).cns.pointers = s.cns.pointers ∧ (deliver k f s).cns.shown = s.cns.shown ∧
    (deliver k f s).cns.selection = s.cns.selection := by
  unfold deliver
  dsimp only
  repeat' split
  all_goals try simp_all
  all_goals repeat' split
  all_goals simp_all

@[simp] theorem acknowledge_place (k : FrameKind) (f : AirFrame) (s : State) :
    (acknowledge k f s).cns.pointers = s.cns.pointers ∧ (acknowledge k f s).cns.shown = s.cns.shown ∧
    (acknowledge k f s).cns.selection = s.cns.selection := by
  unfold acknowledge
  dsimp only
  repeat' split
  all_goals try simp_all
  all_goals repeat' split
  all_goals simp_all

@[simp] theorem route_place (k : FrameKind) (f : AirFrame) (s : State) :
    (route k f s).cns.pointers = s.cns.pointers ∧ (route k f s).cns.shown = s.cns.shown ∧
    (route k f s).cns.selection = s.cns.selection := by
  unfold route
  (repeat' split) <;> simp

@[simp] theorem routeKind_place (k : Option FrameKind) (f : AirFrame) (s : State) :
    (routeKind k f s).cns.pointers = s.cns.pointers ∧ (routeKind k f s).cns.shown = s.cns.shown ∧
    (routeKind k f s).cns.selection = s.cns.selection := by
  unfold routeKind
  (repeat' split) <;> simp

@[simp] theorem validFrame_place (k : Option FrameKind) (f : AirFrame) (s : State) :
    (validFrame k f s).cns.pointers = s.cns.pointers ∧ (validFrame k f s).cns.shown = s.cns.shown ∧
    (validFrame k f s).cns.selection = s.cns.selection := by
  unfold validFrame
  dsimp only
  repeat' split
  all_goals try simp_all
  all_goals repeat' split
  all_goals simp_all

@[simp] theorem takeFrame_place (k : Option FrameKind) (f : AirFrame) (s : State) :
    (takeFrame k f s).cns.pointers = s.cns.pointers ∧ (takeFrame k f s).cns.shown = s.cns.shown ∧
    (takeFrame k f s).cns.selection = s.cns.selection := by
  unfold takeFrame
  dsimp only
  repeat' split
  all_goals try simp_all
  all_goals repeat' split
  all_goals simp_all

@[simp] theorem deliverLooped_place (k : FrameKind) (f : AirFrame) (s : State) :
    (deliverLooped k f s).cns.pointers = s.cns.pointers ∧ (deliverLooped k f s).cns.shown = s.cns.shown ∧
    (deliverLooped k f s).cns.selection = s.cns.selection := by
  unfold deliverLooped
  (repeat' split) <;> simp

@[simp] theorem takeLooped_place (t : TxFrame) (s : State) :
    (takeLooped t s).cns.pointers = s.cns.pointers ∧ (takeLooped t s).cns.shown = s.cns.shown ∧
    (takeLooped t s).cns.selection = s.cns.selection := by
  unfold takeLooped
  (repeat' split) <;> simp

@[simp] theorem endLooped_place (e : QueueEntry) (t : TxFrame) (s : State) :
    (endLooped e t s).cns.pointers = s.cns.pointers ∧ (endLooped e t s).cns.shown = s.cns.shown ∧
    (endLooped e t s).cns.selection = s.cns.selection := by
  unfold endLooped
  (repeat' split) <;> simp

@[simp] theorem clickTone_place (s : State) :
    (clickTone s).cns.pointers = s.cns.pointers ∧ (clickTone s).cns.shown = s.cns.shown ∧
    (clickTone s).cns.selection = s.cns.selection := by
  unfold clickTone
  (repeat' split) <;> simp

@[simp] theorem holdKey_place (k : Key) (s : State) :
    (holdKey k s).cns.pointers = s.cns.pointers ∧ (holdKey k s).cns.shown = s.cns.shown ∧
    (holdKey k s).cns.selection = s.cns.selection := by
  unfold holdKey
  (repeat' split) <;> simp

@[simp] theorem resumeEmergency_place (s : State) :
    (resumeEmergency s).cns.pointers = s.cns.pointers ∧ (resumeEmergency s).cns.shown = s.cns.shown ∧
    (resumeEmergency s).cns.selection = s.cns.selection := by
  unfold resumeEmergency
  (repeat' split) <;> simp

@[simp] theorem enterPower_place (s : State) :
    (enterPower s).cns.pointers = s.cns.pointers ∧ (enterPower s).cns.shown = s.cns.shown ∧
    (enterPower s).cns.selection = s.cns.selection := by
  unfold enterPower
  (repeat' split) <;> simp

end Sys2Proof.Machine
end

section
/-! PROOFS. Every command answers a next state, leaves the queue of commands and what the layout reads of the last
one, and does not set the clock back. -/

namespace Sys2Proof.Machine

open Sys2Proof

-- The kernel's checks run one after another: side by side they ask for more threads than there is room for.
set_option Elab.async false

/-! ## What an act leaves -/

/-- The queue of commands untouched, the clock not set back, and what a layout reads of the last one. -/
structure Forward (s t : State) : Prop where
  pending : t.pending = s.pending
  now : s.now ≤ t.now
  place : t.cns.pointers = s.cns.pointers ∧ t.cns.shown = s.cns.shown ∧ t.cns.selection = s.cns.selection

theorem Forward.refl (s : State) : Forward s s := ⟨rfl, Nat.le_refl _, rfl, rfl, rfl⟩

theorem Forward.trans {a b c : State} (h : Forward a b) (k : Forward b c) : Forward a c := by
  obtain ⟨pending, now, pointers, shown, selection⟩ := h
  obtain ⟨pending', now', pointers', shown', selection'⟩ := k
  exact ⟨pending'.trans pending, now.trans now', pointers'.trans pointers, shown'.trans shown,
    selection'.trans selection⟩

/-- The last operation first, as operations are composed. -/
theorem Forward.comp {a b c : State} (k : Forward b c) (h : Forward a b) : Forward a c := h.trans k

/-- An operation that changes none of them. -/
theorem Forward.still {s t : State} (pending : t.pending = s.pending := by simp) (now : t.now = s.now := by simp)
    (place : t.cns.pointers = s.cns.pointers ∧ t.cns.shown = s.cns.shown ∧ t.cns.selection = s.cns.selection := by simp) :
    Forward s t :=
  ⟨pending, now.symm.le, place⟩

/-- An operation on parts that none of them reads. -/
theorem Forward.same {s t : State} (pending : t.pending = s.pending) (now : t.now = s.now)
    (pointers : t.cns.pointers = s.cns.pointers) (shown : t.cns.shown = s.cns.shown)
    (selection : t.cns.selection = s.cns.selection) : Forward s t :=
  .still pending now ⟨pointers, shown, selection⟩

theorem Forward.ite {s t u : State} {p : Prop} [Decidable p] (ht : Forward s t) (hu : Forward s u) :
    Forward s (if p then t else u) := by
  split
  · exact ht
  · exact hu

theorem forward_reach (m : Moment) (s : State) : Forward s (s.reach m) := ⟨rfl, Nat.le_max_left _ _, rfl, rfl, rfl⟩

/-! ## What a command answers -/

/-- What a command leaves: the queue of commands, a clock not set back, and where the 4120 runs on, a layout that
finds what the last one left. -/
structure Answers (s t : State) : Prop where
  pending : t.pending = s.pending
  now : s.now ≤ t.now
  layout : t.running = false ∨ (∃ u, t = finish u ∧ Forward s u) ∨ Forward s t ∧ t.mst = s.mst

theorem answers_finish {s u : State} (h : Forward s u) : Answers s (finish u) :=
  ⟨by simpa using h.pending, by simpa using h.now, .inr (.inl ⟨u, rfl, h⟩)⟩

theorem answers_of_forward {s t : State} (h : Forward s t) (mst : t.mst = s.mst) : Answers s t :=
  ⟨h.pending, h.now, .inr (.inr ⟨h, mst⟩)⟩

theorem Answers.refl (s : State) : Answers s s := answers_of_forward (.refl s) rfl

theorem answers_of_stopped {s t : State} (stopped : t.running = false) (pending : t.pending = s.pending := by simp)
    (now : s.now ≤ t.now := by simp) : Answers s t :=
  ⟨pending, now, .inl stopped⟩

theorem Answers.ite {s t u : State} {p : Prop} [Decidable p] (ht : Answers s t) (hu : Answers s u) :
    Answers s (if p then t else u) := by
  split
  · exact ht
  · exact hu

/-- A row that acts while the 4120 runs, once its line is set. -/
theorem answers_whenRunning {f : State → State} {s v : State} (line : Forward s v) (act : Forward v (f v)) :
    Answers s (whenRunning f v) := by
  cases run : v.running with
  | true => rw [whenRunning_of_running f run]; exact answers_finish (line.trans act)
  | false =>
    rw [whenRunning_of_not_running f run]
    exact answers_of_stopped run line.pending line.now

/-- The command answers a next state that follows the one it ran in. -/
def Runs (c : Instr) (s : State) : Prop := ∃ t, exec c s = .next t ∧ Answers s t

theorem runs_whenRunning {c : Instr} {f : State → State} {s : State}
    (row : exec c s = .next (whenRunning f s)) (act : Forward s (f s)) : Runs c s :=
  ⟨_, row, answers_whenRunning (.refl s) act⟩

theorem runs_receiveFrame {c : Instr} {kind : Nat} {f : AirFrame} {s : State}
    (row : exec c s = receiveFrame kind f s) : Runs c s :=
  ⟨_, row, .ite (answers_finish .still) (.refl s)⟩

theorem forward_keyEvent (k : Key) {act : State → State} (h : ∀ s, Forward s (act s)) (s : State) :
    Forward s (keyEvent k act s) := by
  have click : Forward s (clickTone s) := .still
  have wake : Forward (clickTone s) (restartWake (clickTone s)) := .still
  exact click.trans (.ite (.ite .still (.ite wake (wake.trans (h _)))) (h _))

theorem forward_holdKey (k : Key) (s : State) : Forward s (holdKey k s) := by
  unfold holdKey reachDebounce
  dsimp only
  split
  · exact ⟨rfl, Nat.le_max_left _ _, rfl, rfl, rfl⟩
  all_goals exact ⟨rfl, Nat.le_refl _, rfl, rfl, rfl⟩

theorem runs_acceptKey {c : Instr} {k : Key} {act : State → State} {s : State}
    (row : exec c s = acceptKey k act s) (h : ∀ s, Forward s (act s)) : Runs c s :=
  ⟨_, row, .ite (answers_finish ((forward_holdKey k s).trans (forward_keyEvent k h _))) (.refl s)⟩

/-! ## The acts of the keys -/

theorem forward_dropped {act : State → State} (h : ∀ s, Forward s (act s)) (s : State) :
    Forward s (act (dropPrefix s)) :=
  Forward.trans (b := dropPrefix s) .still (h _)

theorem forward_shiftKey (s : State) : Forward s (shiftKey s) := by
  unfold shiftKey endShift refuseLogFull
  split
  · exact .still
  · split <;> exact .still
  all_goals exact .still

theorem forward_takeNewHire (s : State) : Forward s (takeNewHire s) := by
  unfold takeNewHire refuseLogFull
  split
  · exact .still
  · split
    · exact .still
    · split <;> exact .still

theorem forward_hireKey (s : State) : Forward s (hireKey s) := by
  unfold hireKey
  split
  · exact forward_takeNewHire s
  · exact forward_takeNewHire s
  all_goals exact .still

theorem forward_payKey (s : State) : Forward s (payKey s) := by
  unfold payKey
  split <;> exact .still

theorem forward_vacantKey (s : State) : Forward s (vacantKey s) := by
  unfold vacantKey endHireToVacant
  split <;> exact .still

theorem forward_breakKey (s : State) : Forward s (breakKey s) := by
  unfold breakKey
  split <;> exact .still

theorem forward_acceptRoute (s : State) : Forward s (acceptRoute s) := by
  unfold acceptRoute
  split
  · split <;> exact .still
  · exact .still

theorem forward_declineKey (s : State) : Forward s (declineKey s) := by
  unfold declineKey
  split <;> exact .still

theorem forward_extraKey (s : State) : Forward s (extraKey s) := by
  unfold extraKey
  split <;> exact .still

theorem forward_tariffPrefixKey (s : State) : Forward s (tariffPrefixKey s) := by
  unfold tariffPrefixKey
  split <;> exact .still

theorem forward_readRoute (s : State) : Forward s (readRoute s) := by
  unfold readRoute
  split
  · exact .same rfl rfl rfl rfl rfl
  · split
    · exact .still
    · exact .refl s
  all_goals exact .still

theorem forward_replyRoute (s : State) : Forward s (replyRoute s) := by
  unfold replyRoute
  split
  · exact .same rfl rfl rfl rfl rfl
  · exact .still

theorem forward_clearRoute (s : State) : Forward s (clearRoute s) := by
  have view : Forward s (clearView s) := by
    unfold clearView
    split
    · exact .refl s
    · exact .same rfl rfl rfl rfl rfl
    all_goals exact .still
  exact .ite view (view.trans .still)

theorem forward_extraDigit {d : Nat} {s t : State} (taken : extraDigit d s = some t) : Forward s t := by
  unfold extraDigit at taken
  split at taken
  · split at taken <;> cases taken
    exact .same rfl rfl rfl rfl rfl
  · cases taken

theorem forward_tariffDigit {d : Nat} {s t : State} (taken : tariffDigit d s = some t) : Forward s t := by
  unfold tariffDigit at taken
  split at taken
  · split at taken <;> cases taken
    exact .same rfl rfl rfl rfl rfl
  · cases taken

theorem forward_prefixDigit (p : KeyPrefix) (d : Fin 10) (s : State) : Forward s (prefixDigit p d s) := by
  unfold prefixDigit
  dsimp only
  split
  · rename_i t found
    cases p
    · exact (forward_extraDigit found).trans .still
    · exact (forward_tariffDigit found).trans .still
  · exact .still

theorem forward_digitRoute (d : Fin 10) (s : State) : Forward s (digitRoute d s) := by
  have menu : Forward s (menuDigit d s) := by
    unfold menuDigit
    split
    · exact Forward.trans (b := makeReply _ d.val s) .still (.same rfl rfl rfl rfl rfl)
    · exact .still
  have console : Forward s (consoleDigit d s) := by
    unfold consoleDigit
    split
    · exact forward_prefixDigit _ d s
    · exact .ite menu (.ite .still (.refl s))
  exact .ite console (console.trans .still)

/-! ## The other rows -/

theorem runs_start (i : StartInput) (s : State) : Runs (.start i) s := by
  have line : Forward s (startLine i.event s) := by
    unfold startLine
    split <;> exact .same rfl rfl rfl rfl rfl
  have values : Forward s (startLine i.event s) → (startValues i (startLine i.event s)).pending = s.pending ∧
      (startValues i (startLine i.event s)).now = s.now := fun h => ⟨h.pending, (startLine_frame i.event s).2.2.2.2.2.2.2.2.2⟩
  obtain ⟨pending, now⟩ := values line
  refine ⟨_, rfl, .ite (.ite (answers_of_stopped ?_ ?_ ?_) (answers_of_forward line (by simp))) (.refl s)⟩
  · rw [State.running, (endPending_startValues i _).1]
    rfl
  · simp [pending]
  · simp [now]

theorem forward_beginRunning (s : State) : Forward s (beginRunning s) := by
  have reached := forward_reach (s.stc.phaseSince + tLampTest) s
  unfold beginRunning
  dsimp only
  split
  · exact reached.trans .still
  · exact reached.trans .still

theorem forward_tickSecond (s : State) : Forward s (tickSecond s) :=
  (forward_reach (s.tickAt + tTick) s).trans (.same rfl rfl rfl rfl rfl)

theorem runs_oneSecondTick (s : State) : Runs .oneSecondTick s := by
  have tick := forward_tickSecond s
  cases phase : s.stc.phase with
  | halted => exact ⟨s, by simp [exec, execOneSecondTick, phase], .refl s⟩
  | lampTest =>
    refine ⟨tickSecond s, by simp [exec, execOneSecondTick, phase], answers_of_stopped ?_ tick.pending tick.now⟩
    simp [State.running, phase]
  | running =>
    refine ⟨finish (refreshTarget (tickBeacon (tickElapsed (tickSecond s)))),
      by simp [exec, execOneSecondTick, phase], answers_finish (tick.trans ?_)⟩
    exact .still

theorem forward_endValidity (source : Station) (number : Serial) (s : State) :
    Forward s (endValidity source number s) := by
  unfold endValidity
  split
  · exact .ite .still (.refl s)
  · exact .refl s

theorem runs_validityExpiry (source : Station) (number : Serial) (s : State) :
    Runs (.validityExpiry source number) s := by
  have ended := forward_endValidity source number s
  cases phase : s.stc.phase with
  | halted => exact ⟨s, by simp [exec, execValidityExpiry, phase], .refl s⟩
  | lampTest =>
    refine ⟨endValidity source number s, by simp [exec, execValidityExpiry, phase],
      answers_of_stopped ?_ ended.pending ended.now⟩
    simp [State.running, (endValidity_display source number s).2, phase]
  | running =>
    exact ⟨finish (endValidity source number s), by simp [exec, execValidityExpiry, phase], answers_finish ended⟩

theorem forward_tickSlot (mv : Nat) (s : State) : Forward s (tickSlot mv s) := by
  obtain ⟨supply, ticked, -⟩ := tickSlot_eq mv s
  rw [ticked]
  exact ⟨rfl, Nat.le_max_left _ _, rfl, rfl, rfl⟩

theorem forward_sampleLow (mv : Nat) (s : State) : Forward s (sampleLow mv s) :=
  .ite (.same rfl rfl rfl rfl rfl) (.refl s)

theorem forward_sampleNormal (mv : Nat) (s : State) : Forward s (sampleNormal mv s) :=
  .ite (.same rfl rfl rfl rfl rfl) (.refl s)

theorem forward_scanContact (k : Key) (s : State) : Forward s (scanContact k s) := by
  obtain ⟨scanner, wait, act, -⟩ := scanContact_eq k s
  rw [act]
  exact .same rfl rfl rfl rfl rfl

theorem forward_scanRelease (k : Key) (s : State) : Forward s (scanRelease k s) := by
  obtain ⟨scanner, wait, act, -⟩ := scanRelease_eq k s
  rw [act]
  exact .same rfl rfl rfl rfl rfl

theorem forward_toggleLamp (lamp : Lamp) (s : State) : Forward s (toggleLamp lamp s) := by
  unfold toggleLamp
  split
  · exact ⟨rfl, Nat.le_max_left _ _, rfl, rfl, rfl⟩
  all_goals exact .refl s

theorem forward_dimStep (since : Moment) (s : State) : Forward s (dimStep since s) :=
  ⟨rfl, Nat.le_max_left _ _, rfl, rfl, rfl⟩

theorem forward_firstBit (s : State) : Forward s (firstBit s) := by
  unfold firstBit
  split
  · rename_i a _
    exact .ite (.refl s) ((forward_reach (a.since + tKeyup) s).trans .still)
  · split
    · rename_i r _ _ _
      exact .ite ((forward_reach (r.since + tKeyup) s).trans .still) (.refl s)
    · exact .refl s

theorem forward_lastBit (s : State) : Forward s (lastBit s) := by
  unfold lastBit
  split
  · rename_i a _
    exact .ite ((forward_reach (a.since + airtimeNow s) s).trans .still) (.refl s)
  · split
    · rename_i r _ _ _
      exact .ite ((forward_reach (r.since + airtimeNow s) s).trans .still) (.refl s)
    · exact .refl s

theorem forward_enterPark (s : State) : Forward s (enterPark s) := by
  have closed : Forward s (closeTo .none (dropPrefix s)) := .still
  exact closed.trans (.same rfl rfl rfl rfl rfl)

theorem forward_startBeacon (s : State) : Forward s (startBeacon s) := .still

theorem answers_halt {s v : State} (line : Forward s v) : Answers s (halt v) := by
  obtain ⟨pending, now, -⟩ := line
  refine answers_of_stopped rfl ?_ ?_
  · simp [halt, pending]
  · simpa [halt] using now

/-- An act of the EMU, which FAULT disables. -/
theorem forward_unlessFault {f : State → State} {s : State} (h : Forward s (f s)) : Forward s (unlessFault f s) :=
  .ite (.refl s) h

/-- Every command but the two arrows and their repeat answers a next state that follows the one it ran in. -/
theorem exec_runs (c : Instr) (s : State) (up : c ≠ .up) (down : c ≠ .down) (again : c ≠ .keyRepeat) : Runs c s := by
  cases c with
  | up => exact absurd rfl up
  | down => exact absurd rfl down
  | keyRepeat => exact absurd rfl again
  | start i => exact runs_start i s
  | lampTestEnd => exact ⟨_, rfl, .ite (answers_finish (forward_beginRunning s)) (.refl s)⟩
  | oneSecondTick => exact runs_oneSecondTick s
  | validityExpiry source number => exact runs_validityExpiry source number s
  | shift => exact runs_acceptKey rfl (forward_dropped forward_shiftKey)
  | hire => exact runs_acceptKey rfl (forward_dropped forward_hireKey)
  | pay => exact runs_acceptKey rfl (forward_dropped forward_payKey)
  | vacant => exact runs_acceptKey rfl (forward_dropped forward_vacantKey)
  | onBreak => exact runs_acceptKey rfl (forward_dropped forward_breakKey)
  | accept => exact runs_acceptKey rfl (forward_dropped forward_acceptRoute)
  | decline => exact runs_acceptKey rfl (forward_dropped forward_declineKey)
  | extra => exact runs_acceptKey rfl (forward_dropped forward_extraKey)
  | tariffKey => exact runs_acceptKey rfl (forward_dropped forward_tariffPrefixKey)
  | digit d => exact runs_acceptKey rfl (forward_digitRoute d)
  | read => exact runs_acceptKey rfl (forward_dropped forward_readRoute)
  | reply => exact runs_acceptKey rfl (forward_dropped forward_replyRoute)
  | clear => exact runs_acceptKey rfl (forward_dropped forward_clearRoute)
  | beacon _ | offer _ | bid _ | withdraw _ | take _ | release _ | confirm _ | msg _ | ack _ | fare _
  | tariff _ | alarm _ | alarmClear _ | alarmSeen _ => exact runs_receiveFrame rfl
  | unassignedKind kind f =>
    by_cases unassigned : (kindOfCode kind).isNone
    · exact runs_receiveFrame (kind := kind) (f := f) (by simp [exec, execUnassignedKind, unassigned])
    · exact ⟨s, by simp [exec, execUnassignedKind, unassigned], .refl s⟩
  | cdAsserted =>
    have counted : Forward s (if s.running then countAtCarrier s else s) := .ite .still (.refl s)
    exact ⟨_, rfl, answers_whenRunning (counted.trans (.same rfl rfl rfl rfl rfl)) (.refl _)⟩
  | cdClear => exact ⟨_, rfl, answers_whenRunning (.same rfl rfl rfl rfl rfl) (.refl _)⟩
  | quietAsserted => exact ⟨_, rfl, .ite (.refl s) (answers_whenRunning (.same rfl rfl rfl rfl rfl) .still)⟩
  | quietReleased => exact ⟨_, rfl, .ite (answers_whenRunning (.same rfl rfl rfl rfl rfl) .still) (.refl s)⟩
  | ignOn | ignOff => exact ⟨_, rfl, answers_whenRunning (.same rfl rfl rfl rfl rfl) .still⟩
  | keyContact k => exact ⟨_, rfl, answers_whenRunning (.same rfl rfl rfl rfl rfl) (forward_scanContact k _)⟩
  | keyRelease k => exact ⟨_, rfl, answers_whenRunning (.same rfl rfl rfl rfl rfl) (forward_scanRelease k _)⟩
  | displayRefresh => exact ⟨_, rfl, .ite (.refl s) (answers_of_forward (.same rfl rfl rfl rfl rfl) rfl)⟩
  | alarmPressed =>
    exact ⟨_, rfl, .ite (.refl s) (answers_whenRunning (.same rfl rfl rfl rfl rfl) (forward_unlessFault .still))⟩
  | alarmReleased =>
    exact ⟨_, rfl, .ite (answers_whenRunning (.same rfl rfl rfl rfl rfl) (forward_unlessFault .still)) (.refl s)⟩
  | mainPowerLoss | resetAsserted => exact ⟨_, rfl, answers_halt (.same rfl rfl rfl rfl rfl)⟩
  | slotClockTick mv => exact runs_whenRunning rfl (forward_tickSlot mv s)
  | supplyLow mv => exact runs_whenRunning rfl (forward_sampleLow mv s)
  | supplyNormal mv => exact runs_whenRunning rfl (forward_sampleNormal mv s)
  | positionStale => exact runs_whenRunning rfl (.ite (.same rfl rfl rfl rfl rfl) (.refl s))
  | navRecord r =>
    have taken : Forward s { s with dtc := takeNav r s.dtc } := .same rfl rfl rfl rfl rfl
    exact runs_whenRunning rfl (.ite (.ite (taken.trans .still) taken) (.refl s))
  | blinkPhaseEnd lamp => exact runs_whenRunning rfl (forward_toggleLamp lamp s)
  | keyupEnd => exact runs_whenRunning rfl (forward_firstBit s)
  | transmissionEnd => exact runs_whenRunning rfl (forward_lastBit s)
  | odoPulse => exact runs_whenRunning rfl .still
  | duplicateKeyAgeOut k => exact runs_whenRunning rfl (.same rfl rfl rfl rfl rfl)
  | homeReachExpiry => exact runs_whenRunning rfl (.ite .still (.refl s))
  | beaconTimerExpiry => exact runs_whenRunning rfl (.ite .still (.refl s))
  | syncWordMatched window =>
    exact runs_whenRunning rfl (.ite (.ite (.same rfl rfl rfl rfl rfl) (.same rfl rfl rfl rfl rfl)) (.refl s))
  | headerComplete h length =>
    exact runs_whenRunning rfl (.ite (.ite (.same rfl rfl rfl rfl rfl) .still) (.refl s))
  | badLength length => exact runs_whenRunning rfl (.ite .still (.refl s))
  | crcMismatch => exact runs_whenRunning rfl (.ite .still (.refl s))
  | lockoutExpiry =>
    refine runs_whenRunning rfl (forward_unlessFault ?_)
    split
    · rename_i m _
      exact (forward_reach m s).trans .still
    all_goals exact .refl s
  | clearDue =>
    refine runs_whenRunning rfl (forward_unlessFault ?_)
    split
    · rename_i m _
      exact (forward_reach m s).trans .still
    · exact .refl s
  | alarmDue =>
    refine runs_whenRunning rfl (forward_unlessFault ?_)
    split
    · rename_i c _
      exact (forward_reach c.due s).trans .still
    · exact .refl s
  | holdTimerExpiry =>
    refine runs_whenRunning rfl (forward_unlessFault ?_)
    split
    · rename_i h _
      exact .ite (.refl s) ((forward_reach (h.since + s.stc.config.tHoldMs) s).trans .still)
    · exact .refl s
  | alarmListExpiry origin =>
    refine runs_whenRunning rfl ?_
    split
    · rename_i a _
      exact (forward_reach (a.lastHeard + tAlarmList) s).trans .still
    · exact .refl s
  | buzzerPatternEnd =>
    refine runs_whenRunning rfl ?_
    split
    · rename_i tone m _
      exact (forward_reach (m + toneLength tone) s).trans .still
    · exact .refl s
  | activityStretchEnd =>
    refine runs_whenRunning rfl ?_
    split
    · rename_i m _
      exact (forward_reach (m + tStretch) s).trans (.same rfl rfl rfl rfl rfl)
    · exact .refl s
  | dimStepEnd =>
    refine runs_whenRunning rfl ?_
    split
    · exact forward_dimStep _ s
    · exact .refl s
  | assemblyTimeout source number =>
    refine runs_whenRunning rfl ?_
    split
    · exact .ite .still (.refl s)
    · exact .refl s
  | stagingDeadline =>
    refine runs_whenRunning rfl ?_
    split
    · rename_i g _
      exact (forward_reach g.deadline s).trans (.same rfl rfl rfl rfl rfl)
    · exact .refl s
  | offerHoldExpiry id =>
    refine runs_whenRunning rfl ?_
    split
    · rename_i e _
      exact .ite (.refl s) ((forward_reach e.holdEnd s).trans .still)
    · exact .refl s
  | tAcceptLastFiveSeconds =>
    refine runs_whenRunning rfl ?_
    split
    · exact forward_reach _ s
    · exact .refl s
  | tConfirmExpiry =>
    refine runs_whenRunning rfl ?_
    split
    · rename_i e _
      exact (forward_reach (e.jobTimer.getD s.now) s).trans .still
    · exact .refl s
  | tAcceptExpiry =>
    refine runs_whenRunning rfl ?_
    split
    · rename_i m _
      exact (forward_reach m s).trans .still
    · exact .refl s
  | windowEnd id =>
    refine runs_whenRunning rfl ?_
    split
    · rename_i e _
      exact .ite (.refl s) ((forward_reach e.windowEnd s).trans .still)
    · exact .refl s
  | bidDelayEnd id =>
    refine runs_whenRunning rfl ?_
    split
    · split
      · rename_i m _ _
        exact (forward_reach m s).trans .still
      · exact .refl s
    · exact .refl s
  | neighbourAgeOut station =>
    refine runs_whenRunning rfl ?_
    split
    · exact .ite .still (.refl s)
    · exact .refl s
  | parkTimerExpiry =>
    refine runs_whenRunning rfl ?_
    split
    · rename_i m _
      exact .ite ((forward_reach (m + tPark) s).trans (forward_enterPark _)) (.refl s)
    · exact .refl s
  | relayDelayEnd k =>
    refine runs_whenRunning rfl ?_
    split
    · exact .ite .still (.refl s)
    · exact .refl s
  | loopedFrameEnd =>
    refine runs_whenRunning rfl ?_
    split
    · rename_i r _ _ _ _ _
      exact .ite ((forward_reach (r.since + airtimeNow s) s).trans .still) (.refl s)
    · exact .refl s
  | ackGapEnd =>
    refine runs_whenRunning rfl ?_
    split
    · rename_i r _
      exact (forward_reach r.due s).trans .still
    · exact .refl s
  | ackWaitExpiry =>
    refine runs_whenRunning rfl ?_
    split
    · rename_i r _ _ _
      exact .ite ((forward_reach (r.since + tAckWait) s).trans .still) (.refl s)
    · exact .refl s
  | backoffSlotEnd =>
    refine runs_whenRunning rfl ?_
    split
    · exact (forward_reach (s.cau.access.since + tSlot) s).trans .still
    · exact .refl s
  | gapEnd =>
    refine runs_whenRunning rfl ?_
    split
    · rename_i e _
      exact (forward_reach (s.cau.access.since + classGap e.req.cls) s).trans .still
    · exact .refl s
  | intervalEnd =>
    refine runs_whenRunning rfl ?_
    split
    · rename_i m _
      have closed : Forward (s.reach (m + 1000)) (closeInterval true (s.reach (m + 1000))) := .still
      exact .ite ((forward_reach (m + 1000) s).trans (closed.trans (.same rfl rfl rfl rfl rfl))) (.refl s)
    · exact .refl s
  | wakeTimerExpiry =>
    refine runs_whenRunning rfl ?_
    split
    · rename_i m _
      exact .ite ((forward_reach (m + tWake) s).trans (.same rfl rfl rfl rfl rfl)) (.refl s)
    · exact .refl s
  | keyReleaseWaitEnd =>
    refine runs_whenRunning rfl ?_
    split
    · rename_i m _
      exact .ite ((forward_reach (m + tDebounce) s).trans (.same rfl rfl rfl rfl rfl)) (.refl s)
    · exact .refl s

end Sys2Proof.Machine
end

section
/-! PROOFS. The queue of commands through every step, and the LIST view through every other command. -/

namespace Sys2Proof.Machine

open Sys2Proof

-- The kernel's checks run one after another: side by side they ask for more threads than there is room for.
set_option Elab.async false

/-! ## The arrows -/

/-- A command answers a next state with the queue untouched and the clock not set back. -/
def RunsOn (c : Instr) (s : State) : Prop := ∃ t, exec c s = .next t ∧ t.pending = s.pending ∧ s.now ≤ t.now

theorem Runs.runsOn {c : Instr} {s : State} (h : Runs c s) : RunsOn c s := by
  obtain ⟨t, run, answers⟩ := h
  exact ⟨t, run, answers.pending, answers.now⟩

/-- What an arrow's key event leaves of the queue and the clock. -/
theorem keyEvent_arrow (k : Key) (f : Nat → Nat → Nat) (s : State) :
    (keyEvent k (fun s => movePointer f (dropPrefix s)) s).pending = s.pending ∧
    (keyEvent k (fun s => movePointer f (dropPrefix s)) s).now = s.now := by
  unfold keyEvent
  dsimp only
  split
  · split
    · simp
    · split <;> simp
  · simp

theorem runsOn_arrow {c : Instr} {k : Key} {f : Nat → Nat → Nat} {s : State}
    (row : exec c s = acceptKey k (fun s => movePointer f (dropPrefix s)) s) : RunsOn c s := by
  obtain ⟨pending, now⟩ := keyEvent_arrow k f (holdKey k s)
  have held := forward_holdKey k s
  refine ⟨_, row, ?_⟩
  split
  · exact ⟨by simpa [pending] using held.pending, by simpa [now] using held.now⟩
  · exact ⟨rfl, Nat.le_refl _⟩

theorem repeatEvent_arrow (k : Key) (f : Nat → Nat → Nat) (due : Moment) (s : State) :
    (repeatEvent k (movePointer f) due s).pending = s.pending ∧ s.now ≤ (repeatEvent k (movePointer f) due s).now := by
  have held : ∀ u : State, u = { s.reach due with cns := { s.cns with scanner := .held k true (due + tRepeat) } } →
      u.pending = s.pending ∧ s.now ≤ u.now := by
    rintro u rfl
    exact ⟨rfl, Nat.le_max_left _ _⟩
  obtain ⟨pending, now⟩ := held _ rfl
  unfold repeatEvent
  dsimp only
  split
  · exact ⟨pending, now⟩
  · obtain ⟨pending', now'⟩ := keyEvent_arrow k f
      { s.reach due with cns := { s.cns with scanner := .held k true (due + tRepeat) } }
    exact ⟨pending'.trans pending, now.trans now'.symm.le⟩

theorem runsOn_keyRepeat (s : State) : RunsOn .keyRepeat s := by
  refine ⟨_, rfl, ?_⟩
  unfold whenRunning
  split
  · dsimp only
    split
    · obtain ⟨pending, now⟩ := repeatEvent_arrow .up (fun _ p => p - 1) ‹Moment› s
      exact ⟨by simpa [upRoute, downRoute] using pending, by simpa [upRoute, downRoute] using now⟩
    · obtain ⟨pending, now⟩ := repeatEvent_arrow .down (fun limit p => min limit (p + 1)) ‹Moment› s
      exact ⟨by simpa [upRoute, downRoute] using pending, by simpa [upRoute, downRoute] using now⟩
    · simp
  · exact ⟨rfl, Nat.le_refl _⟩

/-- Every command runs on. -/
theorem exec_runsOn (c : Instr) (s : State) : RunsOn c s := by
  by_cases up : c = .up
  · subst up; exact runsOn_arrow rfl
  by_cases down : c = .down
  · subst down; exact runsOn_arrow rfl
  by_cases again : c = .keyRepeat
  · subst again; exact runsOn_keyRepeat s
  exact (exec_runs c s up down again).runsOn

/-- Settles O2: every command runs on, and without one the clock moves and the levels are followed. -/
theorem everyStepRunsAndKeepsTheQueue : Obligations.EveryStepRunsAndKeepsTheQueue := by
  refine ⟨exec_runsOn, fun s empty => ?_⟩
  have waits : step s = .next (idle s) := by simp [step, empty]
  refine ⟨_, waits, ?_⟩
  let u : State := { s with now := s.now + 1 }
  cases run : s.running with
  | true =>
    have runs : u.running = true := run
    have follows : idle s = finish u := whenRunning_of_running _ runs
    rw [if_pos rfl, follows]
    exact finish_settled u
  | false =>
    have stops : u.running = false := run
    rw [if_neg (by decide)]
    exact whenRunning_of_not_running _ stops

/-! ## LIST through another command (R164) -/

/-- Where a layout finds LIST shown and shows it again, the pointer goes with its entry, or keeps its number. -/
theorem finish_list {s u : State} (place : Forward s u) (shown : s.cns.shown = some .list)
    (view : viewShown u = some .list) :
    (∀ n line, s.cns.selection = some n → u.messageList.findIdx? (·.entry = n) = some line →
      (finish u).cns.pointers.list = line) ∧
    ((∀ n, s.cns.selection = some n → ∀ m ∈ u.messageList, m.entry ≠ n) →
      (finish u).cns.pointers.list = min s.cns.pointers.list (u.messageList.length - 1)) := by
  obtain ⟨pointers, shown', selection⟩ := place.place
  have now : (finish u).cns.pointers.list = pointerNow u .list := by
    rw [(finish_pointers view).1]
    rfl
  have goes : pointerNow u .list = match s.cns.selection.bind (listLineOf u) with
      | some line => line
      | none => min s.cns.pointers.list (u.messageList.length - 1) := by
    simp only [pointerNow, shown', shown, listGoesOn, selection, pointers, if_true, pointerLimit] <;> rfl
  rw [now, goes]
  refine ⟨fun n line selects at_ => ?_, fun gone => ?_⟩
  · have found : s.cns.selection.bind (listLineOf u) = some line := by rw [selects]; exact at_
    rw [found]
  · have lost : s.cns.selection.bind (listLineOf u) = none := by
      cases selects : s.cns.selection with
      | none => rfl
      | some n =>
        rw [Option.bind_some, listLineOf, List.findIdx?_eq_none_iff]
        exact fun m hm => by simpa using gone n selects m hm
    rw [lost]

/-- Settles O26: the keys by the view, and LIST through every other command. -/
theorem viewKeysMoveThroughViews : Obligations.ViewKeysMoveThroughViews := by
  refine ⟨fun s => ⟨read_moves, clear_moves, fun k arrow taken => ?_⟩,
    fun c s up down again run follows wf view => ?_⟩
  · obtain ⟨u, heard, gives⟩ := arrow_moves_inRun arrow taken
    obtain ⟨-, -, dtc, -, -, -, -, fmr, -, mst, emu⟩ := heard.keeps
    obtain ⟨viewed, pointers, shown, -, -, shows⟩ := heard.console
    obtain ⟨others, list⟩ := arrow_moves (k := k) shows shown pointers mst
    obtain ⟨-, power⟩ := (keyTakenInRun_iff k s).1 taken
    refine ⟨_, gives, others, fun wf viewing => list wf ?_, by simp [viewed], by simp [dtc], by simp [fmr],
      by simp [mst], by simp [emu]⟩
    simp [viewShown, power, viewing]
  · obtain ⟨t, gives, answers⟩ := exec_runs c s up down again
    obtain ⟨showing, -, selects⟩ := follows run
    refine ⟨t, gives, fun runs shows => ?_⟩
    rcases answers.layout with stopped | ⟨u, rfl, forward⟩ | ⟨forward, mst⟩
    · rw [stopped] at runs
      cases runs
    · have list : (finish u).messageList = u.messageList := messageList_congr (by simp)
      rw [list]
      exact finish_list forward (showing.trans view) ((finish_settled u).viewShown ▸ shows)
    · obtain ⟨pointers, -, -⟩ := forward.place
      obtain ⟨_, within, _⟩ := follows run
      have bound : s.cns.pointers.list ≤ s.messageList.length - 1 := within .list view
      rw [pointers, messageList_congr mst]
      refine ⟨fun n line selected at_ => ?_, fun _ => (Nat.min_eq_left bound).symm⟩
      have entry : listEntryAt s s.cns.pointers.list = some n := (selects view).symm.trans selected
      have here : listLineOf s n = some s.cns.pointers.list := listLineOf_entryAt wf entry
      exact Option.some.inj (here.symm.trans at_)

end Sys2Proof.Machine
end

section
/-! PROOFS. The keys of a hire: HIRE, PAY, BREAK, the digits after EXTRA and TARIFF, and the meter's own rows. -/

namespace Sys2Proof.Machine

open Sys2Proof

-- The kernel's checks run one after another: side by side they ask for more threads than there is room for.
set_option Elab.async false

/-! ## HIRE (R3, R16, R107, R134) -/

/-- Entry into HIRED leaves what the abandoned contests' frames leave. -/
theorem enterHired_asked (s : State) :
    Asked { s with dtc := { s.dtc with duty := .hired }, ocu := (enterHired s).ocu } (enterHired s) := by
  unfold enterHired
  split
  · exact abandonContests_asked (setDuty .hired s)
  · exact Asked.refl _

/-- Settles O19: the refusals by FAULT and by the log, and the record opened. -/
theorem hireOpensNewHireOrIsRefused : Obligations.HireOpensNewHireOrIsRefused := by
  refine ⟨fun s taken duty => ⟨fun fault => ?_, fun sound full => ?_⟩, fun s a taken duty sound room active => ?_⟩
  · obtain ⟨u, heard, run⟩ := acceptKey_dropPrefix hireKey taken rfl
    obtain ⟨-, stc, dtc, -⟩ := heard.keeps
    have act : hireKey u = refused u := by
      rcases duty with d | d <;> simp [hireKey, dtc, d, takeNewHire, stc, fault, refuse_eq]
    exact ⟨u, _, heard, run, by rw [act]; exact finish_settled _⟩
  · obtain ⟨u, heard, run⟩ := acceptKey_dropPrefix hireKey taken rfl
    obtain ⟨-, stc, dtc, fre, -, nbt, ocu, fmr, tlu, mst, emu⟩ := heard.keeps
    have act : hireKey u = refuseLogFull u := by
      rcases duty with d | d <;>
        simp [hireKey, dtc, d, takeNewHire, stc, sound, takesHire, unreported_congr tlu, full]
    refine ⟨finish (refuseLogFull u), act ▸ run, ?_, ?_, ?_, ?_, ?_, ?_, ?_, fun place => ?_⟩
    · simp [refuseLogFull, dtc]
    · simp [refuseLogFull, fmr]
    · simp [refuseLogFull, tlu]
    · simp [refuseLogFull, ocu]
    · simp [refuseLogFull, fre]
    · simp [refuseLogFull, nbt]
    · simp [refuseLogFull, emu]
    · simpa using refuseLogFull_notice ((hasPlace_congr mst).trans place)
  · obtain ⟨u, heard, run⟩ := acceptKey_dropPrefix hireKey taken rfl
    obtain ⟨lines, stc, dtc, fre, -, -, ocu, -, tlu, -, emu⟩ := heard.keeps
    let id := if s.dtc.duty = .assigned then s.dtc.job.map (·.id) else none
    have act : hireKey u = enterHired (openHire a id u) := by
      rcases duty with d | d <;>
        simp [hireKey, dtc, d, takeNewHire, stc, sound, takesHire, unreported_congr tlu, room, tlu, active, jobId, id]
    have opened := enterHired_asked (openHire a id u)
    have minute : u.minute = s.minute := minute_congr dtc
    have time : u.time = s.time := by simp [State.time, dtc]
    have rates : ∀ r, a.enabledRates (firstTariff a s.minute) = some r →
        (openedHire a id u).current.rates = r := fun r enabled => by
      simp [openedHire, minute, enabled, openSegment]
    refine ⟨finish (enterHired (openHire a id u)), openedHire a id u, act ▸ run, ?hire, ?dtc, rfl, time, rfl, rfl, rfl,
      congrArg (firstTariff a) minute, rfl, rfl, rfl, rfl, rfl, rfl, rates, rfl, rfl, congrArg (·.config.pulsesPerKm) stc,
      congrArg (·.config.mmax) stc, congrArg (·.config.rounding) stc, rfl, rfl, rfl, rfl, rfl, rfl, ?interval, ?contests,
      ?offers, ?fre, ?lines, ?emu⟩
    case hire =>
      have kept : (enterHired (openHire a id u)).fmr = (openHire a id u).fmr := opened.fmr
      simp [kept, openHire]
    case dtc =>
      have kept : (enterHired (openHire a id u)).dtc = { u.dtc with duty := .hired } := opened.dtc
      simp [kept, dtc]
    case interval =>
      have kept : (enterHired (openHire a id u)).fmr = (openHire a id u).fmr := opened.fmr
      have now : (enterHired (openHire a id u)).now = u.now := opened.clocks.1
      simp [kept, openHire, now]
    case contests =>
      intro vacant
      have abandons : enterHired (openHire a id u) = abandonContests (setDuty .hired (openHire a id u)) := by
        simp [enterHired, openHire, dtc, vacant]
      rw [abandons]
      simpa [NoContestRuns] using abandonContests_noContestRuns (setDuty .hired (openHire a id u))
    case offers =>
      intro assigned
      have stays : enterHired (openHire a id u) = setDuty .hired (openHire a id u) := by
        simp [enterHired, openHire, dtc, assigned]
      rw [stays]
      simp [setDuty, openHire, ocu]
    case fre =>
      have kept : (enterHired (openHire a id u)).fre = u.fre := opened.fre
      simp [kept, fre]
    case lines =>
      have kept : (enterHired (openHire a id u)).lines = u.lines := opened.lines
      simp [kept, lines]
    case emu =>
      have kept : (enterHired (openHire a id u)).emu =
          { u.emu with clearDue := (enterHired (openHire a id u)).emu.clearDue } := opened.emu
      have same : (finish (enterHired (openHire a id u))).emu = (enterHired (openHire a id u)).emu := by simp
      rw [same, ← emu]
      exact kept

/-! ## PAY and the resume (R113, R115 to R117, R123) -/

/-- What an interval that closes leaves besides the hire. -/
theorem closeInterval_parts {s : State} {h : HireRecord} (second : Bool) (hire : s.fmr.hire = some h) :
    closeInterval second s = { s with
      fmr := { s.fmr with hire := some (h.charged second) }
      tlu := { s.tlu with implausible :=
        if h.mmax < h.intervalMetres then min 255 (s.tlu.implausible + 1) else s.tlu.implausible } } := by
  by_cases clamped : h.mmax < h.intervalMetres
  · simp [closeInterval, hire, HireRecord.clamped, clamped, countImplausible, satAdd]
  · simp [closeInterval, hire, HireRecord.clamped, clamped]

/-- The fare of a charged interval is the capped sum of what it charged. -/
theorem charged_fare (second : Bool) (h : HireRecord) :
    (h.charged second).fare = min 999999 (h.charged second).fareSum := rfl

/-- The partial interval has no second, so the waiting time stands (R112, R115). -/
theorem charged_waiting (h : HireRecord) : (h.charged false).waiting = h.waiting := by
  have same : (chargeSegment false h).at_ = h.current.at_ := by
    cases mode : timeMode h.current.rates h.metres with
    | true => rw [chargeSegment_time false h mode]; rfl
    | false => rw [chargeSegment_distance false h mode]; exact (addMetres_time _ _).1
  simp [HireRecord.waiting, HireRecord.segments, HireRecord.charged, HireRecord.withFare, same]

/-- What an interval charges by distance. -/
theorem charged_distance {h : HireRecord} (second : Bool)
    (mode : timeMode h.current.rates h.metres = false) :
    (h.charged second).current = addMetres ((h.charged second).totalMetres - h.totalMetres) h.current := by
  rw [HireRecord.charged_current, chargeSegment_distance second h mode]
  congr 1
  show h.metresAdded = h.totalMetres + h.metresAdded - h.totalMetres
  omega

/-- PAY outside FAULT stops the meter with the interval charged without its second (R115, R116). -/
theorem stopMeter_sound {s : State} {h : HireRecord} (hire : s.fmr.hire = some h) (sound : s.stc.fault = false) :
    stopMeter s = { s with
      fmr := { s.fmr with
        hire := some { h.charged false with payable := some (payableOf h.rounding (h.charged false).fare) }
        intervalSince := none }
      tlu := { s.tlu with implausible :=
        if h.mmax < h.intervalMetres then min 255 (s.tlu.implausible + 1) else s.tlu.implausible } } := by
  unfold stopMeter
  rw [sound, if_neg (by decide), closeInterval_parts false hire]
  rfl

/-- In FAULT PAY stops the meter with nothing charged (R123). -/
theorem stopMeter_fault {s : State} {h : HireRecord} (hire : s.fmr.hire = some h) (fault : s.stc.fault = true) :
    stopMeter s = { s with fmr := { s.fmr with
      hire := some { h with intervalMetres := 0, payable := some (payableOf h.rounding h.fare) }
      intervalSince := none } } := by
  simp [stopMeter, fault, hire]

theorem resumeMeter_eq {s : State} {h : HireRecord} (hire : s.fmr.hire = some h) :
    resumeMeter s = { s with fmr :=
      { hire := some { h with intervalMetres := 0, payable := none }
        intervalSince := if s.stc.fault then none else some s.now
        atInterval := some { h with intervalMetres := 0, payable := none } } } := by
  simp [resumeMeter, hire]

/-- Settles O20: the partial interval PAY charges, PAY in FAULT, and the resume. -/
theorem payStopsAndHireResumesMeter : Obligations.PayStopsAndHireResumesMeter := by
  intro s h hire
  refine ⟨fun taken hired sound => ?pay, fun taken hired fault => ?fault, fun taken paying => ?resume⟩
  case pay =>
    obtain ⟨u, heard, run⟩ := acceptKey_dropPrefix payKey taken rfl
    obtain ⟨-, stc, dtc, fre, -, nbt, ocu, fmr, tlu, mst, emu⟩ := heard.keeps
    let p : HireRecord := { h.charged false with payable := some (payableOf h.rounding (h.charged false).fare) }
    have act : payKey u = setDuty .paying (stopMeter u) := by simp [payKey, dtc, hired]
    have stopped := stopMeter_sound (s := u) (h := h) (by rw [fmr, hire]) (by rw [stc, sound])
    refine ⟨finish (setDuty .paying (stopMeter u)), p, act ▸ run, ?_, ?_, ?_, rfl, rfl, ?waiting, rfl, rfl, rfl, rfl,
      rfl, ?steps, ?time, ?distance, ?_⟩
    case waiting => exact charged_waiting h
    case steps =>
      cases mode : timeMode h.current.rates h.metres with
      | true => exact congrArg Segment.nt (chargeSegment_time false h mode)
      | false =>
        rw [show p.current.nt = _ from congrArg Segment.nt (chargeSegment_distance false h mode)]
        exact (addMetres_time _ _).2
    case time => exact fun mode => chargeSegment_time false h mode
    case distance => exact fun mode => charged_distance false mode
    all_goals rw [stopped]; simp [setDuty, p, dtc, fre, ocu, mst, emu, nbt, tlu]
  case fault =>
    obtain ⟨u, heard, run⟩ := acceptKey_dropPrefix payKey taken rfl
    obtain ⟨-, stc, dtc, -, -, -, -, fmr, -⟩ := heard.keeps
    have act : payKey u = setDuty .paying (stopMeter u) := by simp [payKey, dtc, hired]
    have stopped := stopMeter_fault (s := u) (h := h) (by rw [fmr, hire]) (by rw [stc, fault])
    exact ⟨u, _, heard, run, by rw [act, stopped]; exact finish_settled _⟩
  case resume =>
    obtain ⟨u, heard, run⟩ := acceptKey_dropPrefix hireKey taken rfl
    obtain ⟨-, stc, dtc, -, -, -, -, fmr, -⟩ := heard.keeps
    have act : hireKey u = setDuty .hired (resumeMeter u) := by simp [hireKey, dtc, paying]
    have resumed := resumeMeter_eq (s := u) (h := h) (by rw [fmr, hire])
    refine ⟨u, _, heard, run, ?_⟩
    rw [act, resumed, stc]
    exact finish_settled _

end Sys2Proof.Machine
end

section
/-! PROOFS. The break, the digits after EXTRA and TARIFF, and the pulses and intervals of the meter. -/

namespace Sys2Proof.Machine

open Sys2Proof

-- The kernel's checks run one after another: side by side they ask for more threads than there is room for.
set_option Elab.async false

/-! ## BREAK (R5, R8, R9) -/

/-- Settles O22: the entry into BREAK from VACANT and the entry into VACANT from BREAK. -/
theorem breakKeyBeginsAndEndsBreak : Obligations.BreakKeyBeginsAndEndsBreak := by
  intro s taken
  obtain ⟨u, heard, run⟩ := acceptKey_dropPrefix breakKey taken rfl
  obtain ⟨lines, stc, dtc, fre, -, nbt, ocu, fmr, tlu, -, emu⟩ := heard.keeps
  refine ⟨fun vacant => ?_, fun onBreak => ?_⟩
  · have act : breakKey u = enterIdleDuty .onBreak u := by simp [breakKey, dtc, vacant]
    obtain ⟨log, hold, left, -⟩ := enterIdleDuty_tlu .onBreak u
    obtain ⟨due, clear⟩ := enterIdleDuty_emu .onBreak u
    refine ⟨finish (enterIdleDuty .onBreak u), act ▸ run, ?_, appliesPendingSet_of_tlu ?_ ?_, ?_, ?_, ?_, ?_, ?_, ?_⟩
    · simp [dtc]
    · simp [left, tlu]
    · simp [left]
    · simpa [NoContestRuns] using enterIdleDuty_noContestRuns .onBreak u
    · simp [fmr]
    · simp [fre]
    · simp [lines]
    · simp [left, tlu]
    · simp [clear, emu]
  · have act : breakKey u = enterVacant u := by simp [breakKey, dtc, onBreak]
    have running : (finish (enterVacant u)).stc.power = .run := by
      simpa using enterVacant_power (s := u) (.inr (by rw [dtc, onBreak]))
    refine ⟨finish (enterVacant u), act ▸ run, ⟨?_, ?_, appliesPendingSet_of_tlu ?_ ?_⟩, running, ?_, ?_, ?_, ?_, ?_, ?_,
      ?_, ?_⟩ <;>
      simp [dtc, tlu, fmr, fre, nbt, ocu, emu]

/-! ## The prefixes and their digits (R119, R120, R171) -/

/-- The extra of a digit is left exactly where the digit names one with an amount below its greatest count. -/
theorem extraLeft_iff (h : HireRecord) (d : Nat) :
    (1 ≤ d ∧ d ≤ 4 ∧ h.amountOf d ≠ 0 ∧ h.extraLeft d = true) ↔ h.extraLeft d = true := by
  refine ⟨fun all => all.2.2.2, fun left => ?_⟩
  unfold HireRecord.extraLeft at left
  unfold HireRecord.amountOf HireRecord.extraLeft
  cases entry : h.extrasTable[d - 1]? with
  | none => simp [entry] at left
  | some x =>
    simp only [entry, Bool.and_eq_true, decide_eq_true_eq] at left ⊢
    exact ⟨left.1.1.1, left.1.1.2, left.1.2, left⟩

theorem extraDigit_refused {d : Nat} {s : State} {h : HireRecord} (hire : s.fmr.hire = some h)
    (none_ : ¬(h.extraLeft d = true ∧ s.stc.fault = false)) : extraDigit d s = none := by
  simp only [extraDigit, hire]
  refine if_neg fun all => none_ ?_
  simp only [Bool.and_eq_true, Bool.not_eq_true'] at all
  exact ⟨all.2, all.1.2⟩

/-- A digit after TARIFF in HIRED outside an emergency of the meter (R119). -/
theorem tariffDigit_enabled {d : Nat} {s : State} {h : HireRecord} {a : TariffSet} {r : Rates}
    (hire : s.fmr.hire = some h) (duty : s.dtc.duty = .hired) (active : s.tlu.active = some a)
    (rates : a.enabledRates d = some r) :
    tariffDigit d s =
      if h.current.tariffId ≠ d ∧ h.segments.length < 4 ∧ s.stc.fault = false then
        some { s with fmr := { s.fmr with hire := some (h.withTariff d r) } }
      else none := by
  have capacity : segmentCapacity = 4 := rfl
  simp only [tariffDigit, hire, active, Option.bind_some, rates, duty, capacity]
  cases s.stc.fault <;> simp

theorem tariffDigit_disabled {d : Nat} {s : State} {a : TariffSet} (active : s.tlu.active = some a)
    (rates : a.enabledRates d = none) : tariffDigit d s = none := by
  simp only [tariffDigit, active, Option.bind_some, rates]
  cases s.fmr.hire <;> rfl

/-- Counting one more of an extra leaves which entry of the list is an extra's. -/
theorem find?_counted (id j : Nat) (l : List ExtraUse) :
    (updateWhere (fun x : ExtraUse => decide (x.id = id)) (fun x => { x with count := x.count + 1 }) l).find?
        (fun x => decide (x.id = j)) =
      (l.find? fun x => decide (x.id = j)).map fun x => if x.id = id then { x with count := x.count + 1 } else x := by
  simp only [find?_updateWhere (fun x : ExtraUse => decide (x.id = id))
    (fun x : ExtraUse => decide (x.id = j)) (fun x => { x with count := x.count + 1 }) l
    fun _ _ => rfl, decide_eq_true_eq]

/-- The count of an extra after one more of it. -/
theorem withExtra_countOf_same (h : HireRecord) (id : Nat) : (h.withExtra id).countOf id = h.countOf id + 1 := by
  show (match (h.moreExtra id).find? (·.id = id) with | some x => x.count | none => 0) = _
  unfold HireRecord.moreExtra HireRecord.countOf
  by_cases listed : h.extras.any (·.id = id) = true
  · rw [if_pos listed, find?_counted]
    obtain ⟨x, mem, is⟩ := List.any_eq_true.mp listed
    cases first : h.extras.find? (·.id = id) with
    | none => exact absurd is (List.find?_eq_none.mp first x mem)
    | some y =>
      have named : y.id = id := by simpa using List.find?_some first
      simp [named]
  · have missing : h.extras.find? (·.id = id) = none := by simpa using listed
    rw [if_neg listed, List.find?_append, missing]
    simp

/-- One more of an extra leaves the counts of the others. -/
theorem withExtra_countOf_other (h : HireRecord) {id j : Nat} (other : j ≠ id) :
    (h.withExtra id).countOf j = h.countOf j := by
  show (match (h.moreExtra id).find? (·.id = j) with | some x => x.count | none => 0) = _
  unfold HireRecord.moreExtra HireRecord.countOf
  by_cases listed : h.extras.any (·.id = id) = true
  · rw [if_pos listed, find?_counted]
    cases first : h.extras.find? (·.id = j) with
    | none => rfl
    | some y =>
      have is : y.id = j := by simpa using List.find?_some first
      simp [is, other]
  · rw [if_neg listed, List.find?_append]
    cases h.extras.find? (·.id = j) <;> simp [Ne.symm other]

theorem withExtra_charges (h : HireRecord) (id : Nat) :
    (h.withExtra id).countOf id = h.countOf id + 1 ∧
    (∀ j, j ≠ id → (h.withExtra id).countOf j = h.countOf j) ∧
    (h.withExtra id).fare = min 999999 (h.withExtra id).fareSum ∧
    (h.withExtra id).flags.cap = (h.flags.cap || decide (999999 < (h.withExtra id).fareSum)) ∧
    (h.withExtra id).payable = h.payable.map (fun _ => payableOf h.rounding (h.withExtra id).fare) ∧
    (h.withExtra id).closed = h.closed ∧ (h.withExtra id).current = h.current ∧
    (h.withExtra id).totalMetres = h.totalMetres :=
  ⟨withExtra_countOf_same h id, fun _ other => withExtra_countOf_other h other, rfl, rfl, rfl, rfl, rfl, rfl⟩

/-- What the digit after EXTRA or TARIFF leaves: what it charged with that key dropped, or a refusal. -/
def digitTaken (charged : Option State) (u : State) : State :=
  match charged with
  | some t => dropPrefix t
  | none => refused u

theorem prefixDigit_eq (p : KeyPrefix) (d : Fin 10) (u : State) :
    prefixDigit p d u = digitTaken (match p with | .extra => extraDigit d.val u | .tariff => tariffDigit d.val u) u := by
  cases p <;> simp only [prefixDigit, refuse_eq] <;> rfl

/-- A digit with EXTRA or TARIFF held, without an emergency, goes to the meter (R171). -/
theorem digit_withPrefix {s : State} {d : Fin 10} {p : KeyPrefix} (taken : keyTaken (.digit d) s = true)
    (idle : s.emu.state = .idle) (held : s.cns.keyPrefix = some p) :
    ∃ u, KeyHeard (.digit d) s.cns.keyPrefix s u ∧
      (∀ v, prefixDigit p d u = v → v.emu = u.emu → ∃ t, exec (.digit d) s = .next t ∧ Settled v t) := by
  obtain ⟨u, heard, run⟩ := acceptKey_taken (digitRoute d) taken (.inr rfl)
  obtain ⟨-, -, -, -, -, -, -, -, -, -, emu⟩ := heard.keeps
  have pending : u.cns.keyPrefix = some p := by
    obtain ⟨_, _, -, -, rfl⟩ := heard
    exact held
  refine ⟨u, heard, fun v digit kept => ?_⟩
  have route := digitRoute_pending d pending (by rw [digit, kept, emu, idle])
  exact ⟨finish v, by rw [← digit, ← route]; exact run, finish_settled v⟩

/-- Settles O25: the prefixes, their digits at the meter, and the count and fare of an extra. -/
theorem prefixDigitChargesExtraOrTariff : Obligations.PrefixDigitChargesExtraOrTariff := by
  refine ⟨fun s => ⟨fun taken open_ => ?extra, fun taken open_ => ?tariff, fun d h taken idle hire =>
    ⟨fun held duty => ?extraDigit, fun held duty a active => ?tariffDigit⟩⟩, withExtra_charges⟩
  case extra =>
    obtain ⟨u, heard, run⟩ := acceptKey_dropPrefix extraKey taken rfl
    obtain ⟨-, -, dtc, -⟩ := heard.keeps
    have duty : s.dtc.duty = .hired ∨ s.dtc.duty = .paying := by simpa [keyAvailable] using open_
    have act : extraKey u = setPrefix .extra u := by
      rcases duty with d | d <;> simp [extraKey, dtc, d]
    exact ⟨u, _, heard, run, by rw [act]; exact finish_settled _⟩
  case tariff =>
    obtain ⟨u, heard, run⟩ := acceptKey_dropPrefix tariffPrefixKey taken rfl
    obtain ⟨-, -, dtc, -⟩ := heard.keeps
    have duty : s.dtc.duty = .hired := by simpa [keyAvailable] using open_
    have act : tariffPrefixKey u = setPrefix .tariff u := by simp [tariffPrefixKey, dtc, duty]
    exact ⟨u, _, heard, run, by rw [act]; exact finish_settled _⟩
  case extraDigit =>
    obtain ⟨u, heard, answer⟩ := digit_withPrefix taken idle held
    obtain ⟨-, stc, dtc, -, -, -, -, fmr, -⟩ := heard.keeps
    have hire' : u.fmr.hire = some h := by rw [fmr, hire]
    refine ⟨u, ?_⟩
    by_cases left : h.extraLeft d.val = true ∧ s.stc.fault = false
    · have named := (extraLeft_iff h d.val).mpr left.1
      rw [if_pos ⟨named.1, named.2.1, named.2.2.1, left⟩]
      obtain ⟨t, run, settled⟩ := answer
        { u with
          fmr := { u.fmr with hire := some (h.withExtra d.val) }
          cns := { u.cns with keyPrefix := none } }
        (by simp only [prefixDigit_eq, extraDigit_taken hire' (by rwa [dtc]) (by rw [stc, left.2]) left.1]; rfl) rfl
      exact ⟨t, heard, run, settled⟩
    · rw [if_neg fun all => left all.2.2.2]
      obtain ⟨t, run, settled⟩ := answer (refused u)
        (by simp only [prefixDigit_eq, extraDigit_refused hire' (by rwa [stc])]; rfl) rfl
      exact ⟨t, heard, run, settled⟩
  case tariffDigit =>
    obtain ⟨u, heard, answer⟩ := digit_withPrefix taken idle held
    obtain ⟨-, stc, dtc, -, -, -, -, fmr, tlu, -⟩ := heard.keeps
    have hire' : u.fmr.hire = some h := by rw [fmr, hire]
    have active' : u.tlu.active = some a := by rw [tlu, active]
    refine ⟨u, ?_⟩
    cases rates : a.enabledRates d.val with
    | none =>
      obtain ⟨t, run, settled⟩ := answer (refused u)
        (by simp only [prefixDigit_eq, tariffDigit_disabled active' rates]; rfl) rfl
      exact ⟨t, heard, run, settled⟩
    | some r =>
      have digit := tariffDigit_enabled hire' (by rw [dtc, duty]) active' rates
      by_cases opens : h.current.tariffId ≠ d.val ∧ h.segments.length < 4 ∧ s.stc.fault = false
      · rw [if_pos (by rwa [stc])] at digit
        simp only [if_pos opens]
        obtain ⟨t, run, settled⟩ := answer
          { u with
            fmr := { u.fmr with hire := some (h.withTariff d.val r) }
            cns := { u.cns with keyPrefix := none } }
          (by simp only [prefixDigit_eq, digit]; rfl) rfl
        exact ⟨t, heard, run, settled⟩
      · rw [if_neg (by rwa [stc])] at digit
        simp only [if_neg opens]
        obtain ⟨t, run, settled⟩ := answer (refused u) (by simp only [prefixDigit_eq, digit]; rfl) rfl
        exact ⟨t, heard, run, settled⟩

/-! ## Pulses and intervals (R109 to R114, R124) -/

theorem countPulse_of_still {s : State} (still : s.dtc.duty ≠ .hired ∨ s.stc.fault = true) : countPulse s = s := by
  unfold countPulse
  cases s.fmr.hire with
  | none => rfl
  | some h =>
    refine if_neg fun moving => ?_
    simp only [Bool.and_eq_true, decide_eq_true_eq, Bool.not_eq_true'] at moving
    rcases still with other | fault
    · exact other moving.1
    · rw [moving.2] at fault
      exact absurd fault (by decide)

theorem countPulse_of_moving {s : State} {h : HireRecord} (hire : s.fmr.hire = some h)
    (hired : s.dtc.duty = .hired) (sound : s.stc.fault = false) :
    countPulse s = { s with fmr := { s.fmr with hire := some { h with
      residue := (h.residue + 1000) % h.pulsesPerKm
      intervalMetres := h.intervalMetres + (h.residue + 1000) / h.pulsesPerKm } } } := by
  simp [countPulse, hire, hired, sound]

/-- What an interval's end leaves in the segment, by the mode of the interval (R112, R113). -/
theorem charged_timeMode {h : HireRecord} (mode : timeMode h.current.rates h.metres = true) :
    (h.charged true).current = if h.waiting < 359999 then addSecond h.current else h.current := by
  rw [HireRecord.charged_current, chargeSegment_time true h mode]
  by_cases left : h.waiting < 359999 <;> simp [waitingCap, left]

theorem addSecond_keeps (g : Segment) :
    (addSecond g).at_ = g.at_ + 1 ∧ (addSecond g).ad = g.ad ∧ (addSecond g).nd = g.nd := by
  unfold addSecond
  split <;> exact ⟨rfl, rfl, rfl⟩

/-- An interval's end in HIRED outside FAULT. -/
theorem intervalEnd_gives {s : State} {h : HireRecord} {since : Moment} (running : s.running = true)
    (hire : s.fmr.hire = some h) (hired : s.dtc.duty = .hired) (sound : s.stc.fault = false)
    (timer : s.fmr.intervalSince = some since) :
    Gives .intervalEnd s { s with
      now := max s.now (since + 1000)
      fmr := ⟨some (h.charged true), some (since + 1000), some (h.charged true)⟩
      tlu := { s.tlu with implausible :=
        if h.mmax < h.intervalMetres then min 255 (s.tlu.implausible + 1) else s.tlu.implausible } } := by
  refine gives_of_whenRunning rfl running ?_
  have closed := closeInterval_parts (s := s.reach (since + 1000)) (h := h) true (by simpa [State.reach] using hire)
  simp only [timer, hired, sound, closed]
  rfl

/-- Settles O29: the pulse's residue and metres, and the end of an interval. -/
theorem pulsesAndIntervalsCharge : Obligations.PulsesAndIntervalsCharge := by
  intro s h running hire
  refine ⟨fun still => gives_of_whenRunning rfl running (countPulse_of_still still), fun hired sound =>
    ⟨gives_of_whenRunning rfl running (countPulse_of_moving hire hired sound), fun since timer => ?_⟩⟩
  obtain ⟨t, run, settled⟩ := intervalEnd_gives running hire hired sound timer
  obtain ⟨-, dtc, fre, nbt, ocu, fmr, tlu, mst, emu, now, -⟩ := settled.keeps
  refine ⟨t, h.charged true, run, fmr, now, rfl, rfl, rfl, rfl, rfl, rfl, fun byTime => ?_, fun byDistance => ?_, rfl,
    rfl, tlu, dtc, fre, nbt, ocu, mst, emu⟩
  · have current := charged_timeMode (h := h) (decide_eq_true byTime)
    obtain ⟨seconds, metres, steps⟩ := addSecond_keeps h.current
    rw [current]
    split <;> simp [seconds, metres, steps]
  · have current := charged_distance (h := h) true (decide_eq_false byDistance)
    rw [current]
    exact ⟨addMetres_ad _ _, (addMetres_time _ _).1, (addMetres_time _ _).2, rfl⟩

end Sys2Proof.Machine
end

section
/-! PROOFS. Frames that stay while the store loses entries; the end of a hire; the won offer taken or given up. -/

namespace Sys2Proof.Machine

open Sys2Proof

-- The kernel's checks run one after another: side by side they ask for more threads than there is room for.
set_option Elab.async false

/-! ## A frame alone under its number (R44, R49) -/

/-- A frame stands in the queue, and no other under its number. -/
def StandsAlone (e : QueueEntry) (s : State) : Prop :=
  e ∈ s.cau.queue ∧ ∀ x ∈ s.cau.queue, x.number = e.number → x = e

theorem standsAlone_congr {e : QueueEntry} {s t : State} (cau : t.cau = s.cau) :
    StandsAlone e t ↔ StandsAlone e s := by
  unfold StandsAlone
  rw [cau]

/-- Each frame has a number of its own, below the next one (R44). -/
def NumbersOnce (s : State) : Prop :=
  (s.cau.queue.map (·.number)).Nodup ∧ ∀ e ∈ s.cau.queue, e.number < s.cau.nextEntry

theorem numbersOnce_congr {s t : State} (cau : t.cau = s.cau) : NumbersOnce t ↔ NumbersOnce s := by
  unfold NumbersOnce
  rw [cau]

theorem QueueWf.numbers {s : State} (wf : QueueWf s) : NumbersOnce s := by
  obtain ⟨-, -, numbers, below, -⟩ := wf
  exact ⟨numbers, fun e he => (below e he).1⟩

theorem NumbersOnce.standsAlone {s : State} (once : NumbersOnce s) {e : QueueEntry} (mem : e ∈ s.cau.queue) :
    StandsAlone e s :=
  ⟨mem, fun _ hx same => List.inj_on_of_nodup_map once.1 hx mem same⟩

/-- The entry a request is admitted as. -/
def admitted (q : Request) (s : State) : QueueEntry :=
  { number := s.cau.nextEntry, req := q, enqueued := s.now, retries := 0, backoff := none, seq := none }

theorem admitted_mem (q : Request) (s : State) : admitted q s ∈ (admitEntry q s).cau.queue :=
  mem_insertEntry.mpr (.inl rfl)

/-- A frame just admitted stands alone: its number is greater than every other. -/
theorem admitEntry_standsAlone (q : Request) {s : State} (once : NumbersOnce s) :
    StandsAlone (admitted q s) (admitEntry q s) := by
  refine ⟨admitted_mem q s, fun x hx same => ?_⟩
  rcases mem_insertEntry.mp hx with rfl | old
  · rfl
  · exact absurd same (once.2 x old).ne

theorem dequeue_standsAlone {n : Nat} {e : QueueEntry} {s : State} (stands : StandsAlone e s) (other : e.number ≠ n) :
    StandsAlone e (dequeue n s) :=
  ⟨List.mem_filter.mpr ⟨stands.1, by simpa using other⟩, fun x hx => stands.2 x (List.mem_filter.mp hx).1⟩

/-- The removal of a frame of another kind leaves a frame that stands alone (R49). -/
theorem removeFrame_standsAlone {kind : FrameKind} (tag : Tag) {e : QueueEntry} {s : State} (stands : StandsAlone e s)
    (other : e.req.kind ≠ kind) : StandsAlone e (removeFrame kind tag s) := by
  have taken : ∀ u : State, StandsAlone e u →
      ∀ x, u.cau.queue.find? (fun e => e.req.kind = kind && e.req.tag = tag) = some x → StandsAlone e (dequeue x.number u) := by
    intro u stands x found
    refine dequeue_standsAlone stands fun same => other ?_
    have is := List.find?_some found
    simp only [Bool.and_eq_true, decide_eq_true_eq] at is
    rw [← stands.2 x (List.mem_of_find?_eq_some found) same.symm]
    exact is.1
  have unheld : StandsAlone e (match s.cau.held with
      | some q => if q.kind = kind && q.tag = tag then { s with cau := { s.cau with held := none } } else s
      | none => s) := by
    split
    · split <;> exact stands
    · exact stands
  unfold removeFrame
  dsimp only
  split
  · exact unheld
  · rename_i x found
    split
    · split
      · exact unheld
      · exact taken _ unheld x found
    · exact taken _ unheld x found

@[simp] theorem freeMsg_cau (n : Nat) (s : State) : (freeMsg n s).cau = s.cau := by
  unfold freeMsg
  dsimp only
  split <;> rfl

/-! A frame that is no reply stays while entries leave the store (R147, R151, R156). -/

section
variable {e : QueueEntry} {s : State}

theorem removeMsg_standsAlone (n : Nat) (stands : StandsAlone e s) (other : e.req.kind ≠ .msg) :
    StandsAlone e (removeMsg n s) := by
  have freed : StandsAlone e (freeMsg n s) := (standsAlone_congr (by simp)).mpr stands
  unfold removeMsg
  split
  · exact stands
  · dsimp only
    split
    · exact removeFrame_standsAlone _ freed other
    · exact freed

theorem takePlace_standsAlone (stands : StandsAlone e s) (other : e.req.kind ≠ .msg) : StandsAlone e (takePlace s) := by
  unfold takePlace
  split
  · exact stands
  · split
    · exact removeMsg_standsAlone _ stands other
    · exact stands

theorem raiseNotice_standsAlone (key : NoticeKey) (pin : Bool) (text : List Byte) (stands : StandsAlone e s)
    (other : e.req.kind ≠ .msg) : StandsAlone e (raiseNotice key pin text s) := by
  have added : ∀ {m : MsgEntry} {u : State}, StandsAlone e u → StandsAlone e (addMsg m u) := fun h => h
  unfold raiseNotice
  split
  · exact added (removeMsg_standsAlone _ stands other)
  · split
    · exact added (takePlace_standsAlone stands other)
    · split
      · exact added (removeMsg_standsAlone _ stands other)
      · exact stands

theorem applyPendingSet_standsAlone (stands : StandsAlone e s) (other : e.req.kind ≠ .msg) :
    StandsAlone e (applyPendingSet s) := by
  unfold applyPendingSet
  split
  · exact raiseNotice_standsAlone _ _ _ ((standsAlone_congr rfl).mpr stands) other
  · exact stands

theorem toRun_cau (s : State) : (toRun s).cau = s.cau := by
  unfold toRun
  split
  · rfl
  · simp

theorem enterVacant_standsAlone (stands : StandsAlone e s) (other : e.req.kind ≠ .msg) :
    StandsAlone e (enterVacant s) := by
  have applied : StandsAlone e (applyPendingSet { s with dtc := { s.dtc with duty := .vacant, vacantSeconds := 0 } }) :=
    applyPendingSet_standsAlone ((standsAlone_congr rfl).mpr stands) other
  unfold enterVacant
  dsimp only
  split
  · exact (standsAlone_congr (toRun_cau _)).mpr applied
  · exact applied

end

/-! ## A record appended and reported (R133, R135) -/

/-- The record that is appended. -/
def newRecord (body : LogBody) (s : State) : LogRecord := { number := s.tlu.nextRecord, body := body, state := .unsent }

/-- The state with a record appended, before the report test. -/
def withRecord (body : LogBody) (s : State) : State :=
  { s with tlu := { s.tlu with
    log := roomInLog s.tlu.log ++ [newRecord body s]
    nextRecord := s.tlu.nextRecord + 1 } }

theorem appendRecord_room {body : LogBody} {s : State} (room : (roomInLog s.tlu.log).length < logCapacity) :
    appendRecord body s = reportTest (withRecord body s) :=
  if_pos room

/-- A record that leaves for another is a REPORTED one: any other stays. -/
theorem mem_removeFirst_of_not {α : Type} {p : α → Bool} {l : List α} {a : α} (mem : a ∈ l) (stays : p a = false) :
    a ∈ removeFirst p l := by
  induction l with
  | nil => cases mem
  | cons b l ih =>
    unfold removeFirst
    rcases List.mem_cons.mp mem with rfl | mem
    · simp [stays]
    · split
      · exact mem
      · exact List.mem_cons_of_mem _ (ih mem)

theorem find?_removeFirst_of_not {α : Type} {p q : α → Bool} (apart : ∀ a, p a = true → q a = false) (l : List α) :
    (removeFirst p l).find? q = l.find? q := by
  induction l with
  | nil => rfl
  | cons a l ih =>
    unfold removeFirst
    by_cases leaves : p a = true
    · rw [if_pos leaves, List.find?_cons, apart a leaves]
    · rw [if_neg leaves, List.find?_cons, List.find?_cons, ih]

theorem mem_roomInLog {l : List LogRecord} {r : LogRecord} (mem : r ∈ l) (unreported : r.state ≠ .reported) :
    r ∈ roomInLog l := by
  unfold roomInLog
  split
  · exact mem
  · exact mem_removeFirst_of_not mem (by simpa using unreported)

theorem oldestUnsent_withRecord (body : LogBody) (s : State) :
    oldestUnsent (withRecord body s) = some ((oldestUnsent s).getD (newRecord body s)) := by
  have older : (roomInLog s.tlu.log).find? (·.state = .unsent) = oldestUnsent s := by
    unfold roomInLog
    split
    · rfl
    · exact find?_removeFirst_of_not (fun r reported => by simp_all) _
  show (roomInLog s.tlu.log ++ [newRecord body s]).find? (·.state = .unsent) = _
  rw [List.find?_append, older]
  cases oldestUnsent s <;> rfl

/-- With the conditions of R135 and room for the FARE the oldest UNSENT record goes IN_FLIGHT. -/
theorem reportTest_reports {s : State} {r : LogRecord} (may : mayReport s = true) (oldest : oldestUnsent s = some r)
    (short : s.cau.queue.length < 16) (noFare : ∀ q ∈ s.cau.queue, q.req.kind ≠ .fare) :
    reportTest s = (admitEntry (fareRequest s r.number) s).setReport r.number .inFlight := by
  have queued : requestFrame (fareRequest s r.number) s = (admitEntry (fareRequest s r.number) s, .queued) :=
    requestFrame_room short nofun (fun e he both => noFare e he both.2) nofun (fun _ => noFare) nofun
  unfold reportTest
  rw [if_pos may, oldest]
  dsimp only
  rw [queued]
  exact if_neg nofun

theorem reportTest_waits {s : State} (mayNot : mayReport s = false) : reportTest s = s := by
  simp [reportTest, mayNot]

/-- The conditions of the report test with a new record, which is not IN_FLIGHT. -/
theorem mayReport_withRecord {body : LogBody} {s : State} (home : s.homeReachable = true)
    (landed : ∀ x ∈ s.tlu.log, x.state ≠ .inFlight) (free : s.tlu.hold = none) :
    mayReport (withRecord body s) = true := by
  have none : (withRecord body s).tlu.log.any (·.state = .inFlight) = false := by
    rw [List.any_eq_false]
    intro x hx
    rcases List.mem_append.mp hx with old | new
    · simpa using landed x ((roomInLog_sublist _).subset old)
    · simp [List.mem_singleton.mp new, newRecord]
  have reach : (withRecord body s).homeReachable = true := home
  have hold : (withRecord body s).tlu.hold = Option.none := free
  simp [mayReport, none, reach, hold]

theorem mayReport_withRecord_false {body : LogBody} {s : State}
    (put : s.homeReachable = false ∨ (∃ x ∈ s.tlu.log, x.state = .inFlight) ∨ s.tlu.hold.isSome = true) :
    mayReport (withRecord body s) = false := by
  rcases put with away | ⟨x, mem, flies⟩ | held
  · have reach : (withRecord body s).homeReachable = false := away
    simp [mayReport, reach]
  · have some : (withRecord body s).tlu.log.any (·.state = .inFlight) = true :=
      List.any_eq_true.mpr ⟨x, List.mem_append_left _ (mem_roomInLog mem (by simp [flies])), by simpa using flies⟩
    simp [mayReport, some]
  · have hold : (withRecord body s).tlu.hold.isNone = false := by
      have same : (withRecord body s).tlu.hold = s.tlu.hold := rfl
      rw [same]
      cases hold : s.tlu.hold <;> simp_all
    simp [mayReport, hold]

end Sys2Proof.Machine
end

section
/-! PROOFS. VACANT at the end of a hire, ACCEPT and DECLINE at the won offer. -/

namespace Sys2Proof.Machine

open Sys2Proof

-- The kernel's checks run one after another: side by side they ask for more threads than there is room for.
set_option Elab.async false

/-! ## The job record cleared, VACANT entered (R8, R12) -/

@[simp] theorem clearJob_dtc (s : State) : (clearJob s).dtc = { s.dtc with job := none } := by
  unfold clearJob
  split
  · rfl
  · rename_i none
    rw [← none]

/-- The TAKEN entry of the job record leaves with it (R12, R104). -/
theorem clearJob_frees {s : State} {j : JobRecord} (job : s.dtc.job = some j) :
    ∀ e ∈ (clearJob s).ocu.offers, ¬(e.id = j.id ∧ e.state = .taken) := by
  intro e he both
  have left : e ∈ s.ocu.offers.filter fun e => !(e.id = j.id && e.state = .taken) := by
    unfold clearJob at he
    rwa [job] at he
  simpa [both] using (List.mem_filter.mp left).2

/-- A set that waits is in force after VACANT is entered and the levels are followed. -/
theorem finish_entersVacant {s x : State} (active : x.tlu.active = s.tlu.active)
    (pending : x.tlu.pendingSet = s.tlu.pendingSet) : EntersVacant s (finish (enterVacant x)) :=
  ⟨by simp, by simp, appliesPendingSet_of_tlu (by simp [active, pending]) (by simp)⟩

/-- A frame that is no reply and stands alone stays in the queue while VACANT is entered. -/
theorem finish_enterVacant_queue {e : QueueEntry} {x : State} (stands : StandsAlone e x) (other : e.req.kind ≠ .msg) :
    e ∈ (finish (enterVacant x)).cau.queue := by
  simpa using (enterVacant_standsAlone stands other).1

theorem homeReachable_congr {s t : State} (stc : t.stc = s.stc) (nbt : t.nbt = s.nbt) :
    t.homeReachable = s.homeReachable := by
  simp only [State.homeReachable, State.neighbour, State.age, stc, nbt] <;> rfl

/-! ## The end of a hire (R4, R118, R132, R135, R137) -/

/-- The state that takes an ended hire over: the totals increased, no hire at the meter. -/
def handedOver (h : HireRecord) (s : State) : State :=
  { s with
    fmr := Fmr.reset
    tlu := { s.tlu with totals := s.tlu.totals.withHire h } }

/-- The record of an ended hire. -/
def endedReport (h : HireRecord) (conflict : Bool) (s : State) : HireReport :=
  hireReport (s.tlu.totals.withHire h).hires (h.ended conflict s.time)

/-- The conflict of the job record, as the ended hire is marked with it. -/
def jobConflict (s : State) : Bool := (s.dtc.job.map (·.conflict)).getD false

theorem endHireToVacant_eq {s : State} {h : HireRecord} (hire : s.fmr.hire = some h) :
    endHireToVacant s =
      enterVacant (clearJob (appendRecord (.hire (endedReport h (jobConflict s) s)) (handedOver h s))) := by
  have ends : endHireToVacant s = enterVacant (clearJob (endHire (jobConflict s) s)) := by
    unfold endHireToVacant jobConflict
    cases s.dtc.job <;> rfl
  rw [ends, endHire, hire]
  rfl

/-- Settles O21: the totals, the HIRE record and its report where a hire ends. -/
theorem vacantEndsHireAndAppendsRecord : Obligations.VacantEndsHireAndAppendsRecord := by
  intro s h taken paying hire room short
  obtain ⟨u, heard, run⟩ := acceptKey_dropPrefix vacantKey taken rfl
  obtain ⟨lines, stc, dtc, fre, cau, nbt, ocu, fmr, tlu, -, emu⟩ := heard.keeps
  let w : State := handedOver h u
  let body : LogBody := .hire (endedReport h (jobConflict u) u)
  let v : State := appendRecord body w
  have act : vacantKey u = enterVacant (clearJob v) := by
    have ends := endHireToVacant_eq (s := u) (h := h) (by rw [fmr, hire])
    simpa [vacantKey, dtc, paying] using ends
  have fits : (roomInLog w.tlu.log).length < logCapacity := by
    have few : unreported u < 64 := by
      rw [unreported_congr tlu]
      omega
    exact roomInLog_length_lt (s := u) (by rwa [tlu]) few
  have asked : Asked (withRecord body w) v := appendRecord_asked body fits
  have vdtc : v.dtc = s.dtc := asked.dtc.trans dtc
  have wtlu : w.tlu = { s.tlu with totals := s.tlu.totals.withHire h } :=
    congrArg (fun x : Tlu => { x with totals := x.totals.withHire h }) tlu
  have vtlu : v.tlu = { s.tlu with
      totals := s.tlu.totals.withHire h, nextRecord := s.tlu.nextRecord + 1, log := v.tlu.log, hold := v.tlu.hold } := by
    have kept : v.tlu = { w.tlu with
        nextRecord := w.tlu.nextRecord + 1, log := v.tlu.log, hold := v.tlu.hold } := asked.tlu
    rwa [wtlu] at kept
  have wcau : (withRecord body w).cau = s.cau := cau
  have reach : w.homeReachable = s.homeReachable := homeReachable_congr stc nbt
  have next : (newRecord body w).number = s.tlu.nextRecord := by
    show w.tlu.nextRecord = _
    rw [wtlu]
  have totals : v.tlu.totals = s.tlu.totals.withHire h := by
    rw [vtlu]
  have entered : (finish (enterVacant (clearJob v))).tlu.totals = s.tlu.totals.withHire h := by simp [totals]
  have logged : (finish (enterVacant (clearJob v))).tlu.log = v.tlu.log := by simp
  have held : (finish (enterVacant (clearJob v))).tlu.hold = v.tlu.hold := by simp
  refine ⟨finish (enterVacant (clearJob v)), act ▸ run, finish_entersVacant ?active ?pending, ?hire, ?interval, ?job,
    ?freed, ?_, ?_, ?_, ?_, ?_, ?_, ?record, ?reports, ?waits, ?lines, ?fre, ?emu⟩
  case active => simpa using congrArg Tlu.active vtlu
  case pending => simpa using congrArg Tlu.pendingSet vtlu
  case hire =>
    have kept : v.fmr = Fmr.reset := asked.fmr
    simp [kept, Fmr.reset]
  case interval =>
    have kept : v.fmr = Fmr.reset := asked.fmr
    simp [kept, Fmr.reset]
  case job => simp
  case freed =>
    intro j job e he
    exact clearJob_frees (s := v) (by rw [vdtc, job]) e (by simpa using he)
  case record =>
    obtain ⟨r, mem, number, is⟩ := record_of_log_map (r := newRecord body w)
      (List.mem_append_right _ (List.mem_singleton_self _)) asked.log
    refine ⟨r, by rw [logged]; exact mem, number.trans next, is.trans ?_⟩
    rw [entered]
    show LogBody.hire (endedReport h (jobConflict u) u) = _
    unfold endedReport jobConflict
    rw [tlu, dtc, ← minute_congr dtc]
    rfl
  case reports =>
    intro home landed free wf few noFare
    let r : LogRecord := (oldestUnsent w).getD (newRecord body w)
    have oldest : oldestUnsent (withRecord body w) = some r := oldestUnsent_withRecord body w
    have reported : v = (admitEntry (fareRequest w r.number) (withRecord body w)).setReport r.number .inFlight :=
      (appendRecord_room fits).trans (reportTest_reports
        (mayReport_withRecord (reach.trans home) (by rwa [wtlu]) (by rwa [wtlu])) oldest (by rwa [wcau]) (by rwa [wcau]))
    have stands : StandsAlone (admitted (fareRequest w r.number) (withRecord body w)) (clearJob v) := by
      refine (standsAlone_congr ?_).mpr (admitEntry_standsAlone (fareRequest w r.number) (s := withRecord body w) ?_)
      · simp [reported]
      · exact (numbersOnce_congr wcau).mpr wf.numbers
    refine ⟨{ r with state := .inFlight }, ?_, rfl, ?_, _, finish_enterVacant_queue stands nofun, ?_⟩
    · rw [logged, reported]
      exact mem_updateWhere.mpr ⟨r, List.mem_of_find?_eq_some oldest, by simp⟩
    · show r.number = _
      have older : oldestUnsent w = s.tlu.log.find? (·.state = .unsent) := by
        unfold oldestUnsent
        rw [wtlu]
      simp only [r, older]
      cases s.tlu.log.find? (·.state = .unsent) with
      | some x => rfl
      | none => exact next
    · show fareRequest w r.number = _
      rw [fareRequest]
      show _ = (⟨_, _, _, _, _, .fareRecord r.number⟩ : Request)
      rw [show w.stc = s.stc from stc]
  case waits =>
    intro put
    have stays : v = withRecord body w := (appendRecord_room fits).trans
      (reportTest_waits (mayReport_withRecord_false (by rwa [reach, wtlu])))
    refine ⟨?_, newRecord body w, ?_, next, rfl⟩
    · rw [held, stays]
      show w.tlu.hold = _
      rw [wtlu]
    · rw [logged, stays]
      exact List.mem_append_right _ (List.mem_singleton_self _)
  case lines =>
    have kept : v.lines = s.lines := asked.lines.trans lines
    simp [kept]
  case fre =>
    have kept : v.fre = s.fre := asked.fre.trans fre
    simp [kept]
  case emu =>
    have kept : v.emu = { s.emu with clearDue := v.emu.clearDue } := by
      rw [← emu]
      exact asked.emu
    have same : (finish (enterVacant (clearJob v))).emu = v.emu := by simp
    rw [same]
    exact kept
  all_goals
    rw [entered]
    rfl

end Sys2Proof.Machine
end

section
/-! PROOFS. ACCEPT, DECLINE and the end of tACCEPT at the won offer. -/

namespace Sys2Proof.Machine

open Sys2Proof

-- The kernel's checks run one after another: side by side they ask for more threads than there is room for.
set_option Elab.async false

/-! ## A contest frame asked for (R45, R104) -/

/-- With room a contest frame that is no WITHDRAW stands already, or is admitted. -/
theorem askContest_room {kind : FrameKind} (id : OfferId) {s : State} (short : s.cau.queue.length < 16)
    (contest : kind = .bid ∨ kind = .take ∨ kind = .release) :
    (askContest kind id s = s ∧ ∃ q ∈ s.cau.queue, q.req.kind = kind ∧ q.req.tag = .offer id) ∨
      askContest kind id s = admitEntry (contestFrame kind id) s := by
  have general : requestFrame (contestFrame kind id) s = requestGeneral (contestFrame kind id) s := by
    rcases contest with rfl | rfl | rfl <;> rfl
  unfold askContest
  rw [general]
  by_cases same : sameRecord (contestFrame kind id) s = true
  · refine .inl ⟨by simp [requestGeneral, same], ?_⟩
    obtain ⟨q, mem, is⟩ := List.any_eq_true.mp same
    simp only [Bool.and_eq_true, decide_eq_true_eq] at is
    exact ⟨q, mem, is.2, is.1⟩
  · refine .inr ?_
    have cancels : withdrawCancels (contestFrame kind id) s = none := by
      rcases contest with rfl | rfl | rfl <;> rfl
    simp [requestGeneral, same, cancels, placeRequest_room _ short]

/-- With room the frame stands in the queue, and nothing of the neighbours and the emergency changes. -/
theorem askContest_stands {kind : FrameKind} (id : OfferId) {s : State} (short : s.cau.queue.length < 16)
    (contest : kind = .bid ∨ kind = .take ∨ kind = .release) :
    (askContest kind id s).nbt = s.nbt ∧ (askContest kind id s).emu = s.emu ∧
      ∃ q, q ∈ (askContest kind id s).cau.queue ∧ (q.req.kind = kind ∧ q.req.tag = .offer id) ∧
        (NumbersOnce s → StandsAlone q (askContest kind id s)) := by
  rcases askContest_room id short contest with ⟨same, q, mem, is⟩ | admits
  · rw [same]
    exact ⟨rfl, rfl, q, mem, is, fun once => once.standsAlone mem⟩
  · rw [admits]
    exact ⟨rfl, rfl, admitted (contestFrame kind id) s, admitted_mem _ s, ⟨rfl, rfl⟩,
      admitEntry_standsAlone _⟩

/-- An offer stands after frames were asked for, but for its BID's place. -/
theorem Asked.offer {s t : State} (h : Asked s t) {e : OfferEntry} (mem : e ∈ s.ocu.offers) :
    ∃ f ∈ t.ocu.offers, f.id = e.id ∧ f.state = e.state ∧ f.jobTimer = e.jobTimer := by
  obtain ⟨f, hf, same⟩ := List.mem_map.mp (h.ocu ▸ List.mem_map_of_mem (f := fun e : OfferEntry => { e with bidFrame := BidFrame.none }) mem)
  injection same with id _ _ _ _ _ state _ _ _ _ timer
  exact ⟨f, hf, id, state, timer⟩

theorem wonOffer?_congr {s t : State} (ocu : t.ocu = s.ocu) : t.wonOffer? = s.wonOffer? := by
  simp [State.wonOffer?, ocu]

/-- The entry of an offer changed stands in the table. -/
theorem mem_updOffer {s : State} {e : OfferEntry} (mem : e ∈ s.ocu.offers) (f : OfferEntry → OfferEntry) :
    f e ∈ (s.updOffer e.id f).ocu.offers :=
  mem_updateWhere.mpr ⟨e, mem, by simp⟩

/-! ## ACCEPT (R6, R12, R97) -/

/-- Settles O23: the entry TAKEN, the job record made, the TAKE asked for. -/
theorem acceptTakesTheWonOffer : Obligations.AcceptTakesTheWonOffer := by
  intro s e taken idle pending won
  obtain ⟨u, heard, run⟩ := acceptKey_dropPrefix acceptRoute taken rfl
  obtain ⟨lines, stc, dtc, fre, cau, -, ocu, fmr, -, -, emu⟩ := heard.keeps
  let w : State := u.updOffer e.id fun x =>
    { x with state := .taken, jobTimer := some (u.now + 1000 * u.stc.config.tConfirm) }
  let v : State := askContest .take e.id w
  have won' : u.wonOffer? = some e := (wonOffer?_congr ocu).trans won
  have act : acceptRoute u =
      { v with dtc := { v.dtc with duty := .assigned, job := some (jobOf e v.time) } } := by
    simp [acceptRoute, State.emergencyIdle, emu, idle, dtc, pending, acceptOffer, won', v, w]
  have asked : Asked w v := askContest_asked .take e.id w
  have vdtc : v.dtc = s.dtc := asked.dtc.trans dtc
  have time : v.time = s.time := by simp [State.time, vdtc]
  refine ⟨finish _, act ▸ run, ?dtc, ?offer, ?frame, ?fre, ?fmr, ?lines, ?emu⟩
  case dtc => simp [vdtc, time, jobOf]
  case offer =>
    obtain ⟨f, mem, id, state, timer⟩ := asked.offer (mem_updOffer (wonOffer?_mem won').1 _)
    have now : v.now = u.now := asked.clocks.1
    exact ⟨f, by simpa using mem, id, state, by simp [timer, now, stc]⟩
  case frame =>
    intro short
    obtain ⟨-, -, q, mem, is, -⟩ := askContest_stands (kind := .take) e.id (s := w)
      (show u.cau.queue.length < 16 by rwa [cau]) (.inr (.inl rfl))
    exact ⟨q, by simpa using mem, is⟩
  case fre =>
    have kept : v.fre = s.fre := asked.fre.trans fre
    simp [kept]
  case fmr =>
    have kept : v.fmr = s.fmr := asked.fmr.trans fmr
    simp [kept]
  case lines =>
    have kept : v.lines = s.lines := asked.lines.trans lines
    simp [kept]
  case emu =>
    have kept : v.emu = { s.emu with clearDue := v.emu.clearDue } := by
      rw [← emu]
      exact asked.emu
    have same : ∀ d, (finish { v with dtc := d }).emu = v.emu := fun d => by simp
    rw [same]
    exact kept

/-! ## The offer given up (R7, R10, R44, R98, R101) -/

/-- Everything but the clock, the console, the cab record, the store and the offers is the same. -/
structure SameElsewhere (s t : State) : Prop where
  lines : t.lines = s.lines
  fre : t.fre = s.fre
  cau : t.cau = s.cau
  nbt : t.nbt = s.nbt
  fmr : t.fmr = s.fmr
  tlu : t.tlu = s.tlu
  emu : t.emu = s.emu

/-- The offer is released and the cab is vacant: what a DECLINE leaves in PENDING and in ASSIGNED. -/
def ReleasedVacant (id : OfferId) (s t : State) : Prop :=
  EntersVacant s t ∧
  (QueueWf s → s.cau.queue.length < 16 → t.nbt = s.nbt ∧ t.emu = s.emu ∧
    ∃ q ∈ t.cau.queue, q.req.kind = .release ∧ q.req.tag = .offer id) ∧
  t.fre = s.fre ∧ t.fmr = s.fmr ∧ t.nbt = { s.nbt with relays := t.nbt.relays } ∧
  t.emu = { s.emu with clearDue := t.emu.clearDue } ∧ t.lines = s.lines

/-- A RELEASE asked for and VACANT entered. -/
theorem release_entersVacant {id : OfferId} {s w x : State} (before : SameElsewhere s w)
    (after : SameElsewhere (askContest .release id w) x) : ReleasedVacant id s (finish (enterVacant x)) := by
  have asked := askContest_asked .release id w
  have xtlu : x.tlu = { s.tlu with log := x.tlu.log, hold := x.tlu.hold } := by
    rw [after.tlu, ← before.tlu]
    exact asked.tlu
  refine ⟨finish_entersVacant (by rw [xtlu]) (by rw [xtlu]), fun wf short => ?_, ?_, ?_, ?_,
    ?_, ?_⟩
  · obtain ⟨nbt, emu, q, -, is, alone⟩ := askContest_stands (kind := .release) id (s := w) (by rwa [before.cau])
      (.inr (.inr rfl))
    have stands : StandsAlone q x :=
      (standsAlone_congr after.cau).mpr (alone ((numbersOnce_congr before.cau).mpr wf.numbers))
    refine ⟨?_, ?_, q, finish_enterVacant_queue stands (by simp [is.1]), is⟩
    · simp [after.nbt, nbt, before.nbt]
    · simp [after.emu, emu, before.emu]
  · simp [after.fre, before.fre]
  · simp [after.fmr, before.fmr]
  · have kept : x.nbt = { s.nbt with relays := x.nbt.relays } := by
      rw [after.nbt, ← before.nbt]
      exact asked.nbt
    have same : (finish (enterVacant x)).nbt = x.nbt := by simp
    rw [same]
    exact kept
  · have kept : x.emu = { s.emu with clearDue := x.emu.clearDue } := by
      rw [after.emu, ← before.emu]
      exact asked.emu
    have same : (finish (enterVacant x)).emu = x.emu := by simp
    rw [same]
    exact kept
  · simp [after.lines, before.lines]

/-- DECLINE in PENDING and the end of tACCEPT: the won offer DECLINED and released (R98). -/
theorem declineWon_releases {s u : State} {e : OfferEntry} (won : u.wonOffer? = some e) (pending : u.dtc.duty = .pending)
    (dtc : u.dtc = s.dtc) (same : SameElsewhere s u) :
    ReleasedVacant e.id s (finish (declineWon u)) ∧ (finish (declineWon u)).dtc.job = s.dtc.job ∧
      (∃ f ∈ (finish (declineWon u)).ocu.offers, f.id = e.id ∧ f.state = .declined ∧ f.jobTimer = none) ∧
      (finish (declineWon u)).now = u.now := by
  let w : State := u.updOffer e.id fun x => { x with state := .declined, jobTimer := none }
  have asked : Asked w (askContest .release e.id w) := askContest_asked .release e.id w
  have declined : declineWon u = enterVacant (askContest .release e.id w) := by
    have duty : (askContest .release e.id w).dtc.duty = .pending := by
      rw [asked.dtc]
      exact pending
    simp only [declineWon, won]
    exact if_pos duty
  rw [declined]
  refine ⟨release_entersVacant (w := w) ⟨same.lines, same.fre, same.cau, same.nbt, same.fmr, same.tlu, same.emu⟩
    ⟨rfl, rfl, rfl, rfl, rfl, rfl, rfl⟩, ?_, ?_, ?_⟩
  · simp [w, dtc]
  · obtain ⟨f, mem, id, state, timer⟩ := asked.offer (mem_updOffer (wonOffer?_mem won).1 _)
    exact ⟨f, by simpa using mem, id, state, timer⟩
  · simp [w]

/-- DECLINE in ASSIGNED: the job record cleared with its entry, and its offer released (R10, R101). -/
theorem declineJob_releases {s u : State} {j : JobRecord} (job : u.dtc.job = some j) (same : SameElsewhere s u) :
    ReleasedVacant j.id s (finish (declineJob u)) ∧ (finish (declineJob u)).dtc.job = none ∧
      ∀ e ∈ (finish (declineJob u)).ocu.offers, ¬(e.id = j.id ∧ e.state = .taken) := by
  have declined : declineJob u = enterVacant (clearJob (askContest .release j.id u)) := by simp [declineJob, job]
  rw [declined]
  refine ⟨release_entersVacant same ⟨?_, ?_, ?_, ?_, ?_, ?_, ?_⟩, ?_, fun e he => ?_⟩
  case refine_9 => exact clearJob_frees (s := askContest .release j.id u) (by simpa using job) e (by simpa using he)
  all_goals simp

theorem KeyHeard.sameElsewhere {k : Key} {p : Option KeyPrefix} {s u : State} (heard : KeyHeard k p s u) :
    SameElsewhere s u := by
  obtain ⟨lines, -, -, fre, cau, nbt, -, fmr, tlu, -, emu⟩ := heard.keeps
  exact ⟨lines, fre, cau, nbt, fmr, tlu, emu⟩

/-- Settles O24: DECLINE in PENDING and in ASSIGNED, and the end of tACCEPT. -/
theorem declineAndTAcceptReleaseTheOffer : Obligations.DeclineAndTAcceptReleaseTheOffer := by
  refine fun s => ⟨fun e pending won c => ?won, fun j assigned job taken => ?job⟩
  case won =>
    rintro (⟨rfl, taken⟩ | ⟨rfl, running, timer⟩)
    · obtain ⟨u, heard, run⟩ := acceptKey_dropPrefix declineKey taken rfl
      obtain ⟨-, -, dtc, -, -, -, ocu, -⟩ := heard.keeps
      have act : declineKey u = declineWon u := by simp [declineKey, dtc, pending]
      obtain ⟨⟨vacant, room, rest⟩, job, offer, -⟩ := declineWon_releases (s := s) ((wonOffer?_congr ocu).trans won)
        (by rw [dtc, pending]) dtc heard.sameElsewhere
      exact ⟨_, act ▸ run, vacant, job, offer, room, nofun, rest⟩
    · obtain ⟨deadline, runs⟩ := Option.isSome_iff_exists.mp timer
      have run : exec .tAcceptExpiry s = .next (finish (declineWon (s.reach deadline))) := by
        show Host.Outcome.next (whenRunning _ s) = _
        rw [whenRunning_of_running _ running]
        simp [won, runs]
      obtain ⟨⟨vacant, room, rest⟩, job, offer, now⟩ := declineWon_releases (s := s) (u := s.reach deadline) won pending
        rfl ⟨rfl, rfl, rfl, rfl, rfl, rfl, rfl⟩
      refine ⟨_, run, vacant, job, offer, room, fun d _ is => ?_, rest⟩
      rw [runs] at is
      obtain rfl := Option.some.inj is
      exact now
  case job =>
    obtain ⟨u, heard, run⟩ := acceptKey_dropPrefix declineKey taken rfl
    obtain ⟨-, -, dtc, -⟩ := heard.keeps
    have act : declineKey u = declineJob u := by simp [declineKey, dtc, assigned]
    obtain ⟨⟨vacant, room, rest⟩, gone, freed⟩ := declineJob_releases (s := s) (by rw [dtc, job]) heard.sameElsewhere
    obtain ⟨fre, fmr, nbt, emu, lines⟩ := rest
    exact ⟨_, act ▸ run, vacant, gone, room, freed, fre, fmr, nbt, emu, lines⟩

end Sys2Proof.Machine
end

section
/-! PROOFS. REPLY and the phrase menu, the code keys of an emergency. -/

namespace Sys2Proof.Machine

open Sys2Proof

-- The kernel's checks run one after another: side by side they ask for more threads than there is room for.
set_option Elab.async false

/-! ## REPLY and the phrase menu (R153, R154) -/

theorem openMsg_congr {s t : State} (mst : t.mst = s.mst) : t.openMsg = s.openMsg := by
  unfold State.openMsg
  rw [mst]
  exact congrArg _ (funext fun n => by simp [State.msg?, mst])

theorem phraseOf_congr {s t : State} (mst : t.mst = s.mst) (d : Nat) : phraseOf t d = phraseOf s d := by
  simp only [phraseOf, mst]

/-- A digit in the menu with no EXTRA or TARIFF held is heard, and goes to the menu alone (R153, R171). -/
theorem digit_inMenu {s : State} {d : Fin 10} (taken : keyTakenInRun (.digit d) s = true) (idle : s.emu.state = .idle)
    (view : s.cns.view = .menu) (bare : s.cns.keyPrefix = none) :
    ∃ u, KeyHeard (.digit d) none s u ∧
      ((menuDigit d u).emu = u.emu → exec (.digit d) s = .next (finish (menuDigit d u))) := by
  obtain ⟨taken, power⟩ := (keyTakenInRun_iff _ s).1 taken
  obtain ⟨u, heard, run⟩ := acceptKey_taken (digitRoute d) taken (.inl power)
  rw [bare] at heard
  obtain ⟨-, stc, -, -, -, -, -, -, -, -, emu⟩ := heard.keeps
  obtain ⟨view', -, -, -, pending, -⟩ := heard.console
  refine ⟨u, heard, fun kept => run.trans ?_⟩
  have menu : viewShown u = some .menu := by simp [viewShown, stc, power, view', view]
  have digit : consoleDigit d u = menuDigit d u := by simp [consoleDigit, pending, menu]
  have route : digitRoute d u = menuDigit d u := by
    simp [digitRoute, digit, State.emergencyIdle, kept, emu, idle]
  rw [route]

/-- The reply of an entry stands as QUEUED under the next number, before its frame is asked for. -/
def withReply (e : MsgEntry) (phrase : Nat) (s : State) : State :=
  { s with mst := { s.mst with
    replyCounter := s.mst.replyCounter + 1
    entries := updateWhere (·.entry = e.entry)
      (fun x => { x with reply := some { phrase := phrase, number := s.mst.replyCounter + 1, state := .queued } })
      s.mst.entries } }

/-- A reply made with room for its frame, and none of the entry on its way (R154). -/
theorem makeReply_room {e : MsgEntry} {n : Nat} {s : State} (short : s.cau.queue.length < 16)
    (fresh : ∀ q ∈ s.cau.queue, q.req.tag ≠ .reply e.entry) :
    makeReply e n s = admitEntry (replyRequest e) (withReply e n s) := by
  have queued : requestFrame (replyRequest e) (withReply e n s) =
      (admitEntry (replyRequest e) (withReply e n s), .queued) :=
    requestFrame_room short nofun (fun q hq both => fresh q hq both.1) nofun nofun nofun
  have asks : makeReply e n s =
      if (requestFrame (replyRequest e) (withReply e n s)).2 = .dropped then
        (requestFrame (replyRequest e) (withReply e n s)).1.updMsg e.entry (replyBecomes .failed)
      else (requestFrame (replyRequest e) (withReply e n s)).1 := rfl
  rw [asks, queued]
  exact if_neg nofun

/-- The entry of the reply carries it. -/
theorem withReply_reply {e x : MsgEntry} {n : Nat} {s : State} (mem : x ∈ (withReply e n s).mst.entries)
    (is : x.entry = e.entry) :
    x.reply = some { phrase := n, number := s.mst.replyCounter + 1, state := .queued } := by
  obtain ⟨y, -, rfl⟩ := mem_updateWhere.mp mem
  by_cases this : y.entry = e.entry
  · simp [this]
  · simp [this] at is

/-- Settles O27: REPLY opens the menu where it may, a phrase's digit makes the reply, any other is refused. -/
theorem replyMenuMakesReply : Obligations.ReplyMenuMakesReply := by
  refine fun s e open_ => ⟨fun taken view => ?reply, fun d p taken idle view bare phrase short fresh => ?phrase,
    fun d taken idle view bare none_ => ?refused⟩
  case reply =>
    obtain ⟨u, heard, run⟩ := acceptKey_inRun replyRoute taken
    obtain ⟨-, -, -, -, -, -, -, -, -, mst, -⟩ := heard.keeps
    obtain ⟨view', -⟩ := heard.console
    have act : replyRoute u =
        (if e.kind = .direct ∧ e.replyPending = false then { u with cns := { u.cns with view := .menu } }
          else refused u) := by
      unfold replyRoute replyTarget
      rw [if_pos (view'.trans view), openMsg_congr mst, open_, refuse_eq]
      by_cases may : e.kind = .direct ∧ e.replyPending = false <;> simp [may]
    exact ⟨u, _, heard, act ▸ run, finish_settled _⟩
  case phrase =>
    obtain ⟨u, heard, run⟩ := digit_inMenu taken idle view bare
    obtain ⟨-, -, dtc, fre, cau, -, -, fmr, -, mst, emu⟩ := heard.keeps
    have made := makeReply_room (e := e) (n := d.val) (s := u) (by rwa [cau]) (by rwa [cau])
    have act : menuDigit d u =
        { makeReply e d.val u with cns := { (makeReply e d.val u).cns with view := .message } } := by
      simp [menuDigit, openMsg_congr mst, open_, phraseOf_congr mst, phrase]
    refine ⟨_, run (by rw [act, made]; rfl), ?_, ?_, ?_, ?_, ?_, ?_, ?_, ?_, ?_⟩
    case refine_4 =>
      rw [act, made, ← mst]
      exact fun x mem is => withReply_reply (s := u) (by simpa using mem) is
    case refine_5 =>
      rw [act, made]
      exact ⟨admitted (replyRequest e) (withReply e d.val u), by simpa using admitted_mem _ _, rfl⟩
    all_goals rw [act, made]; simp [withReply, dtc, fre, fmr, mst, emu]
  case refused =>
    obtain ⟨u, heard, run⟩ := digit_inMenu taken idle view bare
    obtain ⟨-, -, -, -, -, -, -, -, -, mst, -⟩ := heard.keeps
    have act : menuDigit d u = refused u := by
      simp [menuDigit, openMsg_congr mst, open_, phraseOf_congr mst, none_, refuse_eq]
    exact ⟨u, _, heard, run (by rw [act]; rfl), by rw [act]; exact finish_settled _⟩

/-! ## The code keys of an emergency (R171, R186 to R188) -/

theorem emergencyIdle_of_takesCode {s : State} (takes : s.emu.state.takesCode = true) : s.emergencyIdle = false := by
  simp only [State.emergencyIdle, decide_eq_false_iff_not]
  intro idle
  rw [idle] at takes
  cases takes

theorem emuTakesKeys_of {s : State} (sound : s.stc.fault = false) (takes : s.emu.state.takesCode = true) :
    emuTakesKeys s = true := by
  simp [emuTakesKeys, sound, takes]

/-- A digit with no EXTRA or TARIFF held, outside the menu, in an emergency joins the code alone. -/
theorem digitRoute_code {d : Fin 10} {s : State} (sound : s.stc.fault = false) (takes : s.emu.state.takesCode = true)
    (bare : s.cns.keyPrefix = none) (view : viewShown s ≠ some .menu) :
    digitRoute d s = updEmu (fun e => { e with code := pushDigit d e.code }) s := by
  have busy := emergencyIdle_of_takesCode takes
  simp [digitRoute, consoleDigit, bare, view, busy, emuDigit, emuTakesKeys_of sound takes]

theorem clearView_parts (s : State) :
    (clearView s).emu = s.emu ∧ (clearView s).stc = s.stc ∧ (clearView s).dtc = s.dtc ∧ (clearView s).fmr = s.fmr ∧
      (clearView s).fre = s.fre ∧ (clearView s).ocu = s.ocu := by
  unfold clearView
  split <;> simp

theorem clearRoute_code {s : State} (sound : s.stc.fault = false) (takes : s.emu.state.takesCode = true) :
    clearRoute s = updEmu (fun e => { e with code := [] }) (clearView s) := by
  obtain ⟨emu, stc, -⟩ := clearView_parts s
  have busy : (clearView s).emergencyIdle = false := emergencyIdle_of_takesCode (by rwa [emu])
  simp [clearRoute, busy, emuClear, emuTakesKeys_of (s := clearView s) (by rwa [stc]) (by rwa [emu])]

/-- A submission that is not looked at: in a lockout, and in CLEARING. -/
theorem emuSubmit_ignored {s : State} (sound : s.stc.fault = false) (takes : s.emu.state.takesCode = true)
    (shut : s.emu.lockout.isSome = true ∨ s.emu.state = .clearing) :
    emuSubmit s = updEmu (fun e => { e with code := [] }) s := by
  rcases shut with locked | clearing
  · simp [emuSubmit, emuTakesKeys_of sound takes, locked]
  · simp [emuSubmit, emuTakesKeys_of sound takes, clearing]

theorem emuSubmit_decides {s : State} (sound : s.stc.fault = false) (takes : s.emu.state.takesCode = true)
    (free : s.emu.lockout = none) (calls : s.emu.state ≠ .clearing) :
    emuSubmit s = updEmu (fun e => { e with code := [] }) (decideCode s) := by
  cases state : s.emu.state with
  | idle => simp [state, EmuState.takesCode] at takes
  | arming => simp [state, EmuState.takesCode] at takes
  | clearing => exact absurd state calls
  | active => simp [emuSubmit, emuTakesKeys_of sound takes, free, state]
  | acknowledged => simp [emuSubmit, emuTakesKeys_of sound takes, free, state]
  | covert => simp [emuSubmit, emuTakesKeys_of sound takes, free, state]

/-- With room an own alarm frame stands where none of its kind waited (R46). -/
theorem requestFrame_ownAlarm {kind : FrameKind} {s : State} (own : kind = .alarm ∨ kind = .alarmClear)
    (short : s.cau.queue.length < 16) (none_ : ∀ q ∈ s.cau.queue, isOwnAlarm q.req = false) :
    requestFrame (ownAlarmRequest kind) s = (admitEntry (ownAlarmRequest kind) s, .queued) := by
  refine requestFrame_room short ?_ (fun q hq both => ?_) ?_ ?_ fun _ => none_
  · rcases own with rfl | rfl <;> nofun
  · have is : isOwnAlarm q.req = true := by
      rcases own with rfl | rfl <;> simp_all [isOwnAlarm, ownAlarmRequest]
    rw [none_ q hq] at is
    cases is
  · rcases own with rfl | rfl <;> nofun
  · rcases own with rfl | rfl <;> nofun

theorem askAlarm_stands {s : State} (short : s.cau.queue.length < 16)
    (none_ : ∀ q ∈ s.cau.queue, isOwnAlarm q.req = false) :
    ∃ q ∈ (askAlarm s).cau.queue, q.req = ⟨.alarm, 0, 0, false, 0, .ownAlarm⟩ := by
  unfold askAlarm
  rw [requestFrame_ownAlarm (.inl rfl) short none_]
  exact ⟨_, admitted_mem _ s, rfl⟩

theorem askClear_stands {s : State} (short : s.cau.queue.length < 16)
    (none_ : ∀ q ∈ s.cau.queue, isOwnAlarm q.req = false) :
    ∃ q ∈ (askClear s).cau.queue, q.req = ⟨.alarmClear, 0, 0, false, 0, .ownAlarm⟩ := by
  unfold askClear
  rw [requestFrame_ownAlarm (.inr rfl) short none_]
  exact ⟨_, admitted_mem _ s, rfl⟩

theorem codeHeld_duress {s : State} {d : Nat} (notCancel : s.emu.code ≠ codeDigits s.stc.config.cancelCode)
    (has : s.stc.config.duressCode = some d) (held : s.emu.code = codeDigits d) : codeHeld s = .duress := by
  unfold codeHeld
  rw [if_neg notCancel, has]
  exact if_pos held

theorem codeHeld_other {s : State} (notCancel : s.emu.code ≠ codeDigits s.stc.config.cancelCode)
    (notDuress : ∀ d, s.stc.config.duressCode = some d → s.emu.code ≠ codeDigits d) : codeHeld s = .other := by
  unfold codeHeld
  rw [if_neg notCancel]
  cases has : s.stc.config.duressCode with
  | none => rfl
  | some d => exact if_neg (notDuress d has)

/-- A wrong attempt counts, and the third starts the lockout (R187). -/
theorem wrongAttempt_eq {s : State} (free : s.emu.lockout = none) :
    wrongAttempt s = updEmu (fun e => { e with
      attempts := min 3 (s.emu.attempts + 1)
      lockout := if 2 ≤ s.emu.attempts then some (.running (s.now + 300000)) else none }) s := by
  have third : satAdd 3 s.emu.attempts 1 = 3 ↔ 2 ≤ s.emu.attempts := by
    unfold satAdd
    omega
  simp only [wrongAttempt, updEmu, third, free]
  rfl

theorem finish_emu (s : State) : (finish s).emu = s.emu := by simp

/-- ACCEPT is heard in an emergency, and reaches the EMU. -/
theorem accept_inEmergency {s : State} (taken : keyTaken .accept s = true) (sound : s.stc.fault = false)
    (takes : s.emu.state.takesCode = true) :
    ∃ u, KeyHeard .accept none s u ∧ u.stc.fault = false ∧ u.emu.state.takesCode = true ∧
      exec .accept s = .next (finish (emuSubmit u)) := by
  obtain ⟨u, heard, run⟩ := acceptKey_dropPrefix acceptRoute taken rfl
  obtain ⟨-, stc, -, -, -, -, -, -, -, -, emu⟩ := heard.keeps
  have takes' : u.emu.state.takesCode = true := by rwa [emu]
  have route : acceptRoute u = emuSubmit u := by simp [acceptRoute, emergencyIdle_of_takesCode takes']
  exact ⟨u, heard, by rwa [stc], takes', by rw [← route]; exact run⟩

/-- Settles O28: digits, CLEAR and ACCEPT at the code. -/
theorem emergencyCodeKeys : Obligations.EmergencyCodeKeys := by
  refine fun s sound takes => ⟨fun d taken bare view => ?digit, fun taken => ?clear, fun taken shut => ?ignored,
    fun taken free calls => ⟨fun cancel => ?cancel, fun d notCancel has duress => ⟨fun open_ => ?duress,
      fun covert => ?again⟩, fun notCancel notDuress => ?wrong⟩⟩
  case digit =>
    obtain ⟨u, heard, run⟩ := acceptKey_taken (digitRoute d) taken (.inr rfl)
    rw [bare] at heard
    obtain ⟨-, stc, -, -, -, -, -, -, -, -, emu⟩ := heard.keeps
    obtain ⟨-, -, -, -, pending, shown⟩ := heard.console
    have route := digitRoute_code (d := d) (s := u) (by rwa [stc]) (by rwa [emu]) pending (by rwa [shown])
    exact ⟨u, _, heard, run, by rw [route, ← emu]; exact finish_settled _⟩
  case clear =>
    obtain ⟨u, heard, run⟩ := acceptKey_inRun clearRoute taken
    obtain ⟨-, stc, dtc, fre, -, -, ocu, fmr, -, -, emu⟩ := heard.keeps
    obtain ⟨emu', -, dtc', fmr', fre', ocu'⟩ := clearView_parts u
    have route := clearRoute_code (s := u) (by rwa [stc]) (by rwa [emu])
    refine ⟨_, run, ?_, ?_, ?_, ?_, ?_⟩ <;> rw [route] <;> simp [updEmu, emu', dtc', fmr', fre', ocu', dtc, fmr, fre, ocu, emu]
  case ignored =>
    obtain ⟨u, heard, sound', takes', run⟩ := accept_inEmergency taken sound takes
    obtain ⟨-, -, -, -, -, -, -, -, -, -, emu⟩ := heard.keeps
    have submits := emuSubmit_ignored sound' takes' (by rwa [emu])
    exact ⟨u, _, heard, run, by rw [submits]; exact finish_settled _⟩
  case cancel =>
    obtain ⟨u, heard, sound', takes', run⟩ := accept_inEmergency taken sound takes
    obtain ⟨-, stc, dtc, fre, cau, -, -, fmr, -, -, emu⟩ := heard.keeps
    let w : State := updEmu (fun e => { e with
      state := .clearing, attempts := 0, schedule := none, keptPeriod := slowPeriod u, clearsSent := 0,
      clearDue := none }) u
    have submits : emuSubmit u = updEmu (fun e => { e with code := [] }) (askClear w) := by
      have held : codeHeld u = .cancel := by simp [codeHeld, emu, stc, cancel]
      rw [emuSubmit_decides sound' takes' (by rwa [emu]) (by rwa [emu]), decideCode, held]
      rfl
    have asked : Asked w (askClear w) := askClear_asked w
    have wdtc : (askClear w).dtc = s.dtc := asked.dtc.trans dtc
    have wfre : (askClear w).fre = s.fre := asked.fre.trans fre
    have wfmr : (askClear w).fmr = s.fmr := asked.fmr.trans fmr
    have mask : (askClear w).cau.mask = s.cau.mask := by
      rw [asked.cau]
      show u.cau.mask = _
      rw [cau]
    have left : (finish (updEmu (fun e => { e with code := [] }) (askClear w))).emu = { s.emu with
        state := .clearing, attempts := 0, schedule := none, keptPeriod := slowPeriod u, clearsSent := 0,
        clearDue := (askClear w).emu.clearDue, code := [] } := by
      rw [← emu, finish_emu]
      show { (askClear w).emu with code := [] } = _
      rw [asked.emu]
      rfl
    refine ⟨_, run, ?_, ?_, ?_, ?_, ?_, ?_, ?_, ?_, fun short none_ => ?_, ?_, ?_, ?_⟩ <;> rw [submits]
    case refine_4 =>
      intro c runs
      rw [left]
      simp [slowPeriod, emu, runs]
    case refine_9 =>
      obtain ⟨q, mem, is⟩ := askClear_stands (s := w) (show u.cau.queue.length < 16 by rwa [cau])
        (show ∀ q ∈ u.cau.queue, _ by rwa [cau])
      exact ⟨q, by simpa [updEmu] using mem, is⟩
    case refine_10 => simpa [updEmu] using wdtc
    case refine_11 => simpa [updEmu] using wfre
    case refine_12 => simpa [updEmu] using wfmr
    case refine_8 => simpa [updEmu] using mask
    all_goals rw [left]
  case duress =>
    obtain ⟨u, heard, sound', takes', run⟩ := accept_inEmergency taken sound takes
    obtain ⟨-, stc, dtc, fre, cau, -, -, fmr, -, -, emu⟩ := heard.keeps
    let w : State := startSlow tAlm2 (updEmu (fun e => { e with state := .covert, attempts := 0, duress := true }) u)
    have submits : emuSubmit u = updEmu (fun e => { e with code := [] }) (askAlarm w) := by
      rw [emuSubmit_decides sound' takes' (by rwa [emu]) (by rwa [emu]), decideCode,
        codeHeld_duress (by rwa [emu, stc]) (by rwa [stc]) (by rwa [emu])]
      simp only [emu, if_neg open_]
      rfl
    have asked : Asked w (askAlarm w) := askAlarm_asked w
    have left : (finish (updEmu (fun e => { e with code := [] }) (askAlarm w))).emu = { s.emu with
        state := .covert, attempts := 0, duress := true, schedule := some ⟨.slow, 30000, w.now + 30000⟩,
        clearDue := (askAlarm w).emu.clearDue, code := [] } := by
      rw [← emu, finish_emu]
      show { (askAlarm w).emu with code := [] } = _
      rw [asked.emu]
      rfl
    have wdtc : (askAlarm w).dtc = s.dtc := asked.dtc.trans dtc
    have wfre : (askAlarm w).fre = s.fre := asked.fre.trans fre
    have wfmr : (askAlarm w).fmr = s.fmr := asked.fmr.trans fmr
    refine ⟨_, run, ?_, ?_, ?_, ?_, ?_, ?_, fun short none_ => ?_, ?_, ?_, ?_⟩ <;> rw [submits]
    case refine_7 =>
      obtain ⟨q, mem, is⟩ := askAlarm_stands (s := w) (show u.cau.queue.length < 16 by rwa [cau])
        (show ∀ q ∈ u.cau.queue, _ by rwa [cau])
      exact ⟨q, by simpa [updEmu] using mem, is⟩
    case refine_6 =>
      rw [left]
      simp [updEmu]
    case refine_8 => simpa [updEmu] using wdtc
    case refine_9 => simpa [updEmu] using wfre
    case refine_10 => simpa [updEmu] using wfmr
    all_goals rw [left]
  case again =>
    obtain ⟨u, heard, sound', takes', run⟩ := accept_inEmergency taken sound takes
    obtain ⟨-, stc, -, -, -, -, -, -, -, -, emu⟩ := heard.keeps
    have submits : emuSubmit u = updEmu (fun e => { e with attempts := 0, code := [] }) u := by
      rw [emuSubmit_decides sound' takes' (by rwa [emu]) (by rwa [emu]), decideCode,
        codeHeld_duress (by rwa [emu, stc]) (by rwa [stc]) (by rwa [emu])]
      simp only [emu, covert, if_true]
      rfl
    exact ⟨u, _, heard, run, by rw [submits]; exact finish_settled _⟩
  case wrong =>
    obtain ⟨u, heard, sound', takes', run⟩ := accept_inEmergency taken sound takes
    obtain ⟨-, stc, -, -, -, -, -, -, -, -, emu⟩ := heard.keeps
    have held : codeHeld u = .other := codeHeld_other (by rwa [emu, stc]) (by rwa [emu, stc])
    have submits : emuSubmit u = updEmu (fun e => { e with
        attempts := min 3 (u.emu.attempts + 1)
        lockout := if 2 ≤ u.emu.attempts then some (.running (u.now + 300000)) else none
        code := [] }) u := by
      rw [emuSubmit_decides sound' takes' (by rwa [emu]) (by rwa [emu]), decideCode, held]
      exact congrArg _ (wrongAttempt_eq (by rw [emu]; exact free))
    refine ⟨u, _, heard, run, ?_⟩
    rw [show u.emu.attempts = s.emu.attempts by rw [emu]] at submits
    rw [submits]
    exact finish_settled _

end Sys2Proof.Machine
end

section
/-! PROOFS. The receive engine, discarded frames, and the header of a heard frame. -/

namespace Sys2Proof.Machine

open Sys2Proof

-- The kernel's checks run one after another: side by side they ask for more threads than there is room for.
set_option Elab.async false

/-! ## Discarded frames (R29 to R32) -/

theorem frameCommand_exec (k : FrameKind) (f : AirFrame) (s : State) :
    exec (frameCommand k f) s = receiveFrame (kindCode k) f s := by
  cases k <;> rfl

theorem receiveFrame_taken {kind : Nat} {f : AirFrame} {s u : State} (gathered : gathers kind f s = true)
    (takes : takeFrame (kindOfCode kind) f s = u) : receiveFrame kind f s = .next (finish u) := by
  rw [receiveFrame, if_pos gathered, takes]

/-- Settles O33: frames not gathered, a CRC mismatch, another fleet's frame, and one taken for its count alone. -/
theorem discardedFramesAreCounted : Obligations.DiscardedFramesAreCounted := by
  refine fun k f s => ⟨fun outside => ?_, fun running => gives_of_whenRunning rfl running rfl,
    fun running body gathered => ⟨fun foreign => ?_, fun fleet same alone => ?_⟩⟩
  · have notGathered : gathers (kindCode k) f s = false := by
      unfold gathers
      rcases outside with off | notBody | other
      · simp [off]
      · simp [notBody]
      · simp [other]
    exact (frameCommand_exec k f s).trans (receiveFrame_same notGathered)
  · have taken : gathers (kindCode k) f s = true := by simp [gathers, running, body, gathered]
    refine ⟨_, (frameCommand_exec k f s).trans (receiveFrame_taken taken ?_), finish_settled _⟩
    have discards : foreignFrame f (resumeReceive s) = true := by
      simp only [foreignFrame, Bool.or_eq_true, decide_eq_true_eq]
      exact foreign
    rw [takeFrame, if_pos discards]
    rfl
  · have taken : gathers (kindCode k) f s = true := by simp [gathers, running, body, gathered]
    refine ⟨_, (frameCommand_exec k f s).trans (receiveFrame_taken taken ?_), finish_settled _⟩
    have own : foreignFrame f (resumeReceive s) = false := by
      simp [foreignFrame, resumeReceive, fleet, same]
    have stops : (decide (f.header.source = 0) || decide (f.header.source = (countGood (resumeReceive s)).own) ||
        (countGood (resumeReceive s)).stc.fault) = true := by
      rcases alone with zero | mine | fault
      · simp [zero]
      · have own : f.header.source = (countGood (resumeReceive s)).own := mine
        rw [decide_eq_true own, Bool.or_true, Bool.true_or]
      · have inFault : (countGood (resumeReceive s)).stc.fault = true := fault
        rw [inFault, Bool.or_true]
    simp only [takeFrame, own, Bool.false_eq_true, if_false, validFrame]
    rw [if_pos stops]
    rfl

/-! ## A full queue refuses a request that ranks with its frames (R48) -/

theorem foldl_max_le {b : Nat} (l : List Nat) (acc : Option Nat) (bound : ∀ c ∈ l, c ≤ b) (low : ∀ d, acc = some d → d ≤ b) :
    ∀ w, l.foldl (fun acc c => match acc with | none => some c | some d => some (max d c)) acc = some w → w ≤ b := by
  induction l generalizing acc with
  | nil => exact low
  | cons c l ih =>
    refine ih _ (fun d hd => bound d (List.mem_cons_of_mem c hd)) fun d is => ?_
    have now := bound c List.mem_cons_self
    cases acc with
    | none => obtain rfl := Option.some.inj is; exact now
    | some e =>
      obtain rfl := Option.some.inj is
      exact Nat.max_le.mpr ⟨low e rfl, now⟩

theorem worstClass_le {b : Nat} {s : State} (bound : ∀ q ∈ s.cau.queue, q.req.cls ≤ b) {w : Nat}
    (worst : worstClass s = some w) : w ≤ b := by
  refine foldl_max_le _ none (fun c hc => ?_) nofun w worst
  obtain ⟨q, hq, rfl⟩ := List.mem_map.mp hc
  exact bound q (List.mem_filter.mp hq).1

/-- In a full queue of frames of its class and better a request is refused. -/
theorem placeRequest_refused {q : Request} {s : State} (full : 16 ≤ s.cau.queue.length)
    (bound : ∀ x ∈ s.cau.queue, x.req.cls ≤ q.cls) : placeRequest q s = (s, .dropped) := by
  have short : ¬s.cau.queue.length < queueCapacity := by
    unfold queueCapacity
    omega
  unfold placeRequest
  rw [if_neg short]
  cases worst : worstClass s with
  | none => rfl
  | some w => exact if_neg (Nat.not_lt.mpr (worstClass_le bound worst))

/-- The report test where the queue refuses the FARE: the hold is set (R135). -/
theorem reportTest_refused {s : State} {r : LogRecord} (may : mayReport s = true) (oldest : oldestUnsent s = some r)
    (noFare : ∀ q ∈ s.cau.queue, q.req.kind ≠ .fare) (full : 16 ≤ s.cau.queue.length)
    (bound : ∀ q ∈ s.cau.queue, q.req.cls ≤ 3) :
    reportTest s = { s with tlu := { s.tlu with hold := some s.nbt.ticks } } := by
  have refuses : requestFrame (fareRequest s r.number) s = (s, .dropped) :=
    (requestFrame_places (q := fareRequest s r.number) nofun (fun e he both => noFare e he both.2) nofun
      (fun _ => noFare) nofun).trans (placeRequest_refused full bound)
  unfold reportTest
  rw [if_pos may, oldest]
  dsimp only
  rw [refuses]
  exact if_pos rfl

end Sys2Proof.Machine
end

section
/-! PROOFS. What the header of a heard frame leaves, and the report test it may take. -/

namespace Sys2Proof.Machine

open Sys2Proof

-- The kernel's checks run one after another: side by side they ask for more threads than there is room for.
set_option Elab.async false

/-! ## The neighbour of a header (R68, R69, R72) -/

/-- After its header the source's entry is one just heard, at the header's position. -/
theorem refreshNeighbour_heard (h : Header) (s : State) :
    ∃ n, (refreshNeighbour h s).neighbour h.source = some n ∧ n.lastHeard = s.nbt.ticks ∧
      n.position = headerPosition h := by
  unfold refreshNeighbour
  split
  · rename_i old known
    have named : old.station = h.source := by simpa using List.find?_some known
    refine ⟨old.refreshed h s.nbt.ticks, ?_, rfl, rfl⟩
    show (updateWhere _ _ s.nbt.neighbours).find? _ = _
    rw [find?_updateWhere (fun n : Neighbour => decide (n.station = h.source)) _ (fun n => n.refreshed h s.nbt.ticks) _
      fun _ _ => rfl]
    have same : s.nbt.neighbours.find? (·.station = h.source) = some old := known
    rw [same]
    simp [named]
  · rename_i unknown
    refine ⟨newNeighbour h s.nbt.ticks, ?_, rfl, rfl⟩
    have sub : (roomForNeighbour s).nbt.neighbours.Sublist s.nbt.neighbours := by
      unfold roomForNeighbour
      split
      · exact List.Sublist.refl _
      · split
        · rw [dropNeighbour_nbtOnly]
          exact List.filter_sublist
        · exact List.Sublist.refl _
    have absent : (roomForNeighbour s).nbt.neighbours.find? (·.station = h.source) = none := by
      rw [List.find?_eq_none]
      exact fun n hn => List.find?_eq_none.mp unknown n (sub.subset hn)
    have ticks : (roomForNeighbour s).nbt.ticks = s.nbt.ticks := by rw [roomForNeighbour_nbtOnly]
    show ((roomForNeighbour s).nbt.neighbours ++ [newNeighbour h (roomForNeighbour s).nbt.ticks]).find? _ = _
    rw [List.find?_append, absent, ticks]
    simp [newNeighbour]

/-- The table after a header of home dispatch, its level reachable, before any report test. -/
def homeRefreshed (h : Header) (s : State) : State :=
  { refreshNeighbour h s with nbt := { (refreshNeighbour h s).nbt with homeLevel := true } }

/-- Home dispatch has an entry heard at this very tick. -/
def HomeHeardNow (s : State) : Prop :=
  ∃ n, s.neighbour s.stc.config.home = some n ∧ n.lastHeard = s.nbt.ticks

theorem HomeHeardNow.asked {s t : State} (heard : HomeHeardNow s) (asked : Asked s t) : HomeHeardNow t := by
  have neighbours : t.nbt.neighbours = s.nbt.neighbours := by rw [asked.nbt]
  have ticks : t.nbt.ticks = s.nbt.ticks := by rw [asked.nbt]
  unfold HomeHeardNow State.neighbour at heard ⊢
  rwa [neighbours, ticks, asked.stc]

theorem homeRefreshed_heardNow {h : Header} {s : State} (home : h.source = s.stc.config.home) :
    HomeHeardNow (homeRefreshed h s) := by
  obtain ⟨n, found, now, -⟩ := refreshNeighbour_heard h s
  have kept := refreshNeighbour_nbtOnly h s
  refine ⟨n, ?_, ?_⟩
  · show (refreshNeighbour h s).nbt.neighbours.find? (·.station = (refreshNeighbour h s).stc.config.home) = some n
    have stc : (refreshNeighbour h s).stc = s.stc := by rw [kept]
    rw [stc, ← home]
    exact found
  · show n.lastHeard = (refreshNeighbour h s).nbt.ticks
    have ticks : (refreshNeighbour h s).nbt.ticks = s.nbt.ticks := by rw [kept]
    rw [ticks, now]

theorem HomeHeardNow.reachable {s : State} (heard : HomeHeardNow s) (reach : 1 ≤ s.stc.config.tReach) :
    s.homeReachable = true := by
  obtain ⟨n, found, now⟩ := heard
  simp only [State.homeReachable, found, State.age, now, Nat.sub_self, decide_eq_true_eq]
  exact reach

/-! ## The report test a header of home takes (R72, R73, R135, R136) -/

theorem homeHeard_of_none {s : State} (free : s.tlu.hold = none) : homeHeard s = s := by
  simp [homeHeard, free]

/-- A hold of this tick or later is not lifted. -/
theorem homeHeard_of_recent {s : State} {h : Nat} (heard : HomeHeardNow s) (held : s.tlu.hold = some h)
    (recent : s.nbt.ticks ≤ h) : homeHeard s = s := by
  obtain ⟨n, found, now⟩ := heard
  simp only [homeHeard, held, found, now]
  exact if_neg (Nat.not_lt.mpr recent)

/-- A hold of an earlier tick is lifted, and the report test taken. -/
theorem homeHeard_of_older {s : State} {h : Nat} (heard : HomeHeardNow s) (held : s.tlu.hold = some h)
    (older : h < s.nbt.ticks) : homeHeard s = reportTest { s with tlu := { s.tlu with hold := none } } := by
  obtain ⟨n, found, now⟩ := heard
  simp only [homeHeard, held, found, now]
  exact if_pos older

theorem reportTest_of_held {s : State} {h : Nat} (held : s.tlu.hold = some h) : reportTest s = s :=
  reportTest_waits (by simp [mayReport, held])

/-- The hold stands, or is set at this very tick. -/
def HoldNow (s t : State) : Prop := t.tlu.hold = s.tlu.hold ∨ t.tlu.hold = some s.nbt.ticks

theorem toldDropped_holdNow (kind : FrameKind) (tag : Tag) (s : State) : HoldNow s (toldDropped kind tag s) := by
  unfold toldDropped HoldNow
  split
  · split <;> exact .inl rfl
  · exact .inl rfl
  · unfold fareLost
    split
    · exact .inr rfl
    · exact .inl rfl
  · split
    · exact .inl (by simp [clearDropped]; split <;> rfl)
    · exact .inl rfl
  · exact .inl rfl
  · exact .inl rfl

theorem placeRequest_holdNow (q : Request) (s : State) : HoldNow s (placeRequest q s).1 := by
  unfold placeRequest
  split
  · exact .inl rfl
  · split
    · exact .inl rfl
    · split
      · split
        · exact .inl rfl
        · exact toldDropped_holdNow _ _ (dequeue _ s)
      · exact .inl rfl

theorem requestFare_eq {q : Request} (fare : q.kind = .fare) (s : State) :
    requestFrame q s = (s, .merged) ∨ requestFrame q s = (s, .dropped) ∨ requestFrame q s = placeRequest q s := by
  have notBeacon : q.kind ≠ .beacon := by
    rw [fare]
    nofun
  have general : requestGeneral q s = (s, .merged) ∨ requestGeneral q s = placeRequest q s := by
    have cancels : withdrawCancels q s = none := by simp [withdrawCancels, fare]
    unfold requestGeneral
    rw [cancels]
    split
    · exact .inl rfl
    · exact .inr rfl
  unfold requestFrame
  rw [if_neg notBeacon, if_pos fare]
  split
  · split
    · exact .inl rfl
    · exact .inr (.inl rfl)
  · rcases general with merged | placed
    · exact .inl merged
    · exact .inr (.inr placed)

theorem requestFare_holdNow {q : Request} (fare : q.kind = .fare) (s : State) : HoldNow s (requestFrame q s).1 := by
  rcases requestFare_eq fare s with same | same | same <;> rw [same]
  · exact .inl rfl
  · exact .inl rfl
  · exact placeRequest_holdNow q s

theorem reportTest_holdNow (s : State) : HoldNow s (reportTest s) := by
  unfold reportTest
  split
  · split
    · exact .inl rfl
    · rename_i r _
      dsimp only
      split
      · have ticks := congrArg Nbt.ticks (requestFrame_asked (fareRequest s r.number) s).nbt
        exact .inr (congrArg some ticks)
      · exact requestFare_holdNow (q := fareRequest s r.number) rfl s
  · exact .inl rfl

theorem findLast_mem {α : Type} {p : α → Bool} {l : List α} {a : α} (found : findLast p l = some a) :
    a ∈ l ∧ p a = true := by
  rw [findLast_eq] at found
  exact List.mem_filter.mp (List.mem_of_getLast? found)

/-- The frames of a class worse than a report's are BEACONs. -/
def WorstAreBeacons (s : State) : Prop := ∀ e ∈ s.cau.queue, 3 < e.req.cls → e.req.tag = .beacon

theorem ClassesByKind.worstAreBeacons {s : State} (classes : ClassesByKind s) : WorstAreBeacons s := by
  intro e he worst
  have cls := (classes.1 e he).1
  cases tag : e.req.tag with
  | beacon => rfl
  | _ => simp [tag, Tag.classOf] at cls; omega

/-- A report displaces a BEACON at worst, and no offer is told. -/
theorem placeRequest_ocu {q : Request} {s : State} (cls : q.cls = 3) (worst : WorstAreBeacons s) :
    (placeRequest q s).1.ocu = s.ocu := by
  unfold placeRequest
  split
  · rfl
  · split
    · rfl
    · split
      · rename_i w _ below
        split
        · rfl
        · rename_i e newest
          obtain ⟨mem, is⟩ := findLast_mem newest
          simp only [Bool.and_eq_true, decide_eq_true_eq] at is
          rw [worst e mem (by omega)]
          rfl
      · rfl

theorem reportTest_ocu {s : State} (worst : WorstAreBeacons s) : (reportTest s).ocu = s.ocu := by
  have kept : ∀ n, (requestFrame (fareRequest s n) s).1.ocu = s.ocu := fun n => by
    rcases requestFare_eq (q := fareRequest s n) rfl s with same | same | same <;> rw [same]
    exact placeRequest_ocu rfl worst
  unfold reportTest
  split
  · split
    · rfl
    · dsimp only
      split
      · exact kept _
      · exact kept _
  · rfl

/-- When a header of home leads to the report test: home had been unreachable, or held back in an earlier tick. -/
def HomeAsksReport (s : State) : Prop :=
  s.tlu.hold = none ∧ s.homeReachable = false ∨ ∃ h, s.tlu.hold = some h ∧ h < s.nbt.ticks

/-- The hold lifted. -/
def unheld (s : State) : State := { s with tlu := { s.tlu with hold := none } }

theorem unheld_of_none {s : State} (free : s.tlu.hold = none) : unheld s = s := by
  unfold unheld
  rw [← free]

theorem hearHeader_home {h : Header} {s : State} (home : h.source = s.stc.config.home) :
    hearHeader h s = homeHeard (if s.homeReachable then homeRefreshed h s else reportTest (homeRefreshed h s)) := by
  unfold hearHeader hearHome
  dsimp only
  rw [if_pos home]
  rfl

theorem homeRefreshed_tlu (h : Header) (s : State) : (homeRefreshed h s).tlu = s.tlu := by
  unfold homeRefreshed
  rw [refreshNeighbour_nbtOnly]

theorem homeRefreshed_ticks (h : Header) (s : State) : (homeRefreshed h s).nbt.ticks = s.nbt.ticks := by
  unfold homeRefreshed
  rw [refreshNeighbour_nbtOnly]

/-- A header of home takes the report test where `HomeAsksReport`, and is otherwise the header alone. -/
theorem hearHeader_home_cases {h : Header} {s : State} (home : h.source = s.stc.config.home) :
    (HomeAsksReport s → hearHeader h s = reportTest (unheld (homeRefreshed h s))) ∧
      (¬HomeAsksReport s → hearHeader h s = homeRefreshed h s) := by
  have heard := homeRefreshed_heardNow (h := h) home
  have tlu := homeRefreshed_tlu h s
  have ticks := homeRefreshed_ticks h s
  rw [hearHeader_home home]
  refine ⟨?_, fun quiet => ?_⟩
  · rintro (⟨free, away⟩ | ⟨hold, held, older⟩)
    · rw [away, if_neg Bool.false_ne_true, unheld_of_none (by rw [tlu, free])]
      have heard' := heard.asked (reportTest_asked _)
      have ticks' : (reportTest (homeRefreshed h s)).nbt.ticks = (homeRefreshed h s).nbt.ticks :=
        by rw [(reportTest_asked _).nbt]
      rcases reportTest_holdNow (homeRefreshed h s) with same | now
      · exact homeHeard_of_none (by rw [same, tlu, free])
      · exact homeHeard_of_recent heard' now ticks'.le
    · have waits : (if s.homeReachable then homeRefreshed h s else reportTest (homeRefreshed h s)) = homeRefreshed h s := by
        rw [reportTest_of_held (by rw [tlu, held]), ite_self]
      rw [waits]
      exact homeHeard_of_older heard (by rw [tlu, held]) (by rwa [ticks])
  · cases held : s.tlu.hold with
    | none =>
      have reach : s.homeReachable = true := by
        by_contra away
        exact quiet (.inl ⟨held, by simpa using away⟩)
      rw [reach, if_pos rfl]
      exact homeHeard_of_none (by rw [tlu, held])
    | some hold =>
      have waits : (if s.homeReachable then homeRefreshed h s else reportTest (homeRefreshed h s)) = homeRefreshed h s := by
        rw [reportTest_of_held (by rw [tlu, held]), ite_self]
      rw [waits]
      refine homeHeard_of_recent heard (by rw [tlu, held]) ?_
      rw [ticks]
      by_contra older
      exact quiet (.inr ⟨hold, held, by omega⟩)

/-! ## A frame of which the header alone is used (R33, R35) -/

/-- A heard kind whose payload has no owner leaves the header's work alone. -/
theorem headerAlone_run {c : Instr} {kind : Nat} {f : AirFrame} {s : State}
    (row : (c, kind) ∈ [(Instr.beacon f, 0), (Instr.fare f, 9), (Instr.unassignedKind 14 f, 14),
      (Instr.unassignedKind 15 f, 15)]) (heard : Heard kind f s) :
    exec c s = .next (finish (headerTaken f s)) := by
  obtain ⟨gathered, sound, fleet, same, notZero, notOwn⟩ := heard
  have own : foreignFrame f (resumeReceive s) = false := by
    simp [foreignFrame, resumeReceive, fleet, same]
  have goes : (decide (f.header.source = 0) || decide (f.header.source = (countGood (resumeReceive s)).own) ||
      (countGood (resumeReceive s)).stc.fault) = false := by
    have notOwn' : f.header.source ≠ (countGood (resumeReceive s)).own := notOwn
    have sound' : (countGood (resumeReceive s)).stc.fault = false := sound
    rw [decide_eq_false notZero, decide_eq_false notOwn', sound']
    rfl
  have takes : ∀ k, takeFrame (kindOfCode k) f s = routeKind (kindOfCode k) f (headerTaken f s) := by
    intro k
    simp only [takeFrame, own, Bool.false_eq_true, if_false, validFrame]
    rw [if_neg (by rw [goes]; exact Bool.false_ne_true)]
    rfl
  have noOwner : ∀ k, k = .beacon ∨ k = .fare → ∀ u, routeKind (some k) f u = u := by
    rintro k (rfl | rfl) u <;> simp [routeKind, route, isAlarmFamily, asksAck, kindHasOwner, deliver]
  have taken : ∀ u, takeFrame (kindOfCode kind) f s = u → receiveFrame kind f s = .next (finish u) := fun u takes =>
    receiveFrame_taken gathered takes
  simp only [List.mem_cons, Prod.mk.injEq, List.not_mem_nil, or_false] at row
  rcases row with ⟨rfl, rfl⟩ | ⟨rfl, rfl⟩ | ⟨rfl, rfl⟩ | ⟨rfl, rfl⟩
  · exact taken _ ((takes 0).trans (noOwner .beacon (.inl rfl) _))
  · exact taken _ ((takes 9).trans (noOwner .fare (.inr rfl) _))
  · exact taken _ (takes 14)
  · exact taken _ (takes 15)

/-- The state in which a header of home takes its report test. -/
def atReport (h : Header) (s : State) : State := unheld (homeRefreshed h s)

theorem atReport_parts (h : Header) (s : State) :
    (atReport h s).tlu = { s.tlu with hold := none } ∧ (atReport h s).cau = s.cau ∧ (atReport h s).stc = s.stc ∧
      (atReport h s).ocu = s.ocu ∧ (atReport h s).nbt.ticks = s.nbt.ticks := by
  unfold atReport unheld homeRefreshed
  rw [refreshNeighbour_nbtOnly]
  exact ⟨rfl, rfl, rfl, rfl, rfl⟩

theorem mayReport_atReport {h : Header} {s : State} (home : h.source = s.stc.config.home)
    (reach : 1 ≤ s.stc.config.tReach) (landed : ∀ x ∈ s.tlu.log, x.state ≠ .inFlight) :
    mayReport (atReport h s) = true := by
  obtain ⟨tlu, -, stc, -⟩ := atReport_parts h s
  have heard : HomeHeardNow (atReport h s) := homeRefreshed_heardNow home
  have reachable := heard.reachable (by rwa [stc])
  have none : (atReport h s).tlu.log.any (·.state = .inFlight) = false := by
    rw [tlu, List.any_eq_false]
    simpa using landed
  have free : (atReport h s).tlu.hold = Option.none := by rw [tlu]
  simp [mayReport, reachable, none, free]

/-- With a record IN_FLIGHT, or none UNSENT, the report test does nothing. -/
theorem reportTest_of_nothing {s : State} (nothing : (∃ x ∈ s.tlu.log, x.state = .inFlight) ∨
    ∀ x ∈ s.tlu.log, x.state ≠ .unsent) : reportTest s = s := by
  rcases nothing with ⟨x, mem, flies⟩ | sent
  · have some : s.tlu.log.any (·.state = .inFlight) = true := List.any_eq_true.mpr ⟨x, mem, by simpa using flies⟩
    exact reportTest_waits (by simp [mayReport, some])
  · have oldest : oldestUnsent s = none := by
      unfold oldestUnsent
      rw [List.find?_eq_none]
      simpa using sent
    unfold reportTest
    rw [oldest]
    split <;> rfl

/-- Settles O34: the neighbour's entry, and by the source home's level and the report test. -/
theorem headerRefreshesTheNeighbour : Obligations.HeaderRefreshesTheNeighbour := by
  intro c kind f s row heard
  let u : State := countGood (resumeReceive s)
  let v : State := headerTaken f s
  obtain ⟨neighbours, level, asked, table, reach, other⟩ := hearHeader_asked f.header u
  have asked : Asked { u with nbt := { u.nbt with neighbours := neighbours, homeLevel := level } } v := asked
  obtain ⟨relays, nbt⟩ : ∃ relays, v.nbt =
      { s.nbt with neighbours := neighbours, homeLevel := level, relays := relays } := ⟨_, asked.nbt⟩
  obtain ⟨tlu₀, cau₀, stc₀, ocu₀, ticks₀⟩ := atReport_parts f.header u
  refine ⟨finish v, headerAlone_run row heard, ?fre, ?stretch, ?entry, ?level, fun home tReach => ⟨?ocu, ?quiet, ?report⟩,
    ?elsewhere, ?dups, ?ticks, ?dtc, ?fmr, ?lines, ?config, ?now⟩
  case fre =>
    have kept : v.fre = u.fre := asked.fre
    rw [(finish_settled v).keeps.2.2.1, kept]
    rfl
  case stretch =>
    have kept : v.cns = u.cns := asked.cns
    simp only [finish_fields, kept]
    rfl
  case entry =>
    refine ⟨_, ?_, rfl⟩
    have entry := refreshNeighbour_mem f.header u
    rw [← table] at entry
    have kept : (finish v).nbt.neighbours = neighbours := by simp [nbt]
    rw [kept]
    exact entry
  case level =>
    intro home
    simpa [nbt] using reach home
  case ocu =>
    intro classes
    have worst : WorstAreBeacons (atReport f.header u) := by
      unfold WorstAreBeacons
      rw [cau₀]
      exact classes.worstAreBeacons
    have kept : v.ocu = s.ocu := by
      obtain ⟨asks, rests⟩ := hearHeader_home_cases (s := u) home
      by_cases ask : HomeAsksReport u
      · rw [show v = reportTest (atReport f.header u) from asks ask, reportTest_ocu worst, ocu₀]
        rfl
      · rw [show v = homeRefreshed f.header u from rests ask]
        exact ocu₀
    simp [kept]
  case quiet =>
    intro calm recent
    have rests : v = homeRefreshed f.header u := (hearHeader_home_cases (s := u) home).2 (by
      rintro (⟨free, away⟩ | ⟨h, held, older⟩)
      · rw [show s.homeReachable = false from away] at calm
        exact Bool.false_ne_true (calm free)
      · exact absurd (recent h held) (Nat.not_le.mpr older))
    have tlu : v.tlu = s.tlu := by
      rw [rests]
      exact homeRefreshed_tlu f.header u
    have cau : v.cau = s.cau := by
      rw [rests]
      exact cau₀
    simp [tlu, cau]
  case report =>
    intro asks
    have taken : v = reportTest (atReport f.header u) := (hearHeader_home_cases (s := u) home).1 asks
    refine ⟨fun nothing => ?_, fun r landed oldest noFare => ⟨fun short => ?_, fun full bound => ?_⟩⟩
    · have rests : v = atReport f.header u := taken.trans (reportTest_of_nothing (by rw [tlu₀]; exact nothing))
      have tlu : v.tlu = { s.tlu with hold := none } := by rw [rests]; exact tlu₀
      have cau : v.cau = s.cau := by rw [rests]; exact cau₀
      simp [tlu, cau]
    · have may := mayReport_atReport (s := u) home tReach landed
      have oldest' : oldestUnsent (atReport f.header u) = some r := by
        unfold oldestUnsent
        rw [tlu₀]
        exact oldest
      have reported := taken.trans (reportTest_reports may oldest' (by rw [cau₀]; exact short) (by rw [cau₀]; exact noFare))
      have tlu : v.tlu = { s.tlu with
          hold := none
          log := s.tlu.log.map fun x => if x.number = r.number then { x with state := .inFlight } else x } := by
        rw [reported]
        simp only [State.setReport, admitEntry_frame, tlu₀, updateWhere, decide_eq_true_eq]
        rfl
      refine ⟨by simp [tlu], admitted (fareRequest (atReport f.header u) r.number) (atReport f.header u), ?_, ?_⟩
      · simpa [reported] using admitted_mem _ _
      · show fareRequest _ _ = _
        rw [fareRequest, stc₀]
        rfl
    · have may := mayReport_atReport (s := u) home tReach landed
      have oldest' : oldestUnsent (atReport f.header u) = some r := by
        unfold oldestUnsent
        rw [tlu₀]
        exact oldest
      have held := taken.trans (reportTest_refused may oldest' (by rw [cau₀]; exact noFare) (by rw [cau₀]; exact full)
        (by rw [cau₀]; exact bound))
      have tlu : v.tlu = { s.tlu with hold := some s.nbt.ticks } := by
        rw [held, tlu₀, ticks₀]
        rfl
      have cau : v.cau = s.cau := by rw [held]; exact cau₀
      simp [tlu, cau]
  case elsewhere =>
    intro away
    have rests : v = { u with nbt := { u.nbt with neighbours := neighbours, homeLevel := level } } := other away
    rw [rests]
    simp [u, countGood, signalActivity, updCounters, resumeReceive]
  case dups => simp [nbt]
  case ticks => simp [nbt]
  case dtc =>
    have kept : v.dtc = s.dtc := asked.dtc
    simp [kept]
  case fmr =>
    have kept : v.fmr = s.fmr := asked.fmr
    simp [kept]
  case lines =>
    have kept : v.lines = s.lines := asked.lines
    simp [kept]
  case config =>
    have kept : v.stc = s.stc := asked.stc
    simp [kept]
  case now =>
    have kept : v.now = s.now := asked.clocks.1
    simp [kept]

end Sys2Proof.Machine
end

section
/-! PROOFS. A delivered frame at its owner, and the OFFER. -/

namespace Sys2Proof.Machine

open Sys2Proof

-- The kernel's checks run one after another: side by side they ask for more threads than there is room for.
set_option Elab.async false

/-! ## A delivered frame (R35 to R38) -/

/-- The state with the key and the pending ACK of an acknowledged frame. -/
def withAck (dups : List DupKey) (ack : Option PendingAck) (s : State) : State :=
  { s with
    nbt := { s.nbt with dups := dups }
    fre := { s.fre with pendingAck := ack } }

@[simp] theorem withAck_frame (dups : List DupKey) (ack : Option PendingAck) (s : State) :
    (withAck dups ack s).lines = s.lines ∧ (withAck dups ack s).stc = s.stc ∧ (withAck dups ack s).dtc = s.dtc ∧
    (withAck dups ack s).cau = s.cau ∧ (withAck dups ack s).ocu = s.ocu ∧ (withAck dups ack s).fmr = s.fmr ∧
    (withAck dups ack s).tlu = s.tlu ∧ (withAck dups ack s).mst = s.mst ∧ (withAck dups ack s).cns = s.cns ∧
    (withAck dups ack s).emu = s.emu ∧ (withAck dups ack s).now = s.now ∧
    (withAck dups ack s).nbt.relays = s.nbt.relays :=
  ⟨rfl, rfl, rfl, rfl, rfl, rfl, rfl, rfl, rfl, rfl, rfl, rfl⟩

/-- What meets the owner of a delivered frame: the header's work, as far as it asked for frames. -/
structure MetOwner (f : AirFrame) (s w : State) : Prop where
  asked : ∃ neighbours level, Asked (framed neighbours level s) w
  other : f.header.source ≠ s.stc.config.home → ∃ neighbours level, w = framed neighbours level s

theorem delivered_run {k : FrameKind} {f : AirFrame} {s : State} (h : Delivered k f s) :
    ∃ w dups ack, MetOwner f s w ∧ exec (frameCommand k f) s = .next (finish (withAck dups ack (deliver k f w))) := by
  obtain ⟨neighbours, level, asked, -, other⟩ := headerTaken_asked f s
  obtain ⟨dups, ack, routed⟩ := routeKind_delivered h
  refine ⟨headerTaken f s, dups, ack, ⟨⟨_, _, asked⟩, fun away => ⟨_, _, other away⟩⟩, ?_⟩
  rw [receiveFrame_heard h.1, routed]
  rfl

/-! What the header's work leaves for the owner. -/

section
variable {f : AirFrame} {s w : State}

theorem MetOwner.parts (met : MetOwner f s w) :
    w.lines = s.lines ∧ w.stc = s.stc ∧ w.dtc = s.dtc ∧ w.fmr = s.fmr ∧ w.now = s.now ∧ w.emu.state = s.emu.state ∧
      w.mst.openEntry = s.mst.openEntry ∧ w.emu.alarms = s.emu.alarms ∧ w.nbt.dups = s.nbt.dups ∧
      w.nbt.ticks = s.nbt.ticks := by
  obtain ⟨n, l, asked⟩ := met.asked
  have emu := asked.emu
  have mst := asked.mst
  have nbt := asked.nbt
  refine ⟨asked.lines, asked.stc, asked.dtc, asked.fmr, asked.clocks.1, ?_, ?_, ?_, ?_, ?_⟩
  · rw [emu]; rfl
  · rw [mst]; rfl
  · rw [emu]; rfl
  · rw [nbt]; rfl
  · rw [nbt]; rfl

theorem MetOwner.own (met : MetOwner f s w) : w.own = s.own := by
  obtain ⟨-, stc, -⟩ := met.parts
  unfold State.own
  rw [stc]

/-- The offers are those of before, but for a BID's place in the queue. -/
theorem MetOwner.offers (met : MetOwner f s w) :
    w.ocu.offers.map (fun e => { e with bidFrame := BidFrame.none }) =
      s.ocu.offers.map fun e => { e with bidFrame := BidFrame.none } := by
  obtain ⟨n, l, asked⟩ := met.asked
  exact asked.ocu

end

/-! Lists of offers that agree but for the bid frames. -/

section
variable {l m : List OfferEntry}
  (h : m.map (fun e => { e with bidFrame := BidFrame.none }) = l.map fun e => { e with bidFrame := BidFrame.none })
include h

theorem any_of_bidFrame (p : OfferEntry → Bool) (hp : ∀ e, p { e with bidFrame := .none } = p e) : m.any p = l.any p := by
  have both := congrArg (List.any · p) h
  simp only [List.any_map] at both
  have same : (p ∘ fun e : OfferEntry => { e with bidFrame := BidFrame.none }) = p := funext hp
  rwa [same] at both

theorem map_of_bidFrame {β : Type} (g : OfferEntry → β) (hg : ∀ e, g { e with bidFrame := .none } = g e) :
    m.map g = l.map g := by
  have both := congrArg (List.map g) h
  simp only [List.map_map] at both
  have same : (g ∘ fun e : OfferEntry => { e with bidFrame := BidFrame.none }) = g := funext hg
  rwa [same] at both

end

/-! ## An OFFER (R86 to R89) -/

theorem MetOwner.knows {f : AirFrame} {s w : State} (met : MetOwner f s w) (id : OfferId) :
    (w.offer? id).isSome = (s.offer? id).isSome := by
  have both := any_of_bidFrame met.offers (fun e => decide (e.id = id)) fun _ => rfl
  rw [Bool.eq_iff_iff, List.any_eq_true, List.any_eq_true] at both
  unfold State.offer?
  rw [Bool.eq_iff_iff, List.find?_isSome, List.find?_isSome]
  exact both

theorem any_of_removeFirst_room {l : List OfferEntry} (room : l.length < 8 ∨ l.length = 8 ∧ l.any (·.state.spent) = true) :
    (roomForOffer l).length < offerCapacity := by
  have capacity : offerCapacity = 8 := rfl
  unfold roomForOffer
  split
  · assumption
  · rename_i full
    rcases room with short | ⟨eight, spent⟩
    · exact absurd short full
    · have shorter := length_removeFirst_lt (p := fun e : OfferEntry => e.state.spent) (by simpa using spent)
      omega

theorem eligible_congr {s t : State} (p : OfferPayload) (dtc : t.dtc = s.dtc) (emu : t.emu.state = s.emu.state)
    (stc : t.stc = s.stc) (lines : t.lines = s.lines) : eligible p t = eligible p s := by
  have position : t.position = s.position := by simp [State.position, dtc]
  simp only [eligible, dtc, State.emergencyIdle, emu, stc, lines, position]

theorem newOffer_congr {s t : State} (id : OfferId) (p : OfferPayload) (dtc : t.dtc = s.dtc)
    (emu : t.emu.state = s.emu.state) (stc : t.stc = s.stc) (lines : t.lines = s.lines) (now : t.now = s.now) :
    newOffer id p t = newOffer id p s := by
  have position : t.position = s.position := by simp [State.position, dtc]
  unfold newOffer
  simp only [eligible_congr p dtc emu stc lines, now, offerScore, position, stc, State.vacantMinutes, dtc]

/-- A new entry of a contest that is joined. -/
theorem newOffer_eligible (id : OfferId) {p : OfferPayload} {s : State} (joins : eligible p s = true) :
    (newOffer id p s).state = .waiting ∧ (newOffer id p s).ownScore = some (offerScore p.pickup s) ∧
      (newOffer id p s).ownVacant = some s.vacantMinutes ∧
      (newOffer id p s).delayDeadline = some (s.now + bidDelay (offerScore p.pickup s) (100 * p.window)) := by
  unfold newOffer
  dsimp only
  rw [if_pos joins]
  exact ⟨rfl, rfl, rfl, rfl⟩

theorem newOffer_passed (id : OfferId) {p : OfferPayload} {s : State} (passes : eligible p s = false) :
    (newOffer id p s).state = .passed ∧ (newOffer id p s).ownScore = none ∧ (newOffer id p s).ownVacant = none ∧
      (newOffer id p s).delayDeadline = none := by
  unfold newOffer
  dsimp only
  rw [if_neg (by simp [passes])]
  exact ⟨rfl, rfl, rfl, rfl⟩

theorem newOffer_fields (id : OfferId) (p : OfferPayload) (s : State) :
    (newOffer id p s).id = id ∧ (newOffer id p s).arrival = s.now ∧ (newOffer id p s).pickup = p.pickup ∧
      (newOffer id p s).radius = p.radius ∧ (newOffer id p s).text = p.text ∧
      (newOffer id p s).windowEnd = s.now + 100 * p.window ∧ (newOffer id p s).bidFrame = .none ∧
      (newOffer id p s).jobTimer = none ∧ (newOffer id p s).heard = [] := by
  unfold newOffer
  dsimp only
  split <;> exact ⟨rfl, rfl, rfl, rfl, rfl, rfl, rfl, rfl, rfl⟩

/-- Settles O35: the new entry of an OFFER, and a known one. -/
theorem offerMakesAnEntry : Obligations.OfferMakesAnEntry := by
  intro f p s delivered parses
  obtain ⟨w, dups, ack, met, run⟩ := delivered_run delivered
  obtain ⟨lines, stc, dtc, fmr, now, emu, -⟩ := met.parts
  have owner : deliver .offer f w = hearOffer f.header.source p w := by simp [deliver, parses]
  rw [owner] at run
  refine ⟨fun fresh room => ?_, fun known => ?_⟩
  · let id : OfferId := ⟨f.header.source, p.serial⟩
    have unknown : (w.offer? id).isSome = false := by rw [met.knows, fresh]; rfl
    have fits : (roomForOffer w.ocu.offers).length < offerCapacity := by
      refine any_of_removeFirst_room ?_
      have length : w.ocu.offers.length = s.ocu.offers.length := by
        simpa using congrArg List.length met.offers
      rw [length, any_of_bidFrame met.offers (fun e => e.state.spent) fun _ => rfl]
      simpa using room
    have made : hearOffer f.header.source p w =
        { w with ocu := { w.ocu with offers := roomForOffer w.ocu.offers ++ [newOffer id p w] } } := by
      unfold hearOffer
      dsimp only
      rw [if_neg (by rw [unknown]; exact Bool.false_ne_true), if_pos fits]
    have same : newOffer id p w = newOffer id p s := newOffer_congr id p dtc emu stc lines now
    obtain ⟨hid, arrival, pickup, radius, text, windowEnd, bidFrame, jobTimer, heard⟩ := newOffer_fields id p s
    refine ⟨_, newOffer id p s, ?_, run, hid, arrival, pickup, radius, text, windowEnd, bidFrame, jobTimer, heard,
      fun joins => ?_, fun passes => newOffer_passed id passes, ?_, ?_, ?_, ?_⟩
    · rw [made, same]
      simp
    · obtain ⟨state, score, vacant, delay⟩ := newOffer_eligible id joins
      exact ⟨offerScore p.pickup s, state, score, rfl, vacant, delay⟩
    all_goals simp [dtc, fmr, lines, emu]
  · have stays : hearOffer f.header.source p w = w := by
      unfold hearOffer
      dsimp only
      rw [if_pos (by rw [met.knows]; exact known)]
    rw [stays] at run
    refine ⟨_, run, ?_, ?_, ?_, ?_, ?_⟩
    · simpa using map_of_bidFrame met.offers (fun e => (e.id, e.state, e.windowEnd, e.delayDeadline)) fun _ => rfl
    all_goals simp [dtc, fmr, lines, emu]

end Sys2Proof.Machine
end

section
/-! PROOFS. Heard bids at the contest of an offer. -/

namespace Sys2Proof.Machine

open Sys2Proof

-- The kernel's checks run one after another: side by side they ask for more threads than there is room for.
set_option Elab.async false

/-! ## One entry of the table -/

theorem offer?_updOffer {s : State} {id : OfferId} {e : OfferEntry} {f : OfferEntry → OfferEntry}
    (hid : ∀ e, (f e).id = e.id) (found : s.offer? id = some e) : (s.updOffer id f).offer? id = some (f e) := by
  obtain ⟨-, named⟩ := offer?_mem found
  show (updateWhere _ _ s.ocu.offers).find? _ = _
  rw [find?_updateWhere (fun e : OfferEntry => decide (e.id = id)) _ f _ fun a _ => by rw [hid]]
  have same : s.ocu.offers.find? (·.id = id) = some e := found
  rw [same]
  simp [named]

theorem offer?_congr {s t : State} (ocu : t.ocu = s.ocu) (id : OfferId) : t.offer? id = s.offer? id := by
  unfold State.offer?
  rw [ocu]

/-- An entry that a better bid is known for (R93). -/
def OfferEntry.yieldsTo (e : OfferEntry) : OfferEntry :=
  if e.state = .waiting then { e with state := .yielded, delayDeadline := none }
  else if e.state = .bid then
    { e with
      state := .yielded
      bidFrame := if e.bidFrame = .inQueue then .none else e.bidFrame }
  else e

/-- A YIELDED entry whose better bids have gone (R94). -/
def OfferEntry.returnsAt (now : Moment) (e : OfferEntry) : OfferEntry :=
  if e.bidFrame = .sent then { e with state := .bid }
  else { e with
    state := .waiting
    delayDeadline := some (now + bidDelay (e.ownScore.getD 0) (e.windowEnd - now)) }

theorem yield_offer? {s : State} {e : OfferEntry} (found : s.offer? e.id = some e) :
    (yield e s).offer? e.id = some e.yieldsTo := by
  have removed : ∀ u : State, (removeFrame .bid (.offer e.id) u).offer? e.id = u.offer? e.id := fun u =>
    offer?_congr (by simp) e.id
  unfold yield OfferEntry.yieldsTo
  cases state : e.state with
  | waiting => exact offer?_updOffer (by intro _; rfl) found
  | bid =>
    cases frame : e.bidFrame with
    | inQueue =>
      refine (removed _).trans ((offer?_updOffer (by intro _; rfl) found).trans ?_)
      simp
    | none =>
      refine (offer?_updOffer (by intro _; rfl) found).trans ?_
      simp [frame]
    | sent =>
      refine (offer?_updOffer (by intro _; rfl) found).trans ?_
      simp [frame]
  | _ => simpa using found

theorem returnToContest_offer? {s : State} {e : OfferEntry} (found : s.offer? e.id = some e) :
    (returnToContest e s).offer? e.id = some (e.returnsAt s.now) := by
  unfold returnToContest OfferEntry.returnsAt
  cases frame : e.bidFrame <;> refine (offer?_updOffer (by intro _; rfl) found).trans ?_ <;> simp [frame]

theorem betterKnown_congr {e o : OfferEntry} (own : Station) (heard : o.heard = e.heard) (score : o.ownScore = e.ownScore)
    (vacant : o.ownVacant = e.ownVacant) : betterKnown own o = betterKnown own e := by
  simp only [betterKnown, OfferEntry.ownRank, heard, score, vacant]

theorem yieldsTo_parts (e : OfferEntry) :
    e.yieldsTo.id = e.id ∧ e.yieldsTo.heard = e.heard ∧ e.yieldsTo.ownScore = e.ownScore ∧
      e.yieldsTo.ownVacant = e.ownVacant ∧ e.yieldsTo.windowEnd = e.windowEnd ∧ e.yieldsTo.windowTaken = e.windowTaken := by
  unfold OfferEntry.yieldsTo
  split
  · exact ⟨rfl, rfl, rfl, rfl, rfl, rfl⟩
  · split <;> exact ⟨rfl, rfl, rfl, rfl, rfl, rfl⟩

theorem returnsAt_parts (now : Moment) (e : OfferEntry) :
    (e.returnsAt now).heard = e.heard ∧ (e.returnsAt now).ownScore = e.ownScore ∧
      (e.returnsAt now).ownVacant = e.ownVacant := by
  unfold OfferEntry.returnsAt
  split <;> exact ⟨rfl, rfl, rfl⟩

/-! ## The list changed, and what it brings (R84, R90, R93, R94) -/

/-- An entry once a better bid was looked for, before its window's end (R93). -/
def OfferEntry.meets (own : Station) (e : OfferEntry) : OfferEntry := if betterKnown own e then e.yieldsTo else e

/-- An entry once the change of its list from `old` was looked at, before its window's end (R94). -/
def OfferEntry.clears (own : Station) (now : Moment) (old : List HeardBid) (e : OfferEntry) : OfferEntry :=
  if e.heard ≠ old ∧ e.state = .yielded ∧ betterKnown own e = false then e.returnsAt now else e

/-- The entry of an offer after a better bid was looked for, before its window's end. -/
theorem yieldIfBetter_offer? {s : State} {id : OfferId} {e : OfferEntry} (found : s.offer? id = some e)
    (open_ : e.ended s.now = false) :
    (yieldIfBetter id s).offer? id = some (e.meets s.own) := by
  obtain ⟨-, named⟩ := offer?_mem found
  unfold yieldIfBetter OfferEntry.meets
  rw [found]
  by_cases better : betterKnown s.own e = true
  · simp only [open_, better, Bool.not_false, Bool.true_and, if_true]
    rw [← named]
    exact yield_offer? (by rw [named]; exact found)
  · simp only [open_, better, Bool.not_false, Bool.and_false, Bool.false_eq_true, if_false]
    exact found

/-- The entry of an offer after the change of its list was looked at, before its window's end. -/
theorem returnIfClear_offer? {s : State} {id : OfferId} {e : OfferEntry} (old : List HeardBid)
    (found : s.offer? id = some e) (open_ : e.ended s.now = false) :
    (returnIfClear old id s).offer? id = some (e.clears s.own s.now old) := by
  obtain ⟨-, named⟩ := offer?_mem found
  unfold returnIfClear OfferEntry.clears
  rw [found]
  by_cases clear : e.heard ≠ old ∧ e.state = .yielded ∧ betterKnown s.own e = false
  · have test : (decide (e.heard ≠ old) && decide (e.state = .yielded) && !e.ended s.now && !betterKnown s.own e) = true := by
      simp [clear, open_]
    rw [if_pos clear]
    simp only [test, if_true]
    rw [← named]
    exact returnToContest_offer? (by rw [named]; exact found)
  · have test : (decide (e.heard ≠ old) && decide (e.state = .yielded) && !e.ended s.now && !betterKnown s.own e) = false := by
      by_contra fails
      simp only [Bool.not_eq_false, Bool.and_eq_true, decide_eq_true_eq, Bool.not_eq_true'] at fails
      exact clear ⟨fails.1.1.1, fails.1.1.2, fails.2⟩
    rw [if_neg clear]
    simp only [test, Bool.false_eq_true, if_false]
    exact found

/-- After its window's end a change of the list returns nothing. -/
theorem returnIfClear_of_ended {s : State} {id : OfferId} {e : OfferEntry} (old : List HeardBid)
    (found : s.offer? id = some e) (ended : e.ended s.now = true) : returnIfClear old id s = s := by
  unfold returnIfClear
  rw [found]
  simp [ended]

theorem updHeard_offer? {s : State} {id : OfferId} {e : OfferEntry} (f : List HeardBid → List HeardBid)
    (found : s.offer? id = some e) : (updHeard id f s).offer? id = some { e with heard := f e.heard } :=
  offer?_updOffer (by intro _; rfl) found

theorem ended_congr {e o : OfferEntry} (now : Moment) (taken : o.windowTaken = e.windowTaken)
    (end_ : o.windowEnd = e.windowEnd) : o.ended now = e.ended now := by
  simp only [OfferEntry.ended, taken, end_]

theorem meets_parts (own : Station) (e : OfferEntry) :
    (e.meets own).id = e.id ∧ (e.meets own).heard = e.heard ∧ (e.meets own).windowEnd = e.windowEnd ∧
      (e.meets own).windowTaken = e.windowTaken ∧ betterKnown own (e.meets own) = betterKnown own e := by
  unfold OfferEntry.meets
  split
  · obtain ⟨id, heard, score, vacant, end_, taken⟩ := yieldsTo_parts e
    exact ⟨id, heard, end_, taken, betterKnown_congr own heard score vacant⟩
  · exact ⟨rfl, rfl, rfl, rfl, rfl⟩

/-- A heard BID before the window's end. -/
theorem hearBidFrame_offer? {s : State} {source : Station} {p : BidPayload} {e : OfferEntry}
    (found : s.offer? p.id = some e) (other : source ≠ s.own) (open_ : e.ended s.now = false) :
    (hearBidFrame source p s).offer? p.id =
      some ((OfferEntry.meets s.own { e with heard := hearBid false (p.rank source) e.heard }).clears s.own s.now e.heard) := by
  let listed : OfferEntry := { e with heard := hearBid false (p.rank source) e.heard }
  let u : State := updHeard p.id (hearBid false (p.rank source)) s
  have run : hearBidFrame source p s = returnIfClear e.heard p.id (yieldIfBetter p.id u) := by
    unfold hearBidFrame
    rw [found]
    simp only [other, open_, decide_false, Bool.or_false, Bool.false_eq_true, if_false]
    rfl
  have met : (yieldIfBetter p.id u).offer? p.id = some (listed.meets s.own) :=
    yieldIfBetter_offer? (s := u) (e := listed) (updHeard_offer? _ found) open_
  have own : (yieldIfBetter p.id u).own = s.own := by
    unfold State.own
    simp [u, updHeard]
  have now : (yieldIfBetter p.id u).now = s.now := by simp [u, updHeard]
  obtain ⟨-, -, end_, taken, -⟩ := meets_parts s.own listed
  rw [run, returnIfClear_offer? e.heard met (by rw [now, ended_congr s.now taken end_]; exact open_), own, now]

/-- A heard WITHDRAW before the window's end. -/
theorem hearWithdraw_offer? {s : State} {source : Station} {id : OfferId} {e : OfferEntry}
    (found : s.offer? id = some e) (other : source ≠ s.own) (open_ : e.ended s.now = false) :
    (hearWithdraw source id s).offer? id =
      some (OfferEntry.clears s.own s.now e.heard { e with heard := withdrawBid source e.heard }) := by
  have run : hearWithdraw source id s = returnIfClear e.heard id (updHeard id (withdrawBid source) s) := by
    unfold hearWithdraw
    rw [found]
    simp [other, open_]
  rw [run]
  exact returnIfClear_offer? (s := updHeard id (withdrawBid source) s) e.heard (updHeard_offer? _ found) open_

/-- A heard RELEASE changes the list, before the window's end and after it. -/
theorem hearRelease_offer? {s : State} {source : Station} {id : OfferId} {e : OfferEntry}
    (found : s.offer? id = some e) (other : source ≠ s.own) :
    (hearRelease source id s).offer? id =
      some (if e.ended s.now then { e with heard := withdrawBid source e.heard }
        else OfferEntry.clears s.own s.now e.heard { e with heard := withdrawBid source e.heard }) := by
  have listed := updHeard_offer? (withdrawBid source) found
  have run : hearRelease source id s = returnIfClear e.heard id (updHeard id (withdrawBid source) s) := by
    unfold hearRelease
    rw [found]
    simp [other]
  rw [run]
  cases ended : e.ended s.now with
  | true => rw [returnIfClear_of_ended (s := updHeard id (withdrawBid source) s) e.heard listed ended, listed]; rfl
  | false => exact returnIfClear_offer? (s := updHeard id (withdrawBid source) s) e.heard listed ended

end Sys2Proof.Machine
end

section
/-! PROOFS. A heard BID, WITHDRAW or RELEASE at the contest of its offer. -/

namespace Sys2Proof.Machine

open Sys2Proof

-- The kernel's checks run one after another: side by side they ask for more threads than there is room for.
set_option Elab.async false

/-- A delivered frame of another source than home dispatch meets its owner with nothing asked for. -/
theorem delivered_away {k : FrameKind} {f : AirFrame} {s : State} (h : Delivered k f s)
    (away : f.header.source ≠ s.stc.config.home) :
    ∃ n l dups ack, exec (frameCommand k f) s = .next (finish (withAck dups ack (deliver k f (framed n l s)))) := by
  obtain ⟨w, dups, ack, met, run⟩ := delivered_run h
  obtain ⟨n, l, same⟩ := met.other away
  exact ⟨n, l, dups, ack, same ▸ run⟩

/-- What a frame of the contest leaves: everything of the state but offers, queue, neighbours, engine and console. -/
def ContestOnly (s t : State) : Prop :=
  t.dtc = s.dtc ∧ t.fmr = s.fmr ∧ t.tlu = s.tlu ∧ t.mst = s.mst ∧ t.emu = s.emu ∧ t.lines = s.lines

theorem finish_contestOnly {s x : State} (dups : List DupKey) (ack : Option PendingAck) (h : ContestOnly s x) :
    ContestOnly s (finish (withAck dups ack x)) := by
  obtain ⟨dtc, fmr, tlu, mst, emu, lines⟩ := h
  refine ⟨?_, ?_, ?_, ?_, ?_, ?_⟩ <;> simp [dtc, fmr, tlu, mst, emu, lines]

theorem finish_offer? (dups : List DupKey) (ack : Option PendingAck) (x : State) (id : OfferId) :
    (finish (withAck dups ack x)).offer? id = x.offer? id := offer?_congr (by simp) id

/-! ## What the change of its list makes of an entry (R93, R94) -/

/-- An entry before its window's end whose list becomes `l`, by a BID or otherwise. -/
def OfferEntry.changed (bid : Bool) (own : Station) (now : Moment) (l : List HeardBid) (e : OfferEntry) : OfferEntry :=
  (if bid then OfferEntry.meets own { e with heard := l } else { e with heard := l }).clears own now e.heard

section
variable {bid : Bool} {own : Station} {now : Moment} {l : List HeardBid} {e : OfferEntry}

theorem clears_of_notYielded {old : List HeardBid} {e : OfferEntry} (h : e.state ≠ .yielded) :
    e.clears own now old = e := if_neg fun all => h all.2.1

theorem clears_of_better {old : List HeardBid} {e : OfferEntry} (h : betterKnown own e = true) :
    e.clears own now old = e := if_neg fun all => by simp [h] at all

theorem clears_heard (old : List HeardBid) (e : OfferEntry) :
    (e.clears own now old).heard = e.heard ∧ betterKnown own (e.clears own now old) = betterKnown own e := by
  unfold OfferEntry.clears
  split
  · obtain ⟨heard, score, vacant⟩ := returnsAt_parts now e
    exact ⟨heard, betterKnown_congr own heard score vacant⟩
  · exact ⟨rfl, rfl⟩

theorem changed_heard : (e.changed bid own now l).heard = l ∧
    betterKnown own (e.changed bid own now l) = betterKnown own { e with heard := l } := by
  unfold OfferEntry.changed
  obtain ⟨heard, better⟩ := clears_heard (own := own) (now := now) e.heard
    (if bid then OfferEntry.meets own { e with heard := l } else { e with heard := l })
  rw [heard, better]
  split
  · obtain ⟨-, heard, -, -, better⟩ := meets_parts own { e with heard := l }
    exact ⟨heard, better⟩
  · exact ⟨rfl, rfl⟩

/-- A better bid is known: only a BID moves the entry. -/
theorem changed_of_better (better : betterKnown own { e with heard := l } = true) :
    e.changed bid own now l = if bid then OfferEntry.yieldsTo { e with heard := l } else { e with heard := l } := by
  have met : OfferEntry.meets own { e with heard := l } = OfferEntry.yieldsTo { e with heard := l } := if_pos better
  unfold OfferEntry.changed
  rw [met]
  refine clears_of_better ?_
  split
  · rw [← met, (meets_parts own _).2.2.2.2, better]
  · exact better

/-- No better bid is known: only a YIELDED entry moves. -/
theorem changed_of_clear (clear : betterKnown own { e with heard := l } = false) :
    e.changed bid own now l = OfferEntry.clears own now e.heard { e with heard := l } := by
  have met : OfferEntry.meets own { e with heard := l } = { e with heard := l } := if_neg (by simp [clear])
  unfold OfferEntry.changed
  rw [met, ite_self]

/-- The state stays where the contest has ended, and in a change without a BID where the entry is not YIELDED. -/
theorem changed_state_of_still (still : bid = false ∧ e.state ≠ .yielded ∨ e.state.running = false) :
    (e.changed bid own now l).state = e.state := by
  have notYielded : e.state ≠ .yielded := by
    rcases still with ⟨-, h⟩ | h
    · exact h
    · intro yielded
      rw [yielded] at h
      cases h
  cases better : betterKnown own { e with heard := l } with
  | false =>
    have stays : OfferEntry.clears own now e.heard { e with heard := l } = { e with heard := l } :=
      clears_of_notYielded notYielded
    rw [changed_of_clear better, stays]
  | true =>
    rw [changed_of_better better]
    rcases still with ⟨rfl, -⟩ | rests
    · rfl
    · split
      · have notWaiting : e.state ≠ .waiting := fun h => by rw [h] at rests; cases rests
        have notBid : e.state ≠ .bid := fun h => by rw [h] at rests; cases rests
        simp [OfferEntry.yieldsTo, notWaiting, notBid]
      · rfl

/-- A list that did not change moves no YIELDED entry. -/
theorem changed_of_same (yielded : e.state = .yielded) (same : l = e.heard) : e.changed bid own now l = e := by
  subst same
  have met : OfferEntry.meets own e = e := by
    unfold OfferEntry.meets
    simp [OfferEntry.yieldsTo, yielded]
  have listed : ({ e with heard := e.heard } : OfferEntry) = e := rfl
  unfold OfferEntry.changed
  rw [listed, met, ite_self]
  exact if_neg fun all => all.1 rfl

end

/-! ## The frames (R84, R90) -/

/-- The frame of a contest that changes an entry's list to `l`, by its kind. -/
def ChangesList (f : AirFrame) (e : OfferEntry) (s : State) (c : Instr) (id : OfferId) (l : List HeardBid) : Prop :=
  (∃ p, c = .bid f ∧ Delivered .bid f s ∧ parseBid f.payload = some p ∧ id = p.id ∧
      l = hearBid false ⟨p.score, p.vacant, f.header.source⟩ e.heard) ∨
    c = .withdraw f ∧ Delivered .withdraw f s ∧ parseOfferId f.payload = some id ∧
      l = withdrawBid f.header.source e.heard ∨
    c = .release f ∧ Delivered .release f s ∧ parseOfferId f.payload = some id ∧
      l = withdrawBid f.header.source e.heard

theorem Delivered.notOwn {k : FrameKind} {f : AirFrame} {s : State} (h : Delivered k f s) : f.header.source ≠ s.own :=
  h.1.2.2.2.2.2

theorem changesList_open {f : AirFrame} {e : OfferEntry} {s : State} {c : Instr} {id : OfferId} {l : List HeardBid}
    (away : f.header.source ≠ s.stc.config.home) (changes : ChangesList f e s c id l) (found : s.offer? id = some e)
    (open_ : e.ended s.now = false) :
    ∃ t, exec c s = .next t ∧ t.offer? id = some (e.changed (decide (c = .bid f)) s.own s.now l) ∧ ContestOnly s t := by
  rcases changes with ⟨p, rfl, delivered, parses, rfl, rfl⟩ | ⟨rfl, delivered, parses, rfl⟩ | ⟨rfl, delivered, parses, rfl⟩
  all_goals
    have notOwn := delivered.notOwn
    obtain ⟨n, m, dups, ack, run⟩ := delivered_away delivered away
    have found' : (framed n m s).offer? _ = some e := found
    refine ⟨_, run, (finish_offer? dups ack _ _).trans ?_, finish_contestOnly dups ack ?_⟩
  · simp only [deliver, parses]
    refine (hearBidFrame_offer? found' notOwn open_).trans ?_
    simp only [decide_true, OfferEntry.changed, if_true]
    rfl
  · simp only [deliver, parses]
    refine ⟨?_, ?_, ?_, ?_, ?_, ?_⟩ <;> simp [framed]
  · simp only [deliver, parses]
    refine (hearWithdraw_offer? found' notOwn open_).trans ?_
    simp only [reduceCtorEq, decide_false, OfferEntry.changed, Bool.false_eq_true, if_false]
    rfl
  · simp only [deliver, parses]
    refine ⟨?_, ?_, ?_, ?_, ?_, ?_⟩ <;> simp [framed]
  · simp only [deliver, parses]
    refine (hearRelease_offer? found' notOwn).trans ?_
    have open' : e.ended (framed n m s).now = false := open_
    simp only [open', reduceCtorEq, decide_false, OfferEntry.changed, Bool.false_eq_true, if_false]
    rfl
  · simp only [deliver, parses]
    refine ⟨?_, ?_, ?_, ?_, ?_, ?_⟩ <;> simp [framed]

theorem changesList_ended {f : AirFrame} {e : OfferEntry} {s : State} {c : Instr} {id : OfferId} {l : List HeardBid}
    (away : f.header.source ≠ s.stc.config.home) (changes : ChangesList f e s c id l) (found : s.offer? id = some e)
    (ended : e.ended s.now = true) :
    ∃ t, exec c s = .next t ∧ t.offer? id = some (if c = .release f then { e with heard := l } else e) ∧ ContestOnly s t := by
  rcases changes with ⟨p, rfl, delivered, parses, rfl, rfl⟩ | ⟨rfl, delivered, parses, rfl⟩ | ⟨rfl, delivered, parses, rfl⟩
  all_goals
    have notOwn := delivered.notOwn
    obtain ⟨n, m, dups, ack, run⟩ := delivered_away delivered away
    have found' : (framed n m s).offer? _ = some e := found
    have ended' : e.ended (framed n m s).now = true := ended
    refine ⟨_, run, (finish_offer? dups ack _ _).trans ?_, finish_contestOnly dups ack ?_⟩
  · simp [deliver, parses, hearBidFrame, found', ended']
  · simp only [deliver, parses]
    refine ⟨?_, ?_, ?_, ?_, ?_, ?_⟩ <;> simp [framed]
  · simp [deliver, parses, hearWithdraw, found', ended']
  · simp only [deliver, parses]
    refine ⟨?_, ?_, ?_, ?_, ?_, ?_⟩ <;> simp [framed]
  · simp only [deliver, parses]
    refine (hearRelease_offer? found' notOwn).trans ?_
    simp only [ended', if_true]
  · simp only [deliver, parses]
    refine ⟨?_, ?_, ?_, ?_, ?_, ?_⟩ <;> simp [framed]

/-- Settles O37: the change of the list, and the contest's move by it. -/
theorem heardBidsMoveTheContest : Obligations.HeardBidsMoveTheContest := by
  intro f e s away c id l changes found
  refine ⟨fun open_ => ?_, fun ended => ?_⟩
  · obtain ⟨t, run, offer, dtc, fmr, tlu, mst, emu, lines⟩ := changesList_open away changes found open_
    obtain ⟨heard, better⟩ := changed_heard (bid := decide (c = .bid f)) (own := s.own) (now := s.now) (l := l) (e := e)
    refine ⟨t, _, run, offer, heard, fun notBid still => ?_, fun waiting clear => ?_, fun bid waiting known => ?_,
      fun bids clear => ?_, fun bid bids known => ?_, fun yielded known => ?_, fun yielded same => ?_,
      fun yielded other clear => ?_, fun rests => ?_, dtc, fmr, tlu, mst, emu, lines⟩
    · exact changed_state_of_still (.inl ⟨decide_eq_false notBid, still⟩)
    · rw [better] at clear
      rw [changed_of_clear clear, clears_of_notYielded (by simp [waiting])]
      exact waiting
    · rw [better] at known
      rw [changed_of_better known, if_pos (decide_eq_true bid)]
      simp [OfferEntry.yieldsTo, waiting]
    · rw [better] at clear
      rw [changed_of_clear clear, clears_of_notYielded (by simp [bids])]
      exact ⟨bids, rfl⟩
    · rw [better] at known
      rw [changed_of_better known, if_pos (decide_eq_true bid)]
      simp [OfferEntry.yieldsTo, bids]
    · rw [better] at known
      rw [changed_of_better known]
      split <;> simp [OfferEntry.yieldsTo, yielded]
    · exact changed_of_same yielded same
    · rw [better] at clear
      rw [changed_of_clear clear]
      have returns : OfferEntry.clears s.own s.now e.heard { e with heard := l } =
          OfferEntry.returnsAt s.now { e with heard := l } := if_pos ⟨other, yielded, clear⟩
      rw [returns, OfferEntry.returnsAt]
      split <;> simp_all [bidDelay]
    · exact changed_state_of_still (.inr rests)
  · obtain ⟨t, run, offer, dtc, fmr, tlu, mst, emu, lines⟩ := changesList_ended away changes found ended
    refine ⟨t, _, run, offer, ?_, ?_, dtc, fmr, tlu, mst, emu, lines⟩ <;> split <;> rfl

end Sys2Proof.Machine
end

section
/-! PROOFS. A heard TAKE. -/

namespace Sys2Proof.Machine

open Sys2Proof

-- The kernel's checks run one after another: side by side they ask for more threads than there is room for.
set_option Elab.async false

/-! ## JOB GONE (R99, R100, R151) -/

theorem findLast_isSome_of_mem {α : Type} {p : α → Bool} {l : List α} {a : α} (mem : a ∈ l) (is : p a = true) :
    (findLast p l).isSome = true := by
  rw [findLast_isSome]
  exact List.any_eq_true.mpr ⟨a, mem, is⟩

/-- A SYSTEM notice gives way where there is no other place. -/
theorem replacedNotice_isSome {s : State} {e : MsgEntry} (mem : e ∈ s.mst.entries) (system : e.kind = .system) :
    (replacedNotice s).isSome = true := by
  unfold replacedNotice
  split
  · rfl
  · exact findLast_isSome_of_mem mem (by simpa using system)

/-- A notice raised where there is a place, or a SYSTEM notice to give way, stands at the head, unread. -/
theorem raiseNotice_stands (key : NoticeKey) (pin : Bool) (text : List Byte) {s : State}
    (place : hasPlace s = true ∨ ∃ e ∈ s.mst.entries, e.kind = .system) :
    ∃ m ∈ (raiseNotice key pin text s).mst.entries, m.name = .notice key ∧ m.state = .unread ∧ m.pin = pin := by
  have head : ∀ u : State, ∃ m ∈ (addMsg (noticeEntry key pin text) u).mst.entries,
      m.name = .notice key ∧ m.state = .unread ∧ m.pin = pin := fun u =>
    ⟨_, List.mem_cons_self, rfl, rfl, rfl⟩
  unfold raiseNotice
  split
  · exact head _
  · split
    · exact head _
    · rename_i noPlace
      obtain ⟨e, mem, system⟩ := place.resolve_left noPlace
      obtain ⟨old, replaced⟩ := Option.isSome_iff_exists.mp (replacedNotice_isSome mem system)
      rw [replaced]
      exact head _

/-- The entry into VACANT leaves a place where there was one, or a SYSTEM notice. -/
theorem enterVacant_room {s : State} (place : hasPlace s = true) :
    hasPlace (enterVacant s) = true ∨ ∃ e ∈ (enterVacant s).mst.entries, e.kind = .system := by
  let u : State := applyPendingSet { s with dtc := { s.dtc with duty := .vacant, vacantSeconds := 0 } }
  have applied : hasPlace u = true ∨ ∃ e ∈ u.mst.entries, e.kind = .system := by
    simp only [u, applyPendingSet]
    split
    · rename_i p _
      obtain ⟨n, rest, entries⟩ := raiseNotice_head .tariffNew false (codes "TARIFF NEW V" ++ dec p.version)
        (s := { s with dtc := { s.dtc with duty := .vacant, vacantSeconds := 0 },
                       tlu := { s.tlu with active := some p, pendingSet := none } }) place
      refine .inr ⟨{ noticeEntry .tariffNew false (codes "TARIFF NEW V" ++ dec p.version) with entry := n }, ?_, rfl⟩
      rw [noticeTariffNew, entries]
      exact List.mem_cons_self
    · exact .inl place
  have mst : (enterVacant s).mst = u.mst := by
    unfold enterVacant
    dsimp only
    split
    · simp [u]
    · rfl
  rw [mst, hasPlace_congr mst]
  exact applied

theorem noticeJobGone_stands (text : List Byte) {s : State} (place : hasPlace s = true) :
    ∃ m ∈ (noticeJobGone text (enterVacant s)).mst.entries, m.name = .notice .jobGone ∧ m.state = .unread := by
  obtain ⟨m, mem, name, state, -⟩ := raiseNotice_stands .jobGone false (codes "JOB GONE" ++ newLine :: text)
    (enterVacant_room place)
  exact ⟨m, mem, name, state⟩

/-- VACANT entered, and JOB GONE raised: what is left after the levels are followed. -/
theorem finish_jobGone {s x : State} (dups : List DupKey) (ack : Option PendingAck) (text : List Byte)
    (active : x.tlu.active = s.tlu.active) (pending : x.tlu.pendingSet = s.tlu.pendingSet) :
    EntersVacant s (finish (withAck dups ack (noticeJobGone text (enterVacant x)))) :=
  ⟨by simp, by simp, appliesPendingSet_of_tlu (by simp [active, pending]) (by simp)⟩

/-! ## An entry that ends (R99, R100, R104) -/

/-- An entry that is LOST or CLOSED: it stands so before the end of its hold, and is freed after it. -/
theorem finishOffer_offer? {s : State} {id : OfferId} {e : OfferEntry} (st : OfferState) (found : s.offer? id = some e) :
    (s.now < e.windowEnd + 60000 → (finishOffer id st s).offer? id =
      some { e with state := st, jobTimer := none, delayDeadline := none }) ∧
    (e.windowEnd + 60000 ≤ s.now → (finishOffer id st s).offer? id = none) := by
  have hold : e.holdEnd = e.windowEnd + 60000 := rfl
  unfold finishOffer
  rw [found]
  refine ⟨fun early => ?_, fun late => ?_⟩
  · simp only [hold, if_neg (Nat.not_le.mpr early)]
    exact offer?_updOffer (by intro _; rfl) found
  · simp only [hold, if_pos late]
    show (s.ocu.offers.filter _).find? _ = none
    rw [List.find?_eq_none]
    intro a ha
    simpa using (List.mem_filter.mp ha).2

/-! ## A heard TAKE (R90, R99) -/

section
variable {s : State} {source : Station} {p : BidPayload} {e : OfferEntry} (found : s.offer? p.id = some e)
  (other : source ≠ s.own)
include found other

theorem hearTake_won {r : BidRank} (won : e.state = .won) (rank : e.ownRank s.own = some r) :
    hearTake source p s =
      if better (p.rank source) r then
        noticeJobGone e.text (endPending (finishOffer p.id .lost (updHeard p.id (hearBid true (p.rank source)) s)))
      else updHeard p.id (hearBid true (p.rank source)) s := by
  have rank' : e.ownRank (updHeard p.id (hearBid true (p.rank source)) s).own = some r := rank
  simp only [hearTake, found, other, if_false, won, rank']

theorem hearTake_contest (running : e.state.running = true) :
    hearTake source p s = yieldIfBetter p.id (updHeard p.id (hearBid true (p.rank source)) s) := by
  simp only [hearTake, found, other, if_false]
  cases state : e.state with
  | waiting | bid | yielded => rfl
  | _ =>
    rw [state] at running
    cases running

theorem hearTake_rest (notWon : e.state ≠ .won) (rests : e.state.running = false) :
    hearTake source p s = updHeard p.id (hearBid true (p.rank source)) s := by
  simp only [hearTake, found, other, if_false]
  cases state : e.state with
  | waiting | bid | yielded =>
    rw [state] at rests
    cases rests
  | won => exact absurd state notWon
  | _ => rfl

end

theorem yieldIfBetter_of_ended {s : State} {id : OfferId} {e : OfferEntry} (found : s.offer? id = some e)
    (ended : e.ended s.now = true) : yieldIfBetter id s = s := by
  unfold yieldIfBetter
  rw [found]
  simp [ended]

/-- The state of an entry after a better bid was looked for. -/
theorem meets_state (own : Station) (e : OfferEntry) : (e.meets own).state =
    if (e.state = .waiting ∨ e.state = .bid) ∧ betterKnown own e = true then .yielded else e.state := by
  unfold OfferEntry.meets OfferEntry.yieldsTo
  cases better : betterKnown own e with
  | false => simp
  | true =>
    by_cases waiting : e.state = .waiting
    · simp [waiting]
    · by_cases bids : e.state = .bid <;> simp [waiting, bids]

/-- What a worse TAKE and one for another entry leave of its entry. -/
theorem hearTake_offer? {s : State} {source : Station} {p : BidPayload} {e : OfferEntry} (found : s.offer? p.id = some e)
    (other : source ≠ s.own) (notWon : e.state ≠ .won) :
    ∃ o, (hearTake source p s).offer? p.id = some o ∧ o.heard = hearBid true (p.rank source) e.heard ∧
      o.state = if (e.state = .waiting ∨ e.state = .bid) ∧ e.ended s.now = false ∧ betterKnown s.own o = true
        then .yielded else e.state := by
  let u : State := updHeard p.id (hearBid true (p.rank source)) s
  let listed : OfferEntry := { e with heard := hearBid true (p.rank source) e.heard }
  have foundListed : u.offer? p.id = some listed := updHeard_offer? _ found
  cases running : e.state.running with
  | false =>
    have still : ¬(e.state = .waiting ∨ e.state = .bid) := by
      rintro (h | h) <;> rw [h] at running <;> cases running
    rw [hearTake_rest found other notWon running]
    exact ⟨listed, foundListed, rfl, by simp [still, listed]⟩
  | true =>
    rw [hearTake_contest found other running]
    cases ended : e.ended s.now with
    | true =>
      rw [yieldIfBetter_of_ended (s := u) foundListed ended]
      exact ⟨listed, foundListed, rfl, by simp [listed]⟩
    | false =>
      obtain ⟨-, heard, -, -, better⟩ := meets_parts s.own listed
      refine ⟨listed.meets s.own, yieldIfBetter_offer? (s := u) foundListed ended, heard, ?_⟩
      rw [better, meets_state]
      simp [listed]

theorem hearTake_contestOnly {s : State} {source : Station} {p : BidPayload} {e : OfferEntry}
    (found : s.offer? p.id = some e) (other : source ≠ s.own) (notWon : e.state ≠ .won) :
    ContestOnly s (hearTake source p s) := by
  cases running : e.state.running with
  | false =>
    rw [hearTake_rest found other notWon running]
    exact ⟨rfl, rfl, rfl, rfl, rfl, rfl⟩
  | true =>
    rw [hearTake_contest found other running]
    refine ⟨?_, ?_, ?_, ?_, ?_, ?_⟩ <;> simp [updHeard]

/-- Settles O38: a better TAKE for the won offer, a worse one, and a TAKE for any other entry. -/
theorem betterTakeEndsTheWin : Obligations.BetterTakeEndsTheWin := by
  intro f p e s delivered parses away found
  obtain ⟨n, l, dups, ack, run⟩ := delivered_away delivered away
  have found' : (framed n l s).offer? p.id = some e := found
  have notOwn : f.header.source ≠ (framed n l s).own := delivered.notOwn
  have owner : deliver .take f (framed n l s) = hearTake f.header.source p (framed n l s) := by simp [deliver, parses]
  rw [owner] at run
  let u : State := updHeard p.id (hearBid true (p.rank f.header.source)) (framed n l s)
  have listed := updHeard_offer? (hearBid true (p.rank f.header.source)) found'
  refine ⟨fun r won pending rank => ⟨fun better => ?_, fun worse => ?_⟩, fun notWon => ?_⟩
  · let x : State := finishOffer p.id .lost u
    have dtc : x.dtc = s.dtc := by simp [x, u, updHeard, framed]
    have heard : hearTake f.header.source p (framed n l s) = noticeJobGone e.text (enterVacant x) :=
      ((hearTake_won found' notOwn won rank).trans (if_pos better)).trans
        (congrArg _ (if_pos (show x.dtc.duty = .pending by rw [dtc, pending])))
    rw [heard] at run
    obtain ⟨early, late⟩ := finishOffer_offer? .lost (s := u) listed
    have offer : (finish (withAck dups ack (noticeJobGone e.text (enterVacant x)))).offer? p.id = x.offer? p.id :=
      offer?_congr (by simp) p.id
    refine ⟨_, run, finish_jobGone dups ack e.text ?_ ?_, ?_, fun before => ?_, fun after => ?_, fun place => ?_, ?_, ?_,
      ?_⟩
    · simp [x, u, updHeard, framed]
    · simp [x, u, updHeard, framed]
    · simp [dtc]
    · exact ⟨_, offer.trans (early before), rfl, rfl⟩
    · exact offer.trans (late after)
    · have mst : x.mst = s.mst := by simp [x, u, updHeard, framed]
      simpa using noticeJobGone_stands e.text (s := x) ((hasPlace_congr mst).trans place)
    · simp [x, u, updHeard, framed]
    · simp [x, u, updHeard, framed]
    · simp [x, u, updHeard, framed]
  · have heard : hearTake f.header.source p (framed n l s) = u :=
      (hearTake_won found' notOwn won rank).trans (if_neg fun better => Bool.false_ne_true (worse.symm.trans better))
    rw [heard] at run
    obtain ⟨dtc, fmr, -, mst, emu, lines⟩ := finish_contestOnly (s := s) (x := u) dups ack ⟨rfl, rfl, rfl, rfl, rfl, rfl⟩
    exact ⟨_, _, run, dtc, (finish_offer? dups ack u _).trans listed, won, rfl, mst, fmr, emu, lines⟩
  · obtain ⟨o, offer, heard, state⟩ := hearTake_offer? found' notOwn notWon
    have only : ContestOnly s (hearTake f.header.source p (framed n l s)) := hearTake_contestOnly found' notOwn notWon
    obtain ⟨dtc, fmr, -, mst, emu, lines⟩ := finish_contestOnly dups ack only
    exact ⟨_, o, run, (finish_offer? dups ack _ _).trans offer, heard, state, dtc, mst, fmr, emu, lines⟩

end Sys2Proof.Machine
end

section
/-! PROOFS. A heard CONFIRM. -/

namespace Sys2Proof.Machine

open Sys2Proof

-- The kernel's checks run one after another: side by side they ask for more threads than there is room for.
set_option Elab.async false

/-! ## The entry of the offer, as a CONFIRM of home dispatch meets it -/

theorem offer?_map_of_bidFrame {s w : State} (h : w.ocu.offers.map (fun e => { e with bidFrame := BidFrame.none }) =
    s.ocu.offers.map fun e => { e with bidFrame := BidFrame.none }) (id : OfferId) :
    (w.offer? id).map (fun e => { e with bidFrame := BidFrame.none }) =
      (s.offer? id).map fun e => { e with bidFrame := BidFrame.none } := by
  have both := congrArg (List.find? fun e : OfferEntry => decide (e.id = id)) h
  rw [List.find?_map, List.find?_map] at both
  exact both

section
variable {f : AirFrame} {s w : State} (met : MetOwner f s w)
include met

theorem MetOwner.offer?_some {id : OfferId} {e : OfferEntry} (found : s.offer? id = some e) :
    ∃ b, w.offer? id = some { e with bidFrame := b } := by
  have both := offer?_map_of_bidFrame met.offers id
  rw [found] at both
  obtain ⟨o, foundO, same⟩ := Option.map_eq_some_iff.mp both
  refine ⟨o.bidFrame, foundO.trans (congrArg some ?_)⟩
  have eq := congrArg (fun x : OfferEntry => { x with bidFrame := o.bidFrame }) same
  exact eq

theorem MetOwner.offer?_none {id : OfferId} (absent : s.offer? id = none) : w.offer? id = none := by
  have both := offer?_map_of_bidFrame met.offers id
  rw [absent] at both
  exact Option.map_eq_none_iff.mp both

theorem MetOwner.sets : w.tlu.active = s.tlu.active ∧ w.tlu.pendingSet = s.tlu.pendingSet := by
  obtain ⟨n, l, asked⟩ := met.asked
  have tlu := asked.tlu
  rw [tlu]
  exact ⟨rfl, rfl⟩

theorem MetOwner.place : hasPlace w = hasPlace s := by
  obtain ⟨n, l, asked⟩ := met.asked
  exact asked.hasPlace

theorem MetOwner.names : w.mst.entries.map (·.name) = s.mst.entries.map (·.name) := by
  obtain ⟨n, l, asked⟩ := met.asked
  have both := congrArg (List.map MsgEntry.name) asked.entries
  rw [List.map_map, List.map_map] at both
  exact both

end

/-- Every entry of an offer that has ended is at the end. -/
theorem finishOffer_ends {s : State} {id : OfferId} {st : OfferState} :
    ∀ o ∈ (finishOffer id st s).ocu.offers, o.id = id → o.state = st ∧ o.jobTimer = none ∧ o.delayDeadline = none := by
  intro o mem named
  rcases finishOffer_offers id st s with freed | moved | ⟨same, absent⟩
  · rw [freed] at mem
    simp [named] at mem
  · rw [moved] at mem
    obtain ⟨x, -, rfl⟩ := mem_updateWhere.mp mem
    by_cases this : x.id = id
    · simp [this]
    · simp [this] at named
  · rw [same] at mem
    exact absurd named (absent o mem)

/-! ## The acts of a CONFIRM (R13, R100, R101) -/

/-- The job record confirmed, where there is no conflict. -/
def JobRecord.confirmed (j : JobRecord) : JobRecord :=
  if j.conflict then j else { j with confirm := .confirmed, confirmWait := false }

theorem confirmJob_dtc {s : State} {j : JobRecord} (job : s.dtc.job = some j) :
    (confirmJob j.id s).dtc = { s.dtc with job := some j.confirmed } := by
  simp [confirmJob, updJob, job, JobRecord.confirmed]

theorem conflictJob_dtc {s : State} {j : JobRecord} (job : s.dtc.job = some j) :
    (conflictJob j.id s).dtc = { s.dtc with job := some { j with conflict := true, confirmWait := false } } := by
  simp [conflictJob, updJob, job]

theorem giveUpJob_eq {s : State} {j : JobRecord} (job : s.dtc.job = some j) :
    giveUpJob j.id s = noticeJobGone j.text (enterVacant (clearJob s)) := by
  simp [giveUpJob, job]

/-- What an act on the offers and the job record leaves of the rest. -/
def BesideJob (s x : State) : Prop := x.fmr = s.fmr ∧ x.lines = s.lines ∧ x.emu.state = s.emu.state

theorem finish_besideJob {s x : State} (dups : List DupKey) (ack : Option PendingAck) (h : BesideJob s x) :
    BesideJob s (finish (withAck dups ack x)) := by
  obtain ⟨fmr, lines, emu⟩ := h
  exact ⟨by simp [fmr], by simp [lines], by simp [emu]⟩

theorem BesideJob.frame {s w x : State} (h : BesideJob s w) (fmr : x.fmr = w.fmr) (lines : x.lines = w.lines)
    (emu : x.emu = w.emu) : BesideJob s x := by
  obtain ⟨fmr', lines', emu'⟩ := h
  exact ⟨fmr.trans fmr', lines.trans lines', (congrArg Emu.state emu).trans emu'⟩

/-- The job given up: the record and its entry gone, VACANT entered, JOB GONE raised where it finds a place. -/
theorem giveUp_leaves {s x : State} {j : JobRecord} (dups : List DupKey) (ack : Option PendingAck)
    (job : x.dtc.job = some j) (active : x.tlu.active = s.tlu.active) (pending : x.tlu.pendingSet = s.tlu.pendingSet)
    (place : hasPlace x = hasPlace s) (beside : BesideJob s x) :
    let t := finish (withAck dups ack (giveUpJob j.id x))
    EntersVacant s t ∧ t.dtc.job = none ∧ (∀ o ∈ t.ocu.offers, o ∈ x.ocu.offers) ∧
      (hasPlace s = true → ∃ m ∈ t.mst.entries, m.name = .notice .jobGone ∧ m.state = .unread) ∧ BesideJob s t := by
  rw [giveUpJob_eq job]
  refine ⟨finish_jobGone dups ack j.text (by simpa using active) (by simpa using pending), by simp, fun o mem => ?_,
    fun room => ?_, finish_besideJob dups ack (beside.frame (by simp) (by simp) (by simp))⟩
  · exact (clearJob_offers x).1.subset (by simpa using mem)
  · have kept : hasPlace (clearJob x) = true := (hasPlace_congr (by simp)).trans (place.trans room)
    simpa using noticeJobGone_stands j.text kept

/-! ## The cases of R100 -/

theorem hearConfirm_taken {s : State} {source : Station} {p : ConfirmPayload} {e : OfferEntry}
    (found : s.offer? ⟨source, p.serial⟩ = some e) (taken : e.state = .taken) :
    hearConfirm source p s = confirmTaken ⟨source, p.serial⟩ (decide (p.winner = s.own)) s := by
  simp only [hearConfirm, found, taken, if_true]

theorem hearConfirm_mine {s : State} {source : Station} {p : ConfirmPayload} {e : OfferEntry}
    (found : s.offer? ⟨source, p.serial⟩ = some e) (notTaken : e.state ≠ .taken) (mine : p.winner = s.own) :
    hearConfirm source p s = s := by
  simp [hearConfirm, found, notTaken, mine]

theorem hearConfirm_other {s : State} {source : Station} {p : ConfirmPayload} {e : OfferEntry}
    (found : s.offer? ⟨source, p.serial⟩ = some e) (notTaken : e.state ≠ .taken) (other : p.winner ≠ s.own) :
    hearConfirm source p s = closeOffer e s := by
  simp [hearConfirm, found, notTaken, other]

theorem hearConfirm_job {s : State} {source : Station} {p : ConfirmPayload} {j : JobRecord}
    (absent : s.offer? ⟨source, p.serial⟩ = none) (job : s.dtc.job = some j) (named : j.id = ⟨source, p.serial⟩) :
    hearConfirm source p s = if p.winner = s.own then confirmJob j.id s else jobGoesElsewhere j.id s := by
  have holds : jobId s = some ⟨source, p.serial⟩ := by simp [jobId, job, named]
  by_cases mine : p.winner = s.own <;> simp [hearConfirm, absent, holds, mine, named]

theorem hearConfirm_nothing {s : State} {source : Station} {p : ConfirmPayload}
    (absent : s.offer? ⟨source, p.serial⟩ = none) (none_ : ∀ j, s.dtc.job = some j → j.id ≠ ⟨source, p.serial⟩) :
    hearConfirm source p s = s := by
  have holds : jobId s ≠ some ⟨source, p.serial⟩ := by
    intro is
    obtain ⟨j, job, named⟩ := Option.map_eq_some_iff.mp is
    exact none_ j job named
  simp [hearConfirm, absent, holds]

/-- A contest not yet lost is closed (R100). -/
theorem closeOffer_closes {s : State} {id : OfferId} {e : OfferEntry} (found : s.offer? id = some e)
    (closes : e.state.running = true ∨ e.state = .passed ∨ e.state = .late ∨ e.state = .declined) :
    ∃ u b, closeOffer e s = finishOffer id .closed u ∧ u.offer? id = some { e with bidFrame := b } ∧ u.now = s.now ∧
      u.dtc = s.dtc ∧ u.fmr = s.fmr ∧ u.lines = s.lines ∧ u.emu = s.emu := by
  obtain ⟨-, rfl⟩ := offer?_mem found
  have contest : e.state.running = true → closeOffer e s = finishOffer e.id .closed
      (if e.bidFrame = .inQueue then
        removeFrame .bid (.offer e.id) (s.updOffer e.id fun x => { x with bidFrame := .none }) else s) := by
    intro running
    unfold closeOffer
    cases state : e.state with
    | waiting | bid | yielded => rfl
    | _ =>
      rw [state] at running
      cases running
  have rest : e.state = .passed ∨ e.state = .late ∨ e.state = .declined →
      closeOffer e s = finishOffer e.id .closed s := by
    unfold closeOffer
    rintro (state | state | state) <;> rw [state]
  have removed : ∀ u : State, (removeFrame .bid (.offer e.id) u).offer? e.id = u.offer? e.id := fun u =>
    offer?_congr (by simp) e.id
  rcases closes with running | rests
  · rw [contest running]
    by_cases queued : e.bidFrame = .inQueue
    · rw [if_pos queued]
      refine ⟨_, .none, rfl, ?_, ?_, ?_, ?_, ?_, ?_⟩
      · exact (removed _).trans (offer?_updOffer (by intro _; rfl) found)
      all_goals simp
    · rw [if_neg queued]
      exact ⟨s, e.bidFrame, rfl, found, rfl, rfl, rfl, rfl, rfl⟩
  · exact ⟨s, e.bidFrame, rest rests, found, rfl, rfl, rfl, rfl, rfl⟩

theorem finish_offers (dups : List DupKey) (ack : Option PendingAck) (x : State) :
    (finish (withAck dups ack x)).ocu = x.ocu := by simp

theorem finish_dtc (dups : List DupKey) (ack : Option PendingAck) (x : State) :
    (finish (withAck dups ack x)).dtc = x.dtc := by simp

theorem offer?_of_subset {s t : State} {id : OfferId} {o : OfferEntry} (sub : ∀ o ∈ t.ocu.offers, o ∈ s.ocu.offers)
    (found : t.offer? id = some o) : o ∈ s.ocu.offers ∧ o.id = id := by
  obtain ⟨mem, named⟩ := offer?_mem found
  exact ⟨sub o mem, named⟩

theorem offer?_none_of_subset {s t : State} {id : OfferId} (sub : ∀ o ∈ t.ocu.offers, o ∈ s.ocu.offers)
    (absent : s.offer? id = none) : t.offer? id = none := by
  unfold State.offer?
  rw [List.find?_eq_none]
  exact fun o mem => List.find?_eq_none.mp absent o (sub o mem)

theorem jobGoesElsewhere_assigned {s : State} (id : OfferId) (assigned : s.dtc.duty = .assigned) :
    jobGoesElsewhere id s = giveUpJob id s := by
  simp only [jobGoesElsewhere, assigned]

theorem jobGoesElsewhere_hire {s : State} (id : OfferId) (hire : s.dtc.duty = .hired ∨ s.dtc.duty = .paying) :
    jobGoesElsewhere id s = conflictJob id s := by
  rcases hire with duty | duty <;> simp only [jobGoesElsewhere, duty]

/-- Settles O39: the CONFIRM by the entry it names, and by the job record where there is none. -/
theorem confirmSettlesTheOffer : Obligations.ConfirmSettlesTheOffer := by
  intro f p s delivered parses
  obtain ⟨w, dups, ack, met, run⟩ := delivered_run delivered
  obtain ⟨lines, -, dtc, fmr, now, emu, -⟩ := met.parts
  obtain ⟨active, pending⟩ := met.sets
  have own := met.own
  have beside : BesideJob s w := ⟨fmr, lines, emu⟩
  have owner : deliver .confirm f w = hearConfirm f.header.source p w := by simp [deliver, parses]
  rw [owner] at run
  refine ⟨fun e found => ?entry, fun absent => ?absent⟩
  case entry =>
    obtain ⟨b, found'⟩ := met.offer?_some found
    obtain ⟨-, id⟩ := offer?_mem found
    refine ⟨fun j taken job named => ?taken, fun notTaken stays => ?stays, fun other won duty => ?won,
      fun other closes => ?closes⟩
    case taken =>
      have job' : w.dtc.job = some j := by rw [dtc, job]
      have acts := hearConfirm_taken found' taken
      rw [own, ← id, ← named] at acts
      refine ⟨fun mine => ?_, fun other assigned => ?_, fun other hire => ?_⟩
      · rw [decide_eq_true mine] at acts
        let u : State := w.updOffer j.id fun x => { x with jobTimer := none }
        have acts : hearConfirm f.header.source p w = confirmJob j.id u := acts
        rw [acts] at run
        have job'' : u.dtc.job = some j := job'
        have foundJ : w.offer? j.id = some { e with bidFrame := b } :=
          (congrArg w.offer? (named.trans id)).trans found'
        have offer : u.offer? j.id = some { e with bidFrame := b, jobTimer := none } :=
          offer?_updOffer (by intro _; rfl) foundJ
        have left : (confirmJob j.id u).dtc = { s.dtc with job := some j.confirmed } := by
          rw [confirmJob_dtc job'', show u.dtc = s.dtc from dtc]
        obtain ⟨fmr, lines, emu⟩ := finish_besideJob dups ack (x := confirmJob j.id u)
          (beside.frame (by simp [u]) (by simp [u]) (by simp [u]))
        refine ⟨_, { e with bidFrame := b, jobTimer := none }, run, ?_, taken, rfl, ?_, ?_, fmr, lines, emu⟩
        · have same : (confirmJob j.id u).offer? j.id = u.offer? j.id := offer?_congr (by simp) j.id
          have renamed := congrArg (confirmJob j.id u).offer? named.symm
          exact (finish_offer? dups ack _ e.id).trans (renamed.trans (same.trans offer))
        · rw [finish_dtc, left]
        · rw [finish_dtc, left]
          rfl
      · rw [decide_eq_false other] at acts
        let y : State := finishOffer j.id .lost w
        have yjob : y.dtc.job = some j := by simpa [y] using job'
        have acts : hearConfirm f.header.source p w = giveUpJob j.id y :=
          acts.trans (jobGoesElsewhere_assigned j.id (s := y) (by simp [y, dtc, assigned]))
        rw [acts] at run
        obtain ⟨vacant, gone, sub, notice, fmr, lines, emu⟩ := giveUp_leaves (s := s) dups ack yjob
          (by simpa [y] using active) (by simpa [y] using pending)
          ((hasPlace_congr (by simp [y])).trans met.place) (beside.frame (by simp [y]) (by simp [y]) (by simp [y]))
        refine ⟨_, run, vacant, gone, fun o stands => ?_, notice, fmr, lines, emu⟩
        obtain ⟨mem, is⟩ := offer?_of_subset (s := y) sub stands
        obtain ⟨state, timer, -⟩ := finishOffer_ends o mem (is.trans named.symm)
        exact ⟨state, timer⟩
      · rw [decide_eq_false other] at acts
        let y : State := finishOffer j.id .lost w
        have yjob : y.dtc.job = some j := by simpa [y] using job'
        have acts : hearConfirm f.header.source p w = conflictJob j.id y :=
          acts.trans (jobGoesElsewhere_hire j.id (s := y) (by simpa [y, dtc] using hire))
        rw [acts] at run
        obtain ⟨fmr, lines, emu⟩ := finish_besideJob dups ack (x := conflictJob j.id y)
          (beside.frame (by simp [y]) (by simp [y]) (by simp [y]))
        refine ⟨_, run, ?_, fun o stands => ?_, fmr, lines, emu⟩
        · rw [finish_dtc, conflictJob_dtc yjob, show y.dtc = s.dtc by simp [y, dtc]]
        · obtain ⟨mem, is⟩ := offer?_mem stands
          rw [finish_offers] at mem
          exact (finishOffer_ends o (by simpa [y] using mem) (is.trans named.symm)).1
    case stays =>
      have acts : hearConfirm f.header.source p w = w := by
        by_cases mine : p.winner = w.own
        · exact hearConfirm_mine found' notTaken mine
        · rw [hearConfirm_other found' notTaken mine]
          rcases stays with own' | lost | closed
          · exact absurd (own'.trans own.symm) mine
          · simp only [closeOffer, lost]
          · simp only [closeOffer, closed]
      rw [acts] at run
      obtain ⟨fmr, lines, emu⟩ := finish_besideJob dups ack beside
      refine ⟨_, { e with bidFrame := b }, run, ?_, rfl, (finish_dtc dups ack w).trans dtc, fmr, lines, emu⟩
      exact (finish_offer? dups ack w _).trans ((congrArg w.offer? id).trans found')
    case won =>
      let x : State := finishOffer e.id .closed w
      have xduty : x.dtc.duty = .pending := by simp [x, dtc, duty]
      have acts : hearConfirm f.header.source p w = noticeJobGone e.text (enterVacant x) := by
        rw [hearConfirm_other found' (by simp [won]) (by rwa [own])]
        simp only [closeOffer, won]
        exact congrArg _ (if_pos xduty)
      rw [acts] at run
      have foundE : w.offer? e.id = some { e with bidFrame := b } := (congrArg w.offer? id).trans found'
      obtain ⟨early, -⟩ := finishOffer_offer? .closed foundE
      obtain ⟨fmr, lines, emu⟩ := finish_besideJob dups ack (x := noticeJobGone e.text (enterVacant x))
        (beside.frame (by simp [x]) (by simp [x]) (by simp [x]))
      have same : (finish (withAck dups ack (noticeJobGone e.text (enterVacant x)))).offer? e.id = x.offer? e.id :=
        offer?_congr (by simp) e.id
      refine ⟨_, run, finish_jobGone dups ack e.text ?_ ?_, ?_, fun o stands => ?_, fun before => ?_, fun place => ?_, fmr,
        lines, emu⟩
      · simpa [x] using active
      · simpa [x] using pending
      · simp [x, dtc]
      · rw [same] at stands
        obtain ⟨mem, is⟩ := offer?_mem stands
        obtain ⟨state, timer, -⟩ := finishOffer_ends o mem is
        exact ⟨state, timer⟩
      · rw [same, early (by rwa [now])]
        rfl
      · have kept : hasPlace x = true := (hasPlace_congr (by simp [x])).trans (met.place.trans place)
        simpa using noticeJobGone_stands e.text kept
    case closes =>
      have notTaken : e.state ≠ .taken := by
        rintro taken
        rw [taken] at closes
        simp [OfferState.running] at closes
      obtain ⟨u, b', closed, foundU, nowU, dtcU, fmrU, linesU, emuU⟩ := closeOffer_closes found' closes
      rw [hearConfirm_other found' notTaken (by rwa [own]), closed] at run
      obtain ⟨early, -⟩ := finishOffer_offer? .closed foundU
      rw [← id] at early run
      obtain ⟨fmr, lines, emu⟩ := finish_besideJob dups ack (x := finishOffer e.id .closed u)
        (beside.frame (by simp [fmrU]) (by simp [linesU]) (by simp [emuU]))
      refine ⟨_, run, fun o stands => ?_, fun before => ?_, ?_, fmr, lines, emu⟩
      · rw [finish_offer?] at stands
        obtain ⟨mem, is⟩ := offer?_mem stands
        obtain ⟨state, -, delay⟩ := finishOffer_ends o mem is
        exact ⟨state, delay⟩
      · rw [finish_offer?, early (by rwa [nowU, now])]
        rfl
      · simp [dtcU, dtc]
  case absent =>
    have absent' := met.offer?_none absent
    refine ⟨fun j job named => ?_, fun none_ => ?_⟩
    · have job' : w.dtc.job = some j := by rw [dtc, job]
      have acts := hearConfirm_job absent' job' named
      rw [own] at acts
      rw [← named] at absent'
      refine ⟨fun mine => ?_, fun other assigned => ?_, fun other hire => ?_⟩
      · rw [acts, if_pos mine] at run
        obtain ⟨fmr, lines, emu⟩ := finish_besideJob dups ack (x := confirmJob j.id w)
          (beside.frame (by simp) (by simp) (by simp))
        have same : (confirmJob j.id w).offer? j.id = w.offer? j.id := offer?_congr (by simp) j.id
        refine ⟨_, run, (finish_offer? dups ack _ _).trans (same.trans absent'), ?_, fmr, lines, emu⟩
        · rw [finish_dtc, confirmJob_dtc job', dtc]
          rfl
      · rw [acts, if_neg other, jobGoesElsewhere_assigned j.id (by rw [dtc, assigned])] at run
        obtain ⟨vacant, gone, sub, notice, fmr, lines, emu⟩ := giveUp_leaves dups ack job' active pending met.place beside
        exact ⟨_, run, vacant, gone, offer?_none_of_subset sub absent', notice, fmr, lines, emu⟩
      · rw [acts, if_neg other, jobGoesElsewhere_hire j.id (by rwa [dtc])] at run
        obtain ⟨fmr, lines, emu⟩ := finish_besideJob dups ack (x := conflictJob j.id w)
          (beside.frame (by simp) (by simp) (by simp))
        have same : (conflictJob j.id w).offer? j.id = w.offer? j.id := offer?_congr (by simp) j.id
        refine ⟨_, run, (finish_offer? dups ack _ _).trans (same.trans absent'), ?_, fmr, lines, emu⟩
        · rw [finish_dtc, conflictJob_dtc job', dtc]
    · rw [hearConfirm_nothing absent' (by rwa [dtc])] at run
      obtain ⟨fmr, lines, emu⟩ := finish_besideJob dups ack beside
      refine ⟨_, run, (finish_dtc dups ack w).trans dtc, ?_, ?_, fmr, lines, emu⟩
      · rw [finish_offers]
        exact map_of_bidFrame met.offers (fun o => (o.id, o.state)) fun _ => rfl
      · simpa using met.names

end Sys2Proof.Machine
end

section
/-! PROOFS. The TARIFF segments that are delivered (R128, R129). -/

namespace Sys2Proof.Machine

open Sys2Proof

-- The kernel's checks run one after another: side by side they ask for more threads than there is room for.
set_option Elab.async false

theorem newerVersion_congr {s t : State} (v : Nat) (active : t.tlu.active = s.tlu.active)
    (pending : t.tlu.pendingSet = s.tlu.pendingSet) : newerVersion v t = newerVersion v s := by
  simp only [newerVersion, active, pending]

theorem MetOwner.staging {f : AirFrame} {s w : State} (met : MetOwner f s w) : w.tlu.staging = s.tlu.staging := by
  obtain ⟨n, l, asked⟩ := met.asked
  rw [asked.tlu]
  rfl

/-! ## What a segment leaves -/

/-- A state that differs from another in the staging buffer and the pending set alone. -/
def StagedOnly (u t : State) : Prop :=
  ∃ staging pending, t = { u with tlu := { u.tlu with staging := staging, pendingSet := pending } }

theorem settleStaging_stagedOnly (g : Staging) (u : State) : StagedOnly u (settleStaging g u) := by
  unfold settleStaging
  split
  · dsimp only
    split
    · exact ⟨_, _, rfl⟩
    · exact ⟨_, _, rfl⟩
  · exact ⟨_, _, rfl⟩

theorem deliverTariff_stagedOnly (p : TariffPayload) (u : State) : StagedOnly u (deliverTariff p u) := by
  unfold deliverTariff
  split
  · split
    · exact settleStaging_stagedOnly _ u
    · split
      · split
        · exact settleStaging_stagedOnly _ u
        · exact ⟨_, _, rfl⟩
      · exact settleStaging_stagedOnly _ u
  · exact ⟨_, _, rfl⟩

theorem StagedOnly.beside {u t : State} (h : StagedOnly u t) :
    t.tlu.active = u.tlu.active ∧ t.dtc = u.dtc ∧ t.fmr = u.fmr ∧ t.lines = u.lines := by
  obtain ⟨_, _, rfl⟩ := h
  exact ⟨rfl, rfl, rfl, rfl⟩

/-- A buffer of a newer version settles: a whole one is emptied, and a good one becomes pending (R129). -/
theorem settleStaging_tlu {g : Staging} {u : State} (newer : newerVersion g.version u = true) :
    (settleStaging g u).tlu.staging = (if g.isComplete then none else some g) ∧
      (settleStaging g u).tlu.pendingSet =
        if g.isComplete && g.checks then some (decodeSet g.bytes) else u.tlu.pendingSet := by
  have newer' : newerVersion g.version { u with tlu := { u.tlu with staging := none } } = true :=
    (newerVersion_congr (s := u) (t := { u with tlu := { u.tlu with staging := none } }) g.version rfl rfl).trans newer
  unfold settleStaging
  by_cases whole : g.isComplete = true
  · by_cases good : g.checks = true
    · simp [whole, good, newer']
    · simp [whole, good]
  · simp [whole]

/-! ## Which segments are staged (R128) -/

theorem deliverTariff_old {p : TariffPayload} {u : State} (old : newerVersion p.version u = false) :
    deliverTariff p u = u := by
  simp [deliverTariff, old]

/-- A segment of the staged version with another count or check word is discarded. -/
theorem deliverTariff_unlike {p : TariffPayload} {u : State} {g : Staging} (staged : u.tlu.staging = some g)
    (same : g.version = p.version) (unlike : ¬(g.count = p.count ∧ g.setCrc = p.setCrc)) : deliverTariff p u = u := by
  unfold deliverTariff
  split
  · simp only [staged]
    rw [if_pos same, if_neg unlike]
  · rfl

theorem deliverTariff_fresh {p : TariffPayload} {u : State} (newer : newerVersion p.version u = true)
    (fresh : ∀ old, u.tlu.staging = some old → old.version ≠ p.version) :
    deliverTariff p u = settleStaging (startStaging p u.now) u := by
  unfold deliverTariff
  rw [if_pos newer]
  split
  · rfl
  · rename_i old staged
    rw [if_neg (fresh old staged)]

theorem deliverTariff_joins {p : TariffPayload} {u : State} {g : Staging} (newer : newerVersion p.version u = true)
    (staged : u.tlu.staging = some g) (version : g.version = p.version)
    (alike : g.count = p.count ∧ g.setCrc = p.setCrc) : deliverTariff p u = settleStaging (g.place p) u := by
  unfold deliverTariff
  rw [if_pos newer]
  simp only [staged]
  rw [if_pos version, if_pos alike]

/-- Settles O43: a segment by what is staged, and the buffer by whether it is whole. -/
theorem tariffSegmentsMakeThePendingSet : Obligations.TariffSegmentsMakeThePendingSet := by
  intro f p s delivered parses
  obtain ⟨w, dups, ack, met, run⟩ := delivered_run delivered
  obtain ⟨lines, -, dtc, fmr, now, -⟩ := met.parts
  obtain ⟨active, pending⟩ := met.sets
  have owner : deliver .tariff f w = deliverTariff p w := by simp [deliver, parses]
  rw [owner] at run
  have same (v : Nat) : newerVersion v w = newerVersion v s := newerVersion_congr v active pending
  refine ⟨fun discards => ?_, fun g newer stages => ?_⟩
  · have kept : deliverTariff p w = w := by
      rcases discards with old | ⟨g, staged, version, unlike⟩
      · exact deliverTariff_old (by rw [same, old])
      · exact deliverTariff_unlike (by rw [met.staging, staged]) version unlike
    rw [kept] at run
    exact ⟨_, run, by simp [met.staging], by simp [pending], by simp [active], by simp [dtc], by simp [fmr],
      by simp [lines]⟩
  · obtain ⟨settled, version⟩ : deliverTariff p w = settleStaging g w ∧ g.version = p.version := by
      rw [← same] at newer
      rcases stages with ⟨fresh, made⟩ | ⟨old, staged, version, count, crc, made⟩
      · rw [made, ← now]
        exact ⟨deliverTariff_fresh newer (by rwa [met.staging]), rfl⟩
      · rw [made]
        exact ⟨deliverTariff_joins newer (by rw [met.staging, staged]) version ⟨count, crc⟩, version⟩
    rw [settled] at run
    obtain ⟨staging, becomes⟩ := settleStaging_tlu (g := g) (u := w) (by rw [version, same, newer])
    obtain ⟨active', dtc', fmr', lines'⟩ := (settleStaging_stagedOnly g w).beside
    exact ⟨_, run, by simp [staging], by simp [becomes, pending], by simp [active', active], by simp [dtc', dtc],
      by simp [fmr', fmr], by simp [lines', lines]⟩

end Sys2Proof.Machine
end

section
/-! PROOFS. The console's timers (R158, R167, R172, R173, R175). -/

namespace Sys2Proof.Machine

open Sys2Proof

-- The kernel's checks run one after another: side by side they ask for more threads than there is room for.
set_option Elab.async false

/-! ## The buzzer (R175) -/

theorem buzz_playing {s : State} {tone : Tone} {since : Moment} (playing : s.cns.buzzer = some (tone, since)) :
    s.buzz = soundAt tone (s.now - since) := by
  simp only [State.buzz, playing]

/-- Within its length a pattern sounds for the first part of each beat. -/
theorem soundAt_eq (tone : Tone) (ms : Nat) :
    soundAt tone ms =
      if ms < toneLength tone ∧ ms % ((toneBeats tone).length + (toneBeats tone).gap) < (toneBeats tone).length then
        (toneBeats tone).sound
      else .silent := by
  unfold soundAt
  exact if_congr (by simp) rfl rfl

/-! ## The lamps (R172) -/

theorem followLamps_get (lamp : Lamp) (s : State) :
    (followLamps s).cns.lamps.get lamp = drive s.now (lampRule lamp s) (s.cns.lamps.get lamp) := by
  cases lamp <;> rfl

theorem finish_lamp (lamp : Lamp) (s : State) :
    (finish s).cns.lamps.get lamp = drive s.now (lampRule lamp s) (s.cns.lamps.get lamp) := by
  have before : Settled s (followPark (settleAccess s)) := (settleAccess_settled s).trans (followPark_settled _)
  have kept : (followPark (settleAccess s)).cns.lamps = s.cns.lamps := by simp
  have lamps : (finish s).cns.lamps = (followLamps (followPark (settleAccess s))).cns.lamps := followView_lamps _
  obtain ⟨-, -, -, -, -, -, -, -, -, now, -⟩ := before.keeps
  rw [lamps, followLamps_get, before.lampRule lamp, now, kept]

theorem Lamps.get_set_same (l : Lamps) (lamp : Lamp) (d : LampDrive) : (l.set lamp d).get lamp = d := by
  cases lamp <;> rfl

/-- A lamp that blinks blinks on as time goes: of tACCEPT less is left. -/
theorem lampRule_later {lamp : Lamp} {s : State} (l : Lamps) {t : Moment} (later : s.now ≤ t)
    (blinks : lampRule lamp s = .blinking) :
    lampRule lamp { s with now := t, cns := { s.cns with lamps := l } } = .blinking := by
  cases lamp with
  | roofAlarm => exact blinks
  | roofVacant => exact blinks
  | ledRadio => exact blinks
  | ledMsg => exact blinks
  | ledOffer =>
    have won : ({ s with now := t, cns := { s.cns with lamps := l } } : State).wonOffer? = s.wonOffer? := rfl
    simp only [lampRule, acceptLeftMs, won] at blinks ⊢
    split at blinks
    · rename_i here
      rw [if_pos here]
      cases found : s.wonOffer? with
      | none => simp [found] at blinks
      | some e =>
        cases timer : e.jobTimer with
        | none => simp [found, timer] at blinks
        | some due =>
          simp only [found, timer, Option.map_some] at blinks ⊢
          have left : due - s.now ≤ 5000 := by
            by_contra long
            rw [if_neg long] at blinks
            cases blinks
          rw [if_pos (Nat.le_trans (Nat.sub_le_sub_left later due) left)]
    · cases blinks

theorem toggleLamp_blink {lamp : Lamp} {s : State} {on : Bool} {since : Moment}
    (blinking : s.cns.lamps.get lamp = .blink on since) :
    toggleLamp lamp s =
      { s with
        now := max s.now (since + blinkHalf lamp)
        cns := { s.cns with
          lamps := s.cns.lamps.set lamp (.blink (!on) (max s.now (since + blinkHalf lamp))) } } := by
  simp only [toggleLamp, blinking]

theorem lamps_settled (l : Lamps) (s : State) : Settled s { s with cns := { s.cns with lamps := l } } :=
  ⟨s.cau.access, s.stc.parkSince, l, s.cns.pointers, s.cns.shown, s.cns.selection, s.cns.display, rfl⟩

/-- The half-period of a blink ends: the lamp is toggled, and blinks on. -/
theorem blinkPhaseEnd_toggles {lamp : Lamp} {s : State} {on : Bool} {since now : Moment} (runs : s.running = true)
    (blinking : s.cns.lamps.get lamp = .blink on since) (rule : lampRule lamp s = .blinking)
    (ends : now = max s.now (since + blinkHalf lamp)) :
    ∃ t, exec (.blinkPhaseEnd lamp) s = .next t ∧ t.now = now ∧ t.cns.lamps.get lamp = .blink (!on) t.now ∧
      Settled { s with now := t.now } t := by
  subst ends
  have acts : exec (.blinkPhaseEnd lamp) s = .next (finish (toggleLamp lamp s)) :=
    congrArg _ (whenRunning_of_running _ runs)
  rw [toggleLamp_blink blinking] at acts
  refine ⟨_, acts, by simp, ?_, ?_⟩
  · rw [finish_lamp, lampRule_later _ (Nat.le_max_left _ _) rule, Lamps.get_set_same]
    simp [drive]
  · have toggled := lamps_settled (s.cns.lamps.set lamp (.blink (!on) (max s.now (since + blinkHalf lamp))))
      { s with now := max s.now (since + blinkHalf lamp) }
    simpa using toggled.trans (finish_settled _)

/-- Settles O51: each of the console's timers by its act. -/
theorem consoleTimersAct : Obligations.ConsoleTimersAct := by
  refine ⟨fun s silent => ?_, fun s tone since playing => ?_, fun s runs => ⟨?refresh, fun since dims => ?dims,
    fun since stretched => ?stretch, fun lamp on since blinking rule => ?blink, fun tone since playing => ?pattern⟩⟩
  · simp only [State.buzz, silent]
  · intro ms
    rw [buzz_playing playing, soundAt_eq]
    cases tone with
    | alarmNear | offer | message => rfl
    | error | click => exact if_congr (and_iff_left (Nat.mod_lt _ (by decide))) rfl rfl
  case refresh =>
    have phase : s.stc.phase ≠ .halted := by
      intro halted
      simp [State.running, halted] at runs
    exact congrArg _ (if_neg phase)
  case dims => exact ⟨_, rfl, gives_of_whenRunning rfl runs (by simp only [dims]; rfl)⟩
  case stretch => exact gives_of_whenRunning rfl runs (by simp only [stretched]; rfl)
  case blink =>
    exact blinkPhaseEnd_toggles runs blinking rule (by cases lamp <;> rfl)
  case pattern =>
    refine gives_of_whenRunning rfl runs ?_
    simp only [playing]
    cases tone <;> rfl

end Sys2Proof.Machine
end

section
/-! PROOFS. The MSG segments that are delivered (R142 to R147, R156). -/

namespace Sys2Proof.Machine

open Sys2Proof

-- The kernel's checks run one after another: side by side they ask for more threads than there is room for.
set_option Elab.async false

/-! ## The store as a segment meets it: of the replies one may have been told DROPPED -/

section
variable {f : AirFrame} {s w : State} (met : MetOwner f s w)
include met

theorem MetOwner.entries :
    w.mst.entries.map (fun e => { e with reply := none }) = s.mst.entries.map fun e => { e with reply := none } := by
  obtain ⟨n, l, asked⟩ := met.asked
  exact asked.entries

theorem MetOwner.map_entries {β : Type} (g : MsgEntry → β) (blind : ∀ e, g { e with reply := none } = g e) :
    w.mst.entries.map g = s.mst.entries.map g := by
  have both := congrArg (List.map g) met.entries
  simp only [List.map_map] at both
  have same : (g ∘ fun e : MsgEntry => { e with reply := none }) = g := funext blind
  rwa [same] at both

theorem MetOwner.msgNamed_eq (name : MsgName) :
    (w.msgNamed name).map (fun e => { e with reply := none }) =
      (s.msgNamed name).map fun e => { e with reply := none } := by
  have both := congrArg (List.find? fun e : MsgEntry => decide (e.name = name)) met.entries
  rw [List.find?_map, List.find?_map] at both
  exact both

theorem MetOwner.msgNamed_some {name : MsgName} {e : MsgEntry} (found : s.msgNamed name = some e) :
    ∃ r, w.msgNamed name = some { e with reply := r } := by
  have both := met.msgNamed_eq name
  rw [found] at both
  obtain ⟨x, foundX, same⟩ := Option.map_eq_some_iff.mp both
  refine ⟨x.reply, foundX.trans (congrArg some ?_)⟩
  have eq := congrArg (fun y : MsgEntry => { y with reply := x.reply }) same
  exact eq

theorem MetOwner.msgNamed_none {name : MsgName} (absent : s.msgNamed name = none) : w.msgNamed name = none := by
  have both := met.msgNamed_eq name
  rw [absent] at both
  exact Option.map_eq_none_iff.mp both

theorem MetOwner.buzzer : w.cns.buzzer = s.cns.buzzer := by
  obtain ⟨n, l, asked⟩ := met.asked
  rw [asked.cns]
  rfl

end

/-! ## What plays after a request -/

theorem buzzerAfter_congr {s t : State} (tone : Tone) (stc : t.stc = s.stc) (emu : t.emu.state = s.emu.state)
    (buzzer : t.cns.buzzer = s.cns.buzzer) (now : t.now = s.now) : buzzerAfter tone t = buzzerAfter tone s := by
  have accepted : toneAccepted tone t = toneAccepted tone s := by
    simp only [toneAccepted, State.running, State.emergencyIdle, stc, emu]
  unfold buzzerAfter
  rw [accepted, buzzer, now]

@[simp] theorem removeMsg_buzzer (n : Nat) (s : State) : (removeMsg n s).cns.buzzer = s.cns.buzzer := by
  have freed : (freeMsg n s).cns.buzzer = s.cns.buzzer := by
    unfold freeMsg
    dsimp only
    split <;> rfl
  unfold removeMsg
  split
  · rfl
  · dsimp only
    split
    · simpa using freed
    · exact freed

@[simp] theorem takePlace_buzzer (s : State) : (takePlace s).cns.buzzer = s.cns.buzzer := by
  unfold takePlace
  split
  · rfl
  · split
    · exact removeMsg_buzzer _ s
    · rfl

/-! ## The test for completion (R144) -/

theorem completeIfWhole_of_part {s : State} {n : Nat} {e : MsgEntry} (found : s.msg? n = some e)
    (part : e.whole = false) : completeIfWhole n s = s := by
  simp [completeIfWhole, found, part]

theorem completeIfWhole_of_whole {s : State} {n : Nat} {e : MsgEntry} (found : s.msg? n = some e)
    (whole : e.whole = true) (assembling : e.state = .assembling) :
    completeIfWhole n s =
      requestTone .message
        { s with mst := { s.mst with entries := e.completed :: s.mst.entries.filter (·.entry ≠ n) } } := by
  simp [completeIfWhole, found, whole, assembling]

/-- What the test leaves of an entry that is ASSEMBLING. -/
def MsgEntry.tested (e : MsgEntry) : MsgEntry := if e.whole then e.completed else e

theorem MsgEntry.tested_state {e : MsgEntry} (assembling : e.state = .assembling) :
    e.tested.state = if e.whole then .unread else .assembling := by
  unfold MsgEntry.tested
  split
  · rfl
  · exact assembling

theorem MsgEntry.tested_same (e : MsgEntry) :
    e.tested.entry = e.entry ∧ e.tested.name = e.name ∧ e.tested.kind = e.kind ∧ e.tested.pin = e.pin ∧
      e.tested.replyWanted = e.replyWanted ∧ e.tested.count = e.count ∧ e.tested.segments = e.segments ∧
      e.tested.expired = e.expired ∧ e.tested.reply = e.reply := by
  unfold MsgEntry.tested
  split <;> exact ⟨rfl, rfl, rfl, rfl, rfl, rfl, rfl, rfl, rfl⟩

theorem MsgEntry.tested_whole (e : MsgEntry) : e.tested.whole = e.whole := by
  unfold MsgEntry.tested
  split <;> rfl

theorem MsgEntry.tested_validityLeft (e : MsgEntry) :
    e.tested.validityLeft =
      if e.whole then (if e.validityMinutes = 0 then none else some (e.validityMinutes * 60)) else e.validityLeft := by
  unfold MsgEntry.tested
  split <;> rfl

theorem MsgEntry.tested_listAge {e : MsgEntry} (whole : e.whole = true) : e.tested.listAge = 0 := by
  unfold MsgEntry.tested
  rw [if_pos whole]
  rfl

/-- The entry of a number after the test: in the list, at its head with the MESSAGE tone where it is whole. -/
theorem completeIfWhole_tests {s : State} {n : Nat} {e : MsgEntry} (found : s.msg? n = some e)
    (assembling : e.state = .assembling) :
    e.tested ∈ (completeIfWhole n s).mst.entries ∧
      (e.whole = true → (completeIfWhole n s).mst.entries.head? = some e.tested ∧
        (completeIfWhole n s).cns.buzzer = buzzerAfter .message s) := by
  obtain ⟨mem, -⟩ := msg?_mem found
  unfold MsgEntry.tested
  by_cases whole : e.whole = true
  · rw [completeIfWhole_of_whole found whole assembling, requestTone_eq, if_pos whole]
    refine ⟨List.mem_cons_self, fun _ => ⟨rfl, ?_⟩⟩
    exact buzzerAfter_congr .message rfl rfl rfl rfl
  · rw [completeIfWhole_of_part found (by simpa using whole), if_neg whole]
    exact ⟨mem, fun h => absurd h whole⟩

/-! ## A first segment (R143) -/

/-- A segment alone makes a whole entry where it is the only one. -/
theorem firstSegment_whole {source : Station} {direct : Bool} {p : MsgPayload} (first : 1 ≤ p.index)
    (last : p.index ≤ p.count) : (firstSegment source direct p).whole = decide (p.count = 1) := by
  rw [Bool.eq_iff_iff]
  simp only [MsgEntry.whole, firstSegment, List.all_eq_true, List.mem_range, List.any_cons, List.any_nil, Bool.or_false,
    decide_eq_true_eq]
  constructor
  · intro all
    have one := all 0
    have two := all 1
    omega
  · intro one i below
    omega

/-- The entry that a first segment makes. -/
def freshEntry (source : Station) (direct : Bool) (p : MsgPayload) (n : Nat) : MsgEntry :=
  ({ firstSegment source direct p with entry := n } : MsgEntry).tested

theorem createMsg_makes (source : Station) (direct : Bool) (p : MsgPayload) (s : State) :
    freshEntry source direct p s.mst.nextMsg ∈ (createMsg source direct p s).mst.entries ∧
      ((firstSegment source direct p).whole = true →
        (createMsg source direct p s).mst.entries.head? = some (freshEntry source direct p s.mst.nextMsg) ∧
          (createMsg source direct p s).cns.buzzer = buzzerAfter .message s) := by
  have found : (addMsg (firstSegment source direct p) s).msg? s.mst.nextMsg =
      some { firstSegment source direct p with entry := s.mst.nextMsg } := by
    simp [State.msg?, addMsg]
  obtain ⟨mem, head⟩ := completeIfWhole_tests found rfl
  refine ⟨mem, fun whole => ?_⟩
  obtain ⟨first, plays⟩ := head whole
  exact ⟨first, plays.trans (buzzerAfter_congr .message rfl rfl rfl rfl)⟩

/-- What a delivered segment does where it makes an entry: a place is made, and the entry takes it. -/
theorem deliverMsg_creates {source : Station} {direct : Bool} {p : MsgPayload} {s : State}
    (makes : s.msgNamed (.message source p.number) = none ∧ hasPlace s = true ∨
      ∃ e, s.msgNamed (.message source p.number) = some e ∧ e.state ≠ .assembling ∧ 600 < e.listAge) :
    ∃ u, deliverMsg source direct p s = createMsg source direct p u ∧ u.stc = s.stc ∧ u.emu = s.emu ∧
      u.cns.buzzer = s.cns.buzzer ∧ u.now = s.now := by
  unfold deliverMsg
  rcases makes with ⟨absent, place⟩ | ⟨e, found, complete, old⟩
  · refine ⟨takePlace s, ?_, by simp, by simp, by simp, by simp⟩
    simp only [absent]
    exact if_pos place
  · refine ⟨removeMsg e.entry s, ?_, by simp, by simp, by simp, by simp⟩
    simp only [found]
    rw [if_neg complete, if_neg (Nat.not_le.mpr old)]

theorem parseMsg_index {bytes : List Byte} {p : MsgPayload} (parses : parseMsg bytes = some p) :
    1 ≤ p.index ∧ p.index ≤ p.count := by
  unfold parseMsg at parses
  split at parses
  · dsimp only at parses
    split at parses
    · rename_i bounds
      obtain ⟨-, -, -, -, first, last⟩ := bounds
      cases parses
      exact ⟨first, last⟩
    · cases parses
  · cases parses

theorem freshEntry_fields (source : Station) (direct : Bool) {p : MsgPayload} (n : Nat) (first : 1 ≤ p.index)
    (last : p.index ≤ p.count) :
    (freshEntry source direct p n).name = .message source p.number ∧
      (freshEntry source direct p n).kind = (if direct then .direct else .broadcast) ∧
      (freshEntry source direct p n).pin = p.pin ∧ (freshEntry source direct p n).replyWanted = p.replyWanted ∧
      (freshEntry source direct p n).count = p.count ∧
      (freshEntry source direct p n).segments = [(p.index, p.text)] ∧
      (freshEntry source direct p n).expired = false ∧ (freshEntry source direct p n).reply = none ∧
      (freshEntry source direct p n).state = (if p.count = 1 then .unread else .assembling) ∧
      (freshEntry source direct p n).validityLeft =
        if p.count = 1 ∧ p.validity ≠ 0 then some (p.validity * 60) else none := by
  let e : MsgEntry := { firstSegment source direct p with entry := n }
  have whole : e.whole = decide (p.count = 1) :=
    firstSegment_whole (source := source) (direct := direct) first last
  obtain ⟨-, name, kind, pin, wanted, count, segments, expired, reply⟩ := e.tested_same
  have state := MsgEntry.tested_state (e := e) rfl
  have validity := e.tested_validityLeft
  rw [whole] at state validity
  refine ⟨name, kind, pin, wanted, count, segments, expired, reply, state.trans ?_, validity.trans ?_⟩
  · exact if_congr decide_eq_true_iff rfl rfl
  · by_cases one : p.count = 1
    · by_cases none_ : p.validity = 0 <;> simp [one, none_, e, firstSegment]
    · simp [one, e, firstSegment]

/-! ## A further segment (R143, R145) -/

/-- A state's entry of a number, where each has its own. -/
theorem msg?_of_mem {s : State} {e : MsgEntry} (once : (s.mst.entries.map (·.entry)).Nodup)
    (mem : e ∈ s.mst.entries) : s.msg? e.entry = some e := by
  cases found : s.msg? e.entry with
  | none =>
    have other := List.find?_eq_none.mp found e mem
    simp at other
  | some x =>
    obtain ⟨memX, same⟩ := msg?_mem found
    rw [List.inj_on_of_nodup_map once memX mem same]

theorem updMsg_msg? {s : State} {n : Nat} {e : MsgEntry} {f : MsgEntry → MsgEntry} (kept : ∀ x, (f x).entry = x.entry)
    (found : s.msg? n = some e) : (s.updMsg n f).msg? n = some (f e) := by
  obtain ⟨-, named⟩ := msg?_mem found
  unfold State.msg? State.updMsg at *
  dsimp only
  rw [find?_updateWhere _ _ f _ (fun a h => by simpa [kept] using h), found, Option.map_some, if_pos (by simpa using named)]

/-- An entry with one segment more. -/
def MsgEntry.joined (p : MsgPayload) (e : MsgEntry) : MsgEntry := { e with segments := e.segments ++ [(p.index, p.text)] }

theorem deliverMsg_joins {source : Station} {direct : Bool} {p : MsgPayload} {s : State} {e : MsgEntry}
    (found : s.msgNamed (.message source p.number) = some e) (assembling : e.state = .assembling)
    (count : p.count = e.count) (fresh : ∀ g ∈ e.segments, g.1 ≠ p.index) :
    deliverMsg source direct p s = completeIfWhole e.entry (s.updMsg e.entry (MsgEntry.joined p)) := by
  have room : (!e.segments.any fun g => decide (g.1 = p.index)) = true := by simpa using fresh
  unfold deliverMsg
  simp only [found]
  rw [if_pos assembling]
  unfold placeSegment
  exact if_pos (by simp only [room, count]; simp)

/-- What a delivered segment leaves alone: one without a place, of another count, at hand, or of a message that
stands complete (R145, R147). -/
theorem deliverMsg_discards {source : Station} {direct : Bool} {p : MsgPayload} {s : State}
    (discards : s.msgNamed (.message source p.number) = none ∧ hasPlace s = false ∨
      ∃ e, s.msgNamed (.message source p.number) = some e ∧
        if e.state = .assembling then p.count ≠ e.count ∨ (∃ g ∈ e.segments, g.1 = p.index) else e.listAge ≤ 600) :
    deliverMsg source direct p s = s := by
  unfold deliverMsg
  rcases discards with ⟨absent, full⟩ | ⟨e, found, why⟩
  · simp only [absent]
    exact if_neg (by simp [full])
  · simp only [found]
    by_cases assembling : e.state = .assembling
    · rw [if_pos assembling] at why ⊢
      unfold placeSegment
      refine if_neg ?_
      simp only [Bool.and_eq_true, decide_eq_true_eq, Bool.not_eq_true', List.any_eq_false, not_and, not_forall]
      rcases why with count | ⟨g, mem, same⟩
      · exact fun h => absurd h count
      · exact fun _ => ⟨g, mem, by simpa using same⟩
    · rw [if_neg assembling] at why ⊢
      exact if_pos why

/-! ## The statement -/

/-- What stands beside the store is as it was, and the store is that of the act. -/
theorem finish_store (dups : List DupKey) (ack : Option PendingAck) (x : State) :
    (finish (withAck dups ack x)).mst = x.mst ∧ (finish (withAck dups ack x)).cns.buzzer = x.cns.buzzer := by
  constructor <;> simp

/-- Settles O40: a segment by the entry of its message, and a whole entry by the test for completion. -/
theorem msgSegmentsBuildTheEntry : Obligations.MsgSegmentsBuildTheEntry := by
  intro f p s wf delivered parses name named
  obtain ⟨w, dups, ack, met, run⟩ := delivered_run delivered
  obtain ⟨lines, stc, dtc, fmr, now, emu, -⟩ := met.parts
  have place := met.place
  have own := met.own
  have once : (w.mst.entries.map (·.entry)).Nodup := by
    rw [met.map_entries (·.entry) fun _ => rfl]
    exact wf.2.1
  have owner : deliver .msg f w = deliverMsg f.header.source (f.header.dest = s.own) p w := by
    simp [deliver, parses, own]
  rw [owner] at run
  obtain ⟨first, last⟩ := parseMsg_index parses
  subst named
  have rest : ∀ x : State, x = deliverMsg f.header.source (f.header.dest = s.own) p w →
      (finish (withAck dups ack x)).dtc = s.dtc ∧ (finish (withAck dups ack x)).fmr = s.fmr ∧
        (finish (withAck dups ack x)).lines = s.lines ∧ (finish (withAck dups ack x)).emu.state = s.emu.state := by
    rintro x rfl
    refine ⟨?_, ?_, ?_, ?_⟩ <;> simp [dtc, fmr, lines, emu]
  refine ⟨fun makes => ?makes, fun e found assembling count fresh => ?joins, fun discards => ?discards⟩
  case makes =>
    have makes' : w.msgNamed (.message f.header.source p.number) = none ∧ hasPlace w = true ∨
        ∃ e, w.msgNamed (.message f.header.source p.number) = some e ∧ e.state ≠ .assembling ∧ 600 < e.listAge := by
      rcases makes with ⟨absent, free⟩ | ⟨e, found, complete, old⟩
      · exact .inl ⟨met.msgNamed_none absent, place.trans free⟩
      · obtain ⟨r, found'⟩ := met.msgNamed_some found
        exact .inr ⟨_, found', complete, old⟩
    obtain ⟨u, created, stcU, emuU, buzzerU, nowU⟩ :=
      deliverMsg_creates (direct := decide (f.header.dest = s.own)) makes'
    obtain ⟨mem, head⟩ := createMsg_makes f.header.source (f.header.dest = s.own) p u
    rw [← created] at mem head
    let m := freshEntry f.header.source (f.header.dest = s.own) p u.mst.nextMsg
    have whole := firstSegment_whole (source := f.header.source) (direct := decide (f.header.dest = s.own)) first last
    obtain ⟨mst, buzzer⟩ := finish_store dups ack (deliverMsg f.header.source (f.header.dest = s.own) p w)
    obtain ⟨name, kind, pin, wanted, count, segments, expired, reply, state, validity⟩ :=
      freshEntry_fields f.header.source (f.header.dest = s.own) u.mst.nextMsg first last
    refine ⟨_, m, by rwa [mst], run, name, ?_, pin, wanted, count, segments, expired, reply, state, validity,
      fun one => ?_, rest _ rfl⟩
    · exact kind.trans (if_congr decide_eq_true_iff rfl rfl)
    · obtain ⟨atHead, plays⟩ := head (by rw [whole, one]; rfl)
      refine ⟨by rwa [mst], ?_⟩
      rw [buzzer, plays]
      exact buzzerAfter_congr .message (stcU.trans stc) (by rw [emuU, emu]) (buzzerU.trans met.buzzer) (nowU.trans now)
  case joins =>
    obtain ⟨r, found'⟩ := met.msgNamed_some found
    have joined := deliverMsg_joins (direct := decide (f.header.dest = s.own)) found' assembling count fresh
    have stands := updMsg_msg? (f := MsgEntry.joined p) (fun _ => rfl) (msg?_of_mem once (msgNamed_mem found').1)
    obtain ⟨mem, head⟩ := completeIfWhole_tests stands assembling
    rw [← joined] at mem head
    obtain ⟨mst, buzzer⟩ := finish_store dups ack (deliverMsg f.header.source (f.header.dest = s.own) p w)
    let m : MsgEntry := MsgEntry.joined p { e with reply := r }
    obtain ⟨entry, name, -, pin, -, -, segments, -⟩ := m.tested_same
    have named : e.name = .message f.header.source p.number := (msgNamed_mem found).2
    refine ⟨_, m.tested, by rwa [mst], run, entry, name.trans named, segments, pin, ?_, fun whole => ?_, rest _ rfl⟩
    · rw [m.tested_whole]
      exact MsgEntry.tested_state assembling
    · rw [m.tested_whole] at whole
      obtain ⟨atHead, plays⟩ := head whole
      refine ⟨by rwa [mst], MsgEntry.tested_listAge whole, ?_, ?_⟩
      · rw [m.tested_validityLeft, if_pos whole]
        rfl
      · rw [buzzer, plays]
        exact buzzerAfter_congr .message stc emu met.buzzer now
  case discards =>
    have discards' : w.msgNamed (.message f.header.source p.number) = none ∧ hasPlace w = false ∨
        ∃ e, w.msgNamed (.message f.header.source p.number) = some e ∧
          if e.state = .assembling then p.count ≠ e.count ∨ (∃ g ∈ e.segments, g.1 = p.index) else e.listAge ≤ 600 := by
      rcases discards with ⟨absent, full⟩ | ⟨e, found, why⟩
      · exact .inl ⟨met.msgNamed_none absent, place.trans full⟩
      · obtain ⟨r, found'⟩ := met.msgNamed_some found
        exact .inr ⟨_, found', why⟩
    have kept := deliverMsg_discards (direct := decide (f.header.dest = s.own)) discards'
    obtain ⟨mst, buzzer⟩ := finish_store dups ack (deliverMsg f.header.source (f.header.dest = s.own) p w)
    refine ⟨_, run, ?_, ?_, rest _ rfl⟩
    · rw [mst, kept]
      exact met.map_entries (fun x => (x.entry, x.state, x.segments, x.pin)) fun _ => rfl
    · rw [buzzer, kept, met.buzzer]

end Sys2Proof.Machine
end

section
/-! PROOFS. The acknowledgements that are prepared and keyed (R36 to R38). -/

namespace Sys2Proof.Machine

open Sys2Proof

-- The kernel's checks run one after another: side by side they ask for more threads than there is room for.
set_option Elab.async false

/-! ## The frame that asks for an acknowledgement, at its header's work -/

theorem metOwner_headerTaken (f : AirFrame) (s : State) : MetOwner f s (headerTaken f s) := by
  obtain ⟨neighbours, level, asked, -, other⟩ := headerTaken_asked f s
  exact ⟨⟨_, _, asked⟩, fun away => ⟨_, _, other away⟩⟩

theorem hasKey_congr {s t : State} (k : DupName) (dups : t.nbt.dups = s.nbt.dups) : hasKey k t = hasKey k s := by
  simp only [hasKey, dups]

theorem hasKey_enterKey (k : DupName) (s : State) : hasKey k (enterKey k s) = true := by
  unfold enterKey
  split
  · assumption
  · simp [hasKey]

section
variable {f : AirFrame} {s w : State} (met : MetOwner f s w)
include met

theorem MetOwner.asksAck (k : FrameKind) : asksAck k f.header w = asksAck k f.header s := by
  simp only [Machine.asksAck, met.own]

theorem MetOwner.hasKey (name : DupName) : hasKey name w = hasKey name s := by
  obtain ⟨-, -, -, -, -, -, -, -, dups, -⟩ := met.parts
  exact hasKey_congr name dups

theorem MetOwner.msgNamed_isSome (name : MsgName) : (w.msgNamed name).isSome = (s.msgNamed name).isSome := by
  have both := congrArg Option.isSome (met.msgNamed_eq name)
  simpa using both

theorem MetOwner.ownerTakes (k : FrameKind) : ownerTakes k f w = ownerTakes k f s := by
  unfold Machine.ownerTakes
  split
  · simp only [mstAnswer, met.msgNamed_isSome, met.place]
  · rfl

end

theorem asksAck_notAlarm {k : FrameKind} {h : Header} {s : State} (asks : asksAck k h s = true) :
    isAlarmFamily k = false := by
  simp only [asksAck, Bool.and_eq_true, Bool.not_eq_true'] at asks
  exact asks.2

/-- A heard frame that asks for an acknowledgement, after its header's work. -/
theorem asked_run {k : FrameKind} {f : AirFrame} {s : State} (heard : Heard (kindCode k) f s)
    (wellFormed : payloadWellFormed k f.payload = true) (accepted : sourceAccepted k f.header.source = true)
    (asks : asksAck k f.header s = true) :
    exec (frameCommand k f) s = .next (finish (acknowledge k f (headerTaken f s))) := by
  have asks' : asksAck k f.header (headerTaken f s) = true := ((metOwner_headerTaken f s).asksAck k).trans asks
  have routed : routeKind (some k) f (headerTaken f s) = acknowledge k f (headerTaken f s) := by
    simp [routeKind, wellFormed, accepted, route, asksAck_notAlarm asks, asks']
  rw [receiveFrame_heard heard, routed]

/-! ## What the acknowledgement leaves (R36, R37) -/

theorem acknowledge_repeat {k : FrameKind} {f : AirFrame} {w : State} (known : hasKey (frameKey k f.header) w = true) :
    acknowledge k f w = prepareAck k f.header w := if_pos known

theorem acknowledge_taken {k : FrameKind} {f : AirFrame} {w : State} (fresh : hasKey (frameKey k f.header) w = false)
    (takes : ownerTakes k f w = true) :
    acknowledge k f w = prepareAck k f.header (enterKey (frameKey k f.header) (deliver k f w)) := by
  unfold acknowledge
  simp [fresh, takes]

theorem acknowledge_refused {k : FrameKind} {f : AirFrame} {w : State} (fresh : hasKey (frameKey k f.header) w = false)
    (refuses : ownerTakes k f w = false) : acknowledge k f w = w := by
  unfold acknowledge
  simp [fresh, refuses]

/-- A frame that is a repeat, or is taken, leaves its key and a pending ACK. -/
theorem acknowledge_prepares {k : FrameKind} {f : AirFrame} {w : State}
    (answers : hasKey (frameKey k f.header) w = true ∨ ownerTakes k f w = true) :
    hasKey (frameKey k f.header) (acknowledge k f w) = true ∧
      (acknowledge k f w).fre.pendingAck =
        some { dest := f.header.source, kind := k, seq := f.header.seq, due := w.now + 10 } := by
  by_cases known : hasKey (frameKey k f.header) w = true
  · rw [acknowledge_repeat known]
    exact ⟨known, rfl⟩
  · have takes := answers.resolve_left known
    rw [acknowledge_taken (by simpa using known) takes]
    refine ⟨hasKey_enterKey _ _, ?_⟩
    simp [prepareAck, tAckGap]

/-! ## The end of the ACK gap (R38) -/

theorem mayAck_iff (s : State) :
    mayAck s = true ↔ s.lines.cd = false ∧ s.txKey = false ∧ s.lines.quiet = false ∧ s.stc.supply = .normal ∧
      s.stc.fault = false ∧ s.stc.loopback = false ∧ s.fre.rx = .hunt := by
  have normal : s.stc.supply ≠ .low ↔ s.stc.supply = .normal := by
    cases s.stc.supply <;> simp
  simp [mayAck, State.channelBusy, State.inhibited, normal, and_assoc]

/-- Settles O41: the key and the pending ACK of a frame taken, and the ACK keyed or given up at its gap's end. -/
theorem acknowledgementsArePreparedAndKeyed : Obligations.AcknowledgementsArePreparedAndKeyed := by
  refine ⟨fun k f s heard wellFormed accepted asks answers => ?prepared,
    fun f s heard wellFormed accepted asks fresh refuses => ?refused, fun a s runs waits => ?keyed⟩
  case prepared =>
    have met := metOwner_headerTaken f s
    obtain ⟨lines, -, dtc, fmr, now, -⟩ := met.parts
    have run := asked_run heard wellFormed accepted asks
    obtain ⟨key, ack⟩ := acknowledge_prepares (k := k) (f := f) (w := headerTaken f s)
      (by rwa [met.hasKey, met.ownerTakes])
    refine ⟨_, run, (hasKey_congr _ (by simp)).trans key, ?_, fun known => ?_⟩
    · rw [← now]
      simpa using ack
    · rw [acknowledge_repeat (by rwa [met.hasKey])]
      simp [prepareAck, dtc, fmr, lines]
  case refused =>
    have met := metOwner_headerTaken f s
    have run := asked_run (k := .msg) heard wellFormed accepted asks
    rw [acknowledge_refused (by rwa [met.hasKey]) (by rwa [met.ownerTakes])] at run
    refine ⟨_, run, (hasKey_congr _ (by simp)).trans ((met.hasKey _).trans fresh), ?_⟩
    obtain ⟨n, l, asked⟩ := met.asked
    simp [asked.fre, framed]
  case keyed =>
    have run : exec .ackGapEnd s = .next (finish (endAckGap a (s.reach a.due))) := by
      refine congrArg _ ((whenRunning_of_running _ runs).trans ?_)
      simp only [waits]
    have tests := mayAck_iff (s.reach a.due)
    by_cases may : mayAck (s.reach a.due) = true
    · have acts : endAckGap a (s.reach a.due) = suspendReceive { s with
          now := max s.now a.due
          fre := { s.fre with pendingAck := none, ackTx := some ⟨a, false, max s.now a.due⟩ } } := if_pos may
      rw [acts] at run
      exact ⟨_, run, by simp [suspendReceive], by simp [suspendReceive],
        fun _ => ⟨by simp [suspendReceive], by simp [suspendReceive], by simp [State.txKey, suspendReceive]⟩,
        fun blocked => absurd (tests.mp may) blocked, by simp [suspendReceive]⟩
    · have acts : endAckGap a (s.reach a.due) = { s with
          now := max s.now a.due, fre := { s.fre with pendingAck := none } } := if_neg may
      rw [acts] at run
      refine ⟨_, run, by simp, by simp, fun clear => absurd (tests.mpr clear) may, fun _ => by simp, by simp⟩

end Sys2Proof.Machine
end

section
/-! PROOFS. The frame in service, and its number, while requests are made (R44 to R50). -/

namespace Sys2Proof.Machine

open Sys2Proof

-- The kernel's checks run one after another: side by side they ask for more threads than there is room for.
set_option Elab.async false

/-! ## The numbers of the queue through a request -/

/-- Every frame of the queue, and the next one admitted, has a number of a sort. -/
def NumbersMeet (P : Nat → Prop) (s : State) : Prop := (∀ x ∈ s.cau.queue, P x.number) ∧ P s.cau.nextEntry

section
variable {P : Nat → Prop} {s t : State}

theorem numbersMeet_congr (cau : t.cau = s.cau) : NumbersMeet P t ↔ NumbersMeet P s := by
  unfold NumbersMeet
  rw [cau]

theorem NumbersMeet.dequeue (n : Nat) (h : NumbersMeet P s) : NumbersMeet P (dequeue n s) :=
  ⟨fun x hx => h.1 x (List.mem_filter.mp hx).1, h.2⟩

/-- The frames that a request admits or leaves have numbers of a sort, where the queue's and the next one have. -/
def QueueMeets (P : Nat → Prop) (s : State) : Prop := ∀ x ∈ s.cau.queue, P x.number

theorem queueMeets_congr (queue : t.cau.queue = s.cau.queue) : QueueMeets P t ↔ QueueMeets P s := by
  unfold QueueMeets
  rw [queue]

theorem admitEntry_meets (q : Request) (h : NumbersMeet P s) : QueueMeets P (admitEntry q s) := by
  intro x hx
  rcases mem_insertEntry.mp hx with rfl | old
  · exact h.2
  · exact h.1 x old

theorem placeRequest_meets (q : Request) (h : NumbersMeet P s) : QueueMeets P (placeRequest q s).1 := by
  unfold placeRequest
  split
  · exact admitEntry_meets q h
  · split
    · exact h.1
    · split
      · split
        · exact h.1
        · rename_i e _
          exact admitEntry_meets q ((numbersMeet_congr (by simp)).mpr (h.dequeue e.number))
      · exact h.1

theorem requestGeneral_meets (q : Request) (h : NumbersMeet P s) : QueueMeets P (requestGeneral q s).1 := by
  unfold requestGeneral
  split
  · exact h.1
  · split
    · exact (h.dequeue _).1
    · exact placeRequest_meets q h

theorem holdRequest_meets (q : Request) (h : NumbersMeet P s) : QueueMeets P (holdRequest q s).1 := by
  unfold holdRequest
  split
  · exact (queueMeets_congr (s := s) (by simp)).mpr h.1
  · exact h.1

theorem replaceInPlace_meets (old : QueueEntry) (q : Request) (h : NumbersMeet P s) :
    QueueMeets P (replaceInPlace old q s).1 := by
  refine (queueMeets_congr (s := s.updEntry old.number fun e => { e with req := { e.req with kind := q.kind } })
    (by simp [replaceInPlace])).mpr fun x hx => ?_
  obtain ⟨y, hy, rfl⟩ := mem_updateWhere.mp hx
  split <;> exact h.1 y hy

theorem requestOwnAlarm_meets (q : Request) (h : NumbersMeet P s) : QueueMeets P (requestOwnAlarm q s).1 := by
  unfold requestOwnAlarm
  split
  · exact requestGeneral_meets q h
  · split
    · exact holdRequest_meets q h
    · split
      · exact h.1
      · exact replaceInPlace_meets _ q h

theorem requestFrame_meets (q : Request) (h : NumbersMeet P s) : QueueMeets P (requestFrame q s).1 := by
  unfold requestFrame
  split
  · split
    · exact h.1
    · exact requestGeneral_meets q h
  · split
    · split
      · split <;> exact h.1
      · exact requestGeneral_meets q h
    · split
      · exact requestOwnAlarm_meets q h
      · exact requestGeneral_meets q h

theorem reportTest_meets (h : NumbersMeet P s) : QueueMeets P (reportTest s) := by
  unfold reportTest
  split
  · split
    · exact h.1
    · dsimp only
      split
      · exact requestFrame_meets (fareRequest s _) h
      · exact requestFrame_meets (fareRequest s _) h
  · exact h.1

theorem admitHeld_meets (h : NumbersMeet P s) : QueueMeets P (admitHeld s) := by
  unfold admitHeld
  split
  · rename_i q _
    have asked := requestFrame_meets q (s := { s with cau := { s.cau with held := none } }) h
    dsimp only
    split
    · exact (queueMeets_congr (congrArg Cau.queue (toldDropped_frame _ _ _).2.2.2.2.1)).mpr asked
    · exact asked
  · exact h.1

end

/-! ## The frame in service while a report is asked for -/

/-- The in-service record and its frame are as they were. -/
def SameService (s t : State) : Prop :=
  t.cau.inService = s.cau.inService ∧ t.serviceEntry = s.serviceEntry

theorem SameService.trans {a b c : State} (h : SameService a b) (k : SameService b c) : SameService a c :=
  ⟨k.1.trans h.1, k.2.trans h.2⟩

theorem sameService_congr {s t : State} (cau : t.cau = s.cau) : SameService s t := by
  unfold SameService State.serviceEntry State.entry?
  rw [cau]
  exact ⟨rfl, rfl⟩

/-- What is not in service leaves the queue without a change of service. -/
theorem dequeue_sameService {s : State} {e : QueueEntry} (waits : s.isInService e = false) :
    SameService s (dequeue e.number s) := by
  refine ⟨rfl, ?_⟩
  unfold State.serviceEntry State.entry? dequeue
  dsimp only
  cases service : s.cau.inService with
  | none => rfl
  | some r =>
    have other : r.entry ≠ e.number := by simpa [State.isInService, service] using waits
    rw [Option.bind_some, Option.bind_some, List.find?_filter]
    congr 1
    funext x
    by_cases same : x.number = r.entry
    · simp [same, other]
    · simp [same]

theorem find?_insertEntry {p : QueueEntry → Bool} {e : QueueEntry} (other : p e = false) (l : List QueueEntry) :
    (insertEntry e l).find? p = l.find? p := by
  induction l with
  | nil => simp [insertEntry, other]
  | cons a l ih =>
    unfold insertEntry
    split
    · exact List.find?_cons_of_neg (by simp [other])
    · rw [List.find?_cons, List.find?_cons, ih]

/-- A new frame has another number than the one in service. -/
theorem admitEntry_sameService (q : Request) {s : State} {r : InService} (service : s.cau.inService = some r)
    (below : r.entry < s.cau.nextEntry) : SameService s (admitEntry q s) := by
  refine ⟨rfl, ?_⟩
  unfold State.serviceEntry State.entry? admitEntry
  dsimp only
  rw [service, Option.bind_some, Option.bind_some]
  exact find?_insertEntry (decide_eq_false below.ne') _

theorem newestOf_waits {cls : Nat} {s : State} {e : QueueEntry} (newest : newestOf cls s = some e) :
    e ∈ s.cau.queue ∧ s.isInService e = false := by
  obtain ⟨mem, is⟩ := findLast_mem newest
  simp only [Bool.and_eq_true, Bool.not_eq_true'] at is
  exact ⟨mem, is.2⟩

theorem placeRequest_sameService (q : Request) {s : State} {r : InService} (service : s.cau.inService = some r)
    (below : r.entry < s.cau.nextEntry) : SameService s (placeRequest q s).1 := by
  unfold placeRequest
  split
  · exact admitEntry_sameService q service below
  · split
    · exact ⟨rfl, rfl⟩
    · split
      · split
        · exact ⟨rfl, rfl⟩
        · rename_i e newest
          have gone := dequeue_sameService (newestOf_waits newest).2
          have told : SameService (dequeue e.number s) (toldDropped e.req.kind e.req.tag (dequeue e.number s)) :=
            sameService_congr (by simp)
          refine (gone.trans told).trans (admitEntry_sameService q (r := r) ?_ ?_)
          · simpa [dequeue] using service
          · simpa [dequeue] using below
      · exact ⟨rfl, rfl⟩

theorem reportTest_sameService {s : State} {r : InService} (service : s.cau.inService = some r)
    (below : r.entry < s.cau.nextEntry) : SameService s (reportTest s) := by
  have asked (n : Nat) : SameService s (requestFrame (fareRequest s n) s).1 := by
    rcases requestFare_eq (q := fareRequest s n) rfl s with same | same | same <;> rw [same]
    · exact ⟨rfl, rfl⟩
    · exact ⟨rfl, rfl⟩
    · exact placeRequest_sameService _ service below
  unfold reportTest
  split
  · split
    · exact ⟨rfl, rfl⟩
    · dsimp only
      split
      · exact (asked _).trans ⟨rfl, rfl⟩
      · exact (asked _).trans (sameService_congr rfl)
  · exact ⟨rfl, rfl⟩

/-! ## The entries of the store while a report is asked for -/

/-- No frame that waits is the reply of an entry. -/
def NoReplyWaits (n : Nat) (s : State) : Prop := ∀ q ∈ s.cau.queue, s.isInService q = false → q.req.tag ≠ .reply n

theorem toldDropped_entry {kind : FrameKind} {tag : Tag} {s : State} {x : MsgEntry} (mem : x ∈ s.mst.entries)
    (other : tag ≠ .reply x.entry) : x ∈ (toldDropped kind tag s).mst.entries := by
  unfold toldDropped
  split
  · split <;> exact mem
  · rename_i n
    refine mem_updateWhere.mpr ⟨x, mem, ?_⟩
    have different : x.entry ≠ n := fun same => other (by rw [same])
    rw [if_neg (by simpa using different)]
  · simpa using mem
  · split
    · simpa using mem
    · exact mem
  · exact mem
  · exact mem

theorem placeRequest_entry (q : Request) {s : State} {x : MsgEntry} (mem : x ∈ s.mst.entries)
    (free : NoReplyWaits x.entry s) : x ∈ (placeRequest q s).1.mst.entries := by
  unfold placeRequest
  split
  · exact mem
  · split
    · exact mem
    · split
      · split
        · exact mem
        · rename_i e newest
          obtain ⟨inQueue, waits⟩ := newestOf_waits newest
          exact toldDropped_entry (s := dequeue e.number s) mem (free e inQueue waits)
      · exact mem

theorem reportTest_entry {s : State} {x : MsgEntry} (mem : x ∈ s.mst.entries) (free : NoReplyWaits x.entry s) :
    x ∈ (reportTest s).mst.entries := by
  have asked (n : Nat) : x ∈ (requestFrame (fareRequest s n) s).1.mst.entries := by
    rcases requestFare_eq (q := fareRequest s n) rfl s with same | same | same <;> rw [same]
    · exact mem
    · exact mem
    · exact placeRequest_entry _ mem free
  unfold reportTest
  split
  · split
    · exact mem
    · dsimp only
      split
      · exact asked _
      · exact asked _
  · exact mem

/-! ## A header's work, as a report test or none (R68, R72, R73) -/

/-- A state that a header's work leaves before any report test. -/
structure HeaderHeard (s x : State) : Prop where
  cau : x.cau = s.cau
  mst : x.mst = s.mst
  log : x.tlu.log = s.tlu.log
  ocu : x.ocu = s.ocu
  relays : x.nbt.relays = s.nbt.relays

theorem headerTaken_reports (f : AirFrame) (s : State) :
    ∃ x, HeaderHeard s x ∧ (headerTaken f s = x ∨ headerTaken f s = reportTest x) := by
  let u : State := countGood (resumeReceive s)
  have refreshed : HeaderHeard s (homeRefreshed f.header u) := by
    unfold homeRefreshed
    rw [refreshNeighbour_nbtOnly]
    exact ⟨rfl, rfl, rfl, rfl, rfl⟩
  by_cases home : f.header.source = u.stc.config.home
  · obtain ⟨asks, quiet⟩ := hearHeader_home_cases (h := f.header) (s := u) home
    by_cases report : HomeAsksReport u
    · exact ⟨unheld (homeRefreshed f.header u), ⟨refreshed.cau, refreshed.mst, refreshed.log, refreshed.ocu, refreshed.relays⟩, .inr (asks report)⟩
    · exact ⟨_, refreshed, .inl (quiet report)⟩
  · refine ⟨refreshNeighbour f.header u, ?_, .inl (if_neg home)⟩
    rw [refreshNeighbour_nbtOnly]
    exact ⟨rfl, rfl, rfl, rfl, rfl⟩

section
variable {f : AirFrame} {s : State}

theorem headerTaken_sameService {r : InService} (service : s.cau.inService = some r)
    (below : r.entry < s.cau.nextEntry) : SameService s (headerTaken f s) := by
  obtain ⟨x, heard, same | reports⟩ := headerTaken_reports f s
  · rw [same]
    exact sameService_congr heard.cau
  · rw [reports]
    refine (sameService_congr heard.cau).trans (reportTest_sameService (r := r) ?_ ?_)
    · rw [heard.cau, service]
    · rwa [heard.cau]

theorem headerTaken_entry {x : MsgEntry} (mem : x ∈ s.mst.entries) (free : NoReplyWaits x.entry s) :
    x ∈ (headerTaken f s).mst.entries := by
  obtain ⟨y, heard, same | reports⟩ := headerTaken_reports f s
  · rwa [same, heard.mst]
  · rw [reports]
    refine reportTest_entry (by rwa [heard.mst]) ?_
    unfold NoReplyWaits State.isInService
    rw [heard.cau]
    exact free

/-- While a report is on its way, no other is asked for. -/
theorem headerTaken_log (flies : ∃ x ∈ s.tlu.log, x.state = .inFlight) : (headerTaken f s).tlu.log = s.tlu.log := by
  obtain ⟨y, heard, same | reports⟩ := headerTaken_reports f s
  · rw [same, heard.log]
  · rw [reports, reportTest_of_nothing (.inl (by rwa [heard.log])), heard.log]

end

end Sys2Proof.Machine
end

section
/-! PROOFS. The end of the ACK wait (R52, R60, R61, R63, R136, R155). -/

namespace Sys2Proof.Machine

open Sys2Proof

-- The kernel's checks run one after another: side by side they ask for more threads than there is room for.
set_option Elab.async false

/-! ## The frame leaves the queue (R62) -/

theorem gone_meets {n : Nat} {s : State} (below : n < s.cau.nextEntry) :
    NumbersMeet (· ≠ n) (dequeue n (endService s)) := by
  refine ⟨fun x hx => ?_, below.ne'⟩
  simpa using (List.mem_filter.mp hx).2

/-- A state of the queue and the next number of another. -/
def QueueSame (s u : State) : Prop := u.cau.queue = s.cau.queue ∧ u.cau.nextEntry = s.cau.nextEntry

/-- A state of fewer frames than another, and of its next number. -/
def QueueFewer (s u : State) : Prop := u.cau.queue.Sublist s.cau.queue ∧ u.cau.nextEntry = s.cau.nextEntry

theorem QueueSame.fewer {s u : State} (same : QueueSame s u) : QueueFewer s u :=
  ⟨same.1 ▸ List.Sublist.refl _, same.2⟩

theorem QueueSame.dequeue {s u : State} (n : Nat) (same : QueueSame s u) : QueueFewer s (dequeue n u) :=
  ⟨same.1 ▸ List.filter_sublist, same.2⟩

/-- A removal takes frames away and admits none (R49). -/
theorem removeFrame_fewer (kind : FrameKind) (tag : Tag) (s : State) : QueueFewer s (removeFrame kind tag s) := by
  have unheld : QueueSame s (match s.cau.held with
      | some q => if q.kind = kind && q.tag = tag then { s with cau := { s.cau with held := none } } else s
      | none => s) := by
    split
    · split <;> exact ⟨rfl, rfl⟩
    · exact ⟨rfl, rfl⟩
  unfold removeFrame
  dsimp only
  split
  · exact unheld.fewer
  · rename_i x _
    split
    · split
      · exact unheld.fewer
      · exact unheld.dequeue x.number
    · exact unheld.dequeue x.number

section
variable {P : Nat → Prop} {s : State}

theorem NumbersMeet.removeFrame (kind : FrameKind) (tag : Tag) (h : NumbersMeet P s) :
    NumbersMeet P (removeFrame kind tag s) := by
  obtain ⟨fewer, next⟩ := removeFrame_fewer kind tag s
  exact ⟨fun x hx => h.1 x (fewer.subset hx), next ▸ h.2⟩

theorem NumbersMeet.returnToIdle (h : NumbersMeet P s) : NumbersMeet P (returnToIdle s) := by
  have removed : NumbersMeet P
      (Machine.removeFrame .alarmClear .ownAlarm
        (Machine.removeFrame .alarm .ownAlarm (setMask 4 (updEmu Emu.idled s)))) :=
    NumbersMeet.removeFrame _ _ (NumbersMeet.removeFrame _ _ h)
  unfold Machine.returnToIdle
  dsimp only
  split
  · exact removed
  · exact removed

/-- What SENT leaves of the numbers: the return to IDLE removes frames at most. -/
theorem NumbersMeet.toldSent (q : Request) (h : NumbersMeet P s) : NumbersMeet P (toldSent q s) := by
  have cleared : NumbersMeet P (clearSent s) := by
    unfold clearSent
    split
    · dsimp only
      split
      · exact h
      · exact NumbersMeet.returnToIdle h
    · exact h
  unfold Machine.toldSent
  split
  · split
    · exact cleared
    · exact h
  all_goals exact h

/-- An outcome leaves the numbers as they were, but for a report it asks for. -/
theorem told_meets (o : Outcome) (q : Request) (h : NumbersMeet P s) : QueueMeets P (told o q s) := by
  cases o with
  | sent => exact (h.toldSent q).1
  | delivered =>
    show QueueMeets P (toldDelivered q s)
    unfold toldDelivered
    split
    · exact h.1
    · unfold fareDelivered
      split
      · exact reportTest_meets h
      · exact h.1
    all_goals exact h.1
  | failed =>
    show QueueMeets P (toldFailed q s)
    unfold toldFailed
    split
    · exact h.1
    · exact (queueMeets_congr (by simp)).mpr h.1
    all_goals exact h.1

/-- The outcome of an own alarm asks for no report. -/
theorem NumbersMeet.told_ownAlarm (o : Outcome) {q : Request} (own : q.tag = .ownAlarm) (h : NumbersMeet P s) :
    NumbersMeet P (told o q s) := by
  cases o with
  | sent => exact h.toldSent q
  | delivered =>
    show NumbersMeet P (toldDelivered q s)
    simpa only [toldDelivered, own] using h
  | failed =>
    show NumbersMeet P (toldFailed q s)
    simpa only [toldFailed, own] using h

end

theorem tag_of_isOwnAlarm {q : Request} (own : isOwnAlarm q = true) : q.tag = .ownAlarm := by
  simp only [isOwnAlarm, Bool.and_eq_true, decide_eq_true_eq] at own
  exact own.1

/-- No frame is left under the number of one that has left the queue. -/
theorem leaveService_gone (o : Outcome) {e : QueueEntry} {s : State} (below : e.number < s.cau.nextEntry) :
    ∀ q ∈ (leaveService o e s).cau.queue, q.number ≠ e.number := by
  have gone := gone_meets below
  unfold leaveService
  dsimp only
  split
  · rename_i own
    exact admitHeld_meets (gone.told_ownAlarm o (tag_of_isOwnAlarm own))
  · exact told_meets o e.req gone

/-- Only an own alarm that leaves lets a held request in (R46). -/
theorem leaveService_other (o : Outcome) {e : QueueEntry} (s : State) (other : e.req.tag ≠ .ownAlarm) :
    leaveService o e s = told o e.req (dequeue e.number (endService s)) := by
  have not : isOwnAlarm e.req = false := by simp [isOwnAlarm, other]
  simp [leaveService, not]

/-! ## What the reply and the fare record of the frame become (R136, R155) -/

theorem replyNotice_becomes {n : Nat} {r : ReplyState} {s : State} {x : MsgEntry} {y : Reply} (mem : x ∈ s.mst.entries)
    (number : x.entry = n) (reply : x.reply = some y) (waits : y.state = .queued ∨ y.state = .sent) :
    { x with reply := some { y with state := r } } ∈ (replyNotice n r s).mst.entries := by
  refine mem_updateWhere.mpr ⟨x, mem, ?_⟩
  rw [if_pos (by simpa using number)]
  rcases waits with state | state <;> simp [replyBecomes, reply, state]

theorem mem_setReport {n : Nat} {r : ReportState} {s : State} {x : LogRecord} (mem : x ∈ s.tlu.log)
    (number : x.number = n) : { x with state := r } ∈ (s.setReport n r).tlu.log :=
  mem_updateWhere.mpr ⟨x, mem, by rw [if_pos (by simpa using number)]⟩

theorem recordInFlight_iff (n : Nat) (s : State) :
    recordInFlight n s = true ↔ ∃ x ∈ s.tlu.log, x.number = n ∧ x.state = .inFlight := by
  simp [recordInFlight]

theorem fareLost_inFlight {n : Nat} {s : State} (flies : recordInFlight n s = true) :
    (fareLost n s).tlu.hold = some s.nbt.ticks ∧ ∃ x ∈ (fareLost n s).tlu.log, x.number = n ∧ x.state = .unsent := by
  obtain ⟨x, mem, number, -⟩ := (recordInFlight_iff n s).mp flies
  have lost : fareLost n s =
      { s.setReport n .unsent with tlu := { (s.setReport n .unsent).tlu with hold := some s.nbt.ticks } } := if_pos flies
  rw [lost]
  exact ⟨rfl, _, mem_setReport mem number, number, rfl⟩

/-- Without a report on its way no DROPPED loses one. -/
theorem toldDropped_log {kind : FrameKind} {tag : Tag} {s : State} (landed : ∀ x ∈ s.tlu.log, x.state ≠ .inFlight) :
    (toldDropped kind tag s).tlu.log = s.tlu.log := by
  have none_ : ∀ n, recordInFlight n s = false := fun n => by
    rw [Bool.eq_false_iff]
    intro flies
    obtain ⟨x, mem, -, is⟩ := (recordInFlight_iff n s).mp flies
    exact landed x mem is
  have kept : ∀ n, fareLost n s = s := fun n => if_neg (by
    have absent : ¬recordInFlight n s = true := by simp [none_]
    exact absent)
  unfold toldDropped
  split
  · split <;> rfl
  · rfl
  · rw [kept]
  · split
    · simp
    · rfl
  · rfl
  · rfl

theorem placeRequest_log (q : Request) {s : State} (landed : ∀ x ∈ s.tlu.log, x.state ≠ .inFlight) :
    (placeRequest q s).1.tlu.log = s.tlu.log := by
  unfold placeRequest
  split
  · rfl
  · split
    · rfl
    · split
      · split
        · rfl
        · rename_i e _
          exact toldDropped_log (s := dequeue e.number s) landed
      · rfl

theorem oldestUnsent_mem {s : State} {r : LogRecord} (oldest : oldestUnsent s = some r) :
    r ∈ s.tlu.log ∧ r.state = .unsent := by
  unfold oldestUnsent at oldest
  exact ⟨List.mem_of_find?_eq_some oldest, by simpa using List.find?_some oldest⟩

/-- The records of a number that are all REPORTED stay while another is asked for. -/
theorem reportTest_reported {s : State} {n : Nat} (all : ∀ x ∈ s.tlu.log, x.number = n → x.state = .reported)
    {x : LogRecord} (mem : x ∈ s.tlu.log) (number : x.number = n) : x ∈ (reportTest s).tlu.log := by
  unfold reportTest
  split
  · rename_i may
    have landed : ∀ x ∈ s.tlu.log, x.state ≠ .inFlight := by
      simp only [mayReport, Bool.and_eq_true, Bool.not_eq_true', List.any_eq_false, decide_eq_true_eq] at may
      exact may.1.2
    split
    · exact mem
    · rename_i r oldest
      have asked : (requestFrame (fareRequest s r.number) s).1.tlu.log = s.tlu.log := by
        rcases requestFare_eq (q := fareRequest s r.number) rfl s with same | same | same <;> rw [same]
        exact placeRequest_log _ landed
      dsimp only
      split
      · exact asked.symm ▸ mem
      · refine mem_updateWhere.mpr ⟨x, asked.symm ▸ mem, ?_⟩
        have other : x.number ≠ r.number := by
          obtain ⟨memR, unsent⟩ := oldestUnsent_mem oldest
          intro same
          rw [all r memR (same.symm.trans number)] at unsent
          cases unsent
        rw [if_neg (by simpa using other)]
  · exact mem

theorem fareDelivered_inFlight {n : Nat} {s : State} (flies : recordInFlight n s = true) :
    ∃ x ∈ (fareDelivered n s).tlu.log, x.number = n ∧ x.state = .reported := by
  obtain ⟨x, mem, number, -⟩ := (recordInFlight_iff n s).mp flies
  have delivered : fareDelivered n s = reportTest (s.setReport n .reported) := if_pos flies
  rw [delivered]
  refine ⟨_, reportTest_reported (n := n) ?_ (mem_setReport mem number) number, number, rfl⟩
  intro y memY named
  obtain ⟨z, -, rfl⟩ := mem_updateWhere.mp memY
  split at named
  · rename_i is
    rw [if_pos is]
  · rename_i isNot
    exact absurd (by simpa using named) isNot

end Sys2Proof.Machine
end

section
/-! PROOFS. The ACK wait ends by the ACK or by its expiry (R60, R61, R63, R136, R155). -/

namespace Sys2Proof.Machine

open Sys2Proof

-- The kernel's checks run one after another: side by side they ask for more threads than there is room for.
set_option Elab.async false

/-! ## The outcome of the frame in service -/

/-- The reply of a frame that leaves service, by its outcome (R155). -/
theorem leaveService_reply {o : Outcome} {r : ReplyState} {e : QueueEntry} {s : State} {n : Nat} {x : MsgEntry} {y : Reply}
    (becomes : ∀ u : State, told o e.req u = replyNotice n r u) (tag : e.req.tag = .reply n) (mem : x ∈ s.mst.entries)
    (number : x.entry = n) (reply : x.reply = some y) (waits : y.state = .queued ∨ y.state = .sent) :
    { x with reply := some { y with state := r } } ∈ (leaveService o e s).mst.entries := by
  rw [leaveService_other o s (by rw [tag]; nofun), becomes]
  exact replyNotice_becomes (s := dequeue e.number (endService s)) mem number reply waits

theorem leaveService_delivered_fare {e : QueueEntry} {s : State} {n : Nat} (tag : e.req.tag = .fareRecord n)
    (flies : recordInFlight n s = true) :
    ∃ x ∈ (leaveService .delivered e s).tlu.log, x.number = n ∧ x.state = .reported := by
  have told : ∀ u, told .delivered e.req u = fareDelivered n u := fun u => by simp only [told, toldDelivered, tag]
  rw [leaveService_other _ s (by rw [tag]; nofun), told]
  exact fareDelivered_inFlight (s := dequeue e.number (endService s)) flies

theorem leaveService_failed_fare {e : QueueEntry} {s : State} {n : Nat} (tag : e.req.tag = .fareRecord n)
    (flies : recordInFlight n s = true) :
    (leaveService .failed e s).tlu.hold = some s.nbt.ticks ∧
      ∃ x ∈ (leaveService .failed e s).tlu.log, x.number = n ∧ x.state = .unsent := by
  have told : ∀ u, told .failed e.req u = fareLost n u := fun u => by simp only [told, toldFailed, tag]
  rw [leaveService_other _ s (by rw [tag]; nofun), told]
  exact fareLost_inFlight (s := dequeue e.number (endService s)) flies

theorem leaveService_returned (o : Outcome) (e : QueueEntry) (s : State) :
    (finish (leaveService o e s)).cau.inService = none ∧ ReturnedToDefer (finish (leaveService o e s)) := by
  obtain ⟨none_, defer⟩ := leaveService_service o e s
  exact ⟨by simpa using none_, finish_returnedToDefer none_ (.inl defer)⟩

/-! ## The matching ACK (R60) -/

theorem hearAck_matches {source : Station} {p : AckPayload} {r : InService} {e : QueueEntry} {s : State}
    (service : s.cau.inService = some r) (entry : s.serviceEntry = some e) (phase : r.phase = .ackWait)
    (alike : e.req.dest = source ∧ kindCode e.req.kind = p.kind ∧ e.seq = some p.seq) :
    hearAck source p s = leaveService .delivered e s := by
  obtain ⟨dest, kind, seq⟩ := alike
  simp [hearAck, service, entry, ackMatches, phase, dest, kind, seq]

theorem hearAck_another {source : Station} {p : AckPayload} {r : InService} {e : QueueEntry} {s : State}
    (service : s.cau.inService = some r) (entry : s.serviceEntry = some e)
    (unlike : ¬(e.req.dest = source ∧ kindCode e.req.kind = p.kind ∧ e.seq = some p.seq)) : hearAck source p s = s := by
  have no : ackMatches source p r e = false := by
    rw [Bool.eq_false_iff]
    intro alike
    simp only [ackMatches, Bool.and_eq_true, decide_eq_true_eq] at alike
    exact unlike ⟨alike.1.1.2, alike.1.2, alike.2⟩
  simp [hearAck, service, entry, no]

theorem deliveredAck_run {f : AirFrame} {p : AckPayload} {s : State} (delivered : Delivered .ack f s)
    (parses : parseAck f.payload = some p) (dest : f.header.dest = s.own) :
    ∃ dups ack, exec (.ack f) s = .next (finish (withAck dups ack (hearAck f.header.source p (headerTaken f s)))) := by
  obtain ⟨dups, ack, routed⟩ := routeKind_delivered delivered
  have owner : deliver .ack f (headerTaken f s) = hearAck f.header.source p (headerTaken f s) := by
    have own : f.header.dest = (headerTaken f s).own := dest.trans (metOwner_headerTaken f s).own.symm
    simp only [deliver, parses]
    exact if_pos own
  refine ⟨dups, ack, (receiveFrame_heard delivered.1).trans ?_⟩
  rw [routed, owner]
  rfl

theorem withAck_returned (dups : List DupKey) (ack : Option PendingAck) (o : Outcome) (e : QueueEntry) (s : State) :
    (finish (withAck dups ack (leaveService o e s))).cau.inService = none ∧
      ReturnedToDefer (finish (withAck dups ack (leaveService o e s))) := by
  obtain ⟨none_, defer⟩ := leaveService_service o e s
  exact ⟨by simpa using none_, finish_returnedToDefer none_ (.inl defer)⟩

/-! ## The expiry (R61, R63) -/

theorem serviceEntry_number {s : State} {r : InService} {e : QueueEntry} (service : s.cau.inService = some r)
    (entry : s.serviceEntry = some e) : e ∈ s.cau.queue ∧ e.number = r.entry := by
  have found : s.entry? r.entry = some e := by simpa [State.serviceEntry, service] using entry
  exact ⟨List.mem_of_find?_eq_some found, by simpa using List.find?_some found⟩

theorem ackWaitExpiry_run {s : State} {r : InService} {e : QueueEntry} (runs : s.running = true)
    (service : s.cau.inService = some r) (entry : s.serviceEntry = some e) (phase : r.phase = .ackWait) :
    exec .ackWaitExpiry s = .next (finish (endAckWait r e (s.reach (r.since + 80)))) := by
  refine congrArg _ ((whenRunning_of_running _ runs).trans ?_)
  simp only [service, entry]
  rw [if_pos phase]
  rfl

/-- Another transmission: the frame waits again, with one retry more. -/
theorem endAckWait_retries {r : InService} {e : QueueEntry} {s : State} (few : e.retries < 4) (kept : r.deferred = false) :
    endAckWait r e s =
      endService (s.updEntry e.number fun x => { x with retries := x.retries + 1, backoff := none }) := by
  unfold endAckWait
  exact if_pos (by simp [few, kept])

/-- The failures counted with a frame that leaves at the expiry. -/
def withFailure (e : QueueEntry) (s : State) : State :=
  { s with fre := { s.fre with counters := { s.fre.counters with
      txFailures := min 255 (s.fre.counters.txFailures + if e.retries < 4 then 0 else 1) } } }

theorem endAckWait_fails {r : InService} {e : QueueEntry} {s : State} (ends : ¬(e.retries < 4 ∧ r.deferred = false)) :
    endAckWait r e s = leaveService .failed e (withFailure e s) := by
  unfold endAckWait
  exact if_neg (by simpa using ends)

/-- Settles O42: the ACK by whether it matches, the expiry by whether a transmission is left. -/
theorem ackOrExpiryEndsTheWait : Obligations.AckOrExpiryEndsTheWait := by
  intro r e s runs service entry phase below
  obtain ⟨mem, number⟩ := serviceEntry_number service entry
  refine ⟨fun f p delivered parses dest => ?ack, fun few kept => ?retry, fun ends => ?fail⟩
  case ack =>
    obtain ⟨dups, ack, run⟩ := deliveredAck_run delivered parses dest
    have met := metOwner_headerTaken f s
    obtain ⟨lines, -, dtc, fmr, -⟩ := met.parts
    obtain ⟨sameRecord, sameEntry⟩ := headerTaken_sameService (f := f) service (number ▸ below)
    have service' := sameRecord.trans service
    have entry' := sameEntry.trans entry
    refine ⟨fun alike => ?_, fun unlike => ?_⟩
    · rw [hearAck_matches service' entry' phase alike] at run
      obtain ⟨none_, returned⟩ := withAck_returned dups ack .delivered e (headerTaken f s)
      have next : s.cau.nextEntry ≤ (headerTaken f s).cau.nextEntry := by
        obtain ⟨neighbours, level, asked⟩ := met.asked
        exact asked.nextEntry
      refine ⟨_, run, none_, returned, ?_, ?_, ?_, by simp [dtc], by simp [fmr], by simp [lines]⟩
      · simpa using leaveService_gone .delivered (e := e) (s := headerTaken f s) (below.trans_le next)
      · intro n x y tag memX numberX reply waits once
        have told : ∀ u, told .delivered e.req u = replyNotice n .delivered u := fun u => by
          simp only [told, toldDelivered, tag]
        have free : NoReplyWaits x.entry s := by
          intro q hq waitsQ same
          have served := once q hq (by rw [same, tag, numberX])
          simp [State.isInService, service, served, number] at waitsQ
        have memW : x ∈ (headerTaken f s).mst.entries := headerTaken_entry memX free
        simpa using leaveService_reply (s := headerTaken f s) told tag memW numberX reply waits
      · intro n tag flies
        have flies' : recordInFlight n (headerTaken f s) = true := by
          obtain ⟨x, memX, numberX, state⟩ := (recordInFlight_iff n s).mp flies
          rw [recordInFlight_iff, headerTaken_log ⟨x, memX, state⟩]
          exact ⟨x, memX, numberX, state⟩
        simpa using leaveService_delivered_fare (s := headerTaken f s) tag flies'
    · rw [hearAck_another service' entry' unlike] at run
      refine ⟨_, run, by simp [service'], ?_, by simp [dtc], by simp [fmr], by simp [lines]⟩
      simpa using (serviceEntry_number service' entry').1
  case retry =>
    have run := ackWaitExpiry_run runs service entry phase
    rw [endAckWait_retries few kept] at run
    refine ⟨_, run, by simp [endService], finish_returnedToDefer rfl (.inl rfl), by simp [endService, State.reach], ?_, ?_,
      by simp [endService, State.reach], by simp [endService, State.reach], by simp [endService, State.reach],
      by simp [endService, State.reach], by simp [endService, State.reach], by simp [endService, State.reach],
      by simp [endService, State.reach]⟩
    · have waits : { e with retries := e.retries + 1, backoff := none } ∈
          updateWhere (·.number = e.number) (fun x => { x with retries := x.retries + 1, backoff := none }) s.cau.queue :=
        mem_updateWhere.mpr ⟨e, mem, by simp⟩
      simpa [endService, State.reach, State.updEntry] using waits
    · simp [endService, State.reach, State.updEntry, updateWhere]
  case fail =>
    have run := ackWaitExpiry_run runs service entry phase
    rw [endAckWait_fails ends] at run
    obtain ⟨none_, returned⟩ := leaveService_returned .failed e (withFailure e (s.reach (r.since + 80)))
    refine ⟨_, run, none_, returned, by simp [withFailure, State.reach], ?_, by simp [withFailure, State.reach], ?_, ?_,
      by simp [withFailure, State.reach], by simp [withFailure, State.reach], by simp [withFailure, State.reach]⟩
    · have gone := leaveService_gone .failed (e := e) (s := withFailure e (s.reach (r.since + 80))) below
      simpa using gone
    · intro n x y tag memX numberX reply waits
      have told : ∀ u, told .failed e.req u = replyNotice n .failed u := fun u => by simp only [told, toldFailed, tag]
      have becomes := leaveService_reply (s := withFailure e (s.reach (r.since + 80))) told tag memX numberX reply waits
      simpa using becomes
    · intro n tag flies
      obtain ⟨hold, unsent⟩ := leaveService_failed_fare (s := withFailure e (s.reach (r.since + 80))) tag flies
      have hold : (leaveService .failed e (withFailure e (s.reach (r.since + 80)))).tlu.hold = some s.nbt.ticks := hold
      exact ⟨by simpa using hold, by simpa using unsent⟩

end Sys2Proof.Machine
end

section
/-! PROOFS. A request that takes the place of a frame, which is told DROPPED (R48, R62). -/

namespace Sys2Proof.Machine

open Sys2Proof

-- The kernel's checks run one after another: side by side they ask for more threads than there is room for.
set_option Elab.async false

/-! ## What DROPPED leaves of the originator's record (R62) -/

theorem freeRelay_frees (k : RelayKey) (s : State) : (s.freeRelay k).relay? k = none := by
  unfold State.relay? State.freeRelay
  rw [List.find?_eq_none]
  intro r mem
  simpa using (List.mem_filter.mp mem).2

/-- The key of a relayed frame, from its origin, kind and serial. -/
theorem relayKey_eq {k : RelayKey} {kind : FrameKind} (is : kind = alarmFrameKind k.kind) :
    (⟨k.origin, if kind = .alarm then .alarm else .clear, k.serial⟩ : RelayKey) = k := by
  obtain ⟨origin, kindK, serial⟩ := k
  subst is
  cases kindK <;> simp [alarmFrameKind]

theorem toldDropped_told (q : Request) (s : State) : ToldDropped q s (toldDropped q.kind q.tag s) := by
  refine ⟨fun id o tag kind found => ?_, fun n m y tag mem number reply waits => ?_, fun n tag flies => ?_,
    fun k tag kind => ?_, fun tag kind clearing => ?_⟩
  · have told : toldDropped q.kind q.tag s = s.updOffer id fun e => { e with bidFrame := .none } := by
      simp [toldDropped, tag, kind]
    rw [told]
    exact offer?_updOffer (by intro _; rfl) found
  · have told : toldDropped q.kind q.tag s = replyNotice n .failed s := by
      simp only [toldDropped, tag]
      rfl
    rw [told]
    exact replyNotice_becomes mem number reply waits
  · have told : toldDropped q.kind q.tag s = fareLost n s := by simp only [toldDropped, tag]
    rw [told]
    exact fareLost_inFlight flies
  · have told : toldDropped q.kind q.tag s = s.freeRelay k := by
      simp only [toldDropped, tag]
      rw [relayKey_eq kind]
    rw [told]
    exact freeRelay_frees k s
  · have told : toldDropped q.kind q.tag s = clearDropped s := by simp [toldDropped, tag, kind]
    rw [told]
    simp [clearDropped, clearing, tClear]

/-- What DROPPED left stays while the originator's records do. -/
theorem ToldDropped.later {q : Request} {s t u : State} (h : ToldDropped q s t)
    (offers : ∀ id, q.tag = .offer id → u.ocu = t.ocu) (mst : u.mst.entries = t.mst.entries) (tlu : u.tlu = t.tlu)
    (nbt : ∀ k : RelayKey, q.tag = .relay k.origin k.serial → u.nbt = t.nbt) (emu : u.emu = t.emu) (now : u.now = t.now) : ToldDropped q s u := by
  obtain ⟨bid, reply, fare, relay, clear⟩ := h
  refine ⟨fun id o tag kind found => ?_, ?_, ?_, ?_, ?_⟩
  · exact (offer?_congr (offers id tag) id).trans (bid id o tag kind found)
  · rwa [mst]
  · rwa [tlu]
  · intro k tag kind
    unfold State.relay? at relay ⊢
    rw [nbt k tag]
    exact relay k tag kind
  · rwa [emu, now]

/-- What DROPPED leaves is told of a state by the originator's records alone. -/
theorem ToldDropped.earlier {q : Request} {s r t : State} (h : ToldDropped q s t)
    (offers : ∀ id, q.tag = .offer id → r.ocu = s.ocu) (mst : r.mst.entries = s.mst.entries)
    (log : r.tlu.log = s.tlu.log) (ticks : r.nbt.ticks = s.nbt.ticks)
    (clearing : q.tag = .ownAlarm → r.emu.state = s.emu.state) : ToldDropped q r t := by
  obtain ⟨bid, reply, fare, relay, clear⟩ := h
  refine ⟨fun id o tag kind found => ?_, ?_, ?_, relay, fun tag kind state => clear tag kind ?_⟩
  · exact bid id o tag kind ((offer?_congr (offers id tag) id).symm.trans found)
  · rwa [mst]
  · unfold recordInFlight at fare ⊢
    rwa [log, ticks]
  · rwa [← clearing tag]

/-! ## The place of a worse frame (R48) -/

theorem takesThePlaceOf_admitEntry {w : QueueEntry} {s : State} (below : w.number < s.cau.nextEntry) (q : Request) :
    TakesThePlaceOf w q s (admitEntry q (toldDropped w.req.kind w.req.tag (dequeue w.number s))) := by
  have queue : (toldDropped w.req.kind w.req.tag (dequeue w.number s)).cau = (dequeue w.number s).cau := by simp
  have mem : ∀ x, x ∈ (admitEntry q (toldDropped w.req.kind w.req.tag (dequeue w.number s))).cau.queue ↔
      x = admitted q (toldDropped w.req.kind w.req.tag (dequeue w.number s)) ∨ x ∈ (dequeue w.number s).cau.queue := by
    intro x
    rw [← queue]
    exact mem_insertEntry
  refine ⟨⟨_, (mem _).mpr (.inl rfl), rfl⟩, fun x hx => ?_, fun x hx other => (mem x).mpr (.inr ?_), ?_⟩
  · rcases (mem x).mp hx with rfl | old
    · show (toldDropped w.req.kind w.req.tag (dequeue w.number s)).cau.nextEntry ≠ w.number
      rw [queue]
      exact below.ne'
    · simpa using (List.mem_filter.mp old).2
  · exact List.mem_filter.mpr ⟨hx, by simpa using other⟩
  · have told := toldDropped_told w.req (dequeue w.number s)
    exact (told.earlier (r := s) (fun _ _ => rfl) rfl rfl rfl fun _ => rfl).later (fun _ _ => rfl) rfl rfl (fun _ _ => rfl) rfl rfl

/-- A request in a full queue: the worst frame's place, or none. -/
theorem placeRequest_displaces {w : QueueEntry} {s : State} (full : WouldBeDisplaced w s) (q : Request) :
    (q.cls < w.req.cls → TakesThePlaceOf w q s (placeRequest q s).1 ∧ (placeRequest q s).2 = .queued) ∧
      (w.req.cls ≤ q.cls → placeRequest q s = (s, .dropped)) := by
  have places := placeRequest_full full q
  obtain ⟨-, -, below, -⟩ := full
  refine ⟨fun better => ?_, fun worse => ?_⟩
  · rw [places, if_pos better]
    exact ⟨takesThePlaceOf_admitEntry below q, rfl⟩
  · rw [places, if_neg (by omega)]

end Sys2Proof.Machine
end

section
/-! PROOFS. The contest's deadlines (R91, R95, R96, R97, R104, R172). -/

namespace Sys2Proof.Machine

open Sys2Proof

-- The kernel's checks run one after another: side by side they ask for more threads than there is room for.
set_option Elab.async false

/-! ## An offer's entry through a request and through the end of other contests -/

theorem Asked.offer?_some {s t : State} (asked : Asked s t) {id : OfferId} {e : OfferEntry}
    (found : s.offer? id = some e) : ∃ b, t.offer? id = some { e with bidFrame := b } := by
  have both := offer?_map_of_bidFrame asked.ocu id
  rw [found] at both
  obtain ⟨o, foundO, same⟩ := Option.map_eq_some_iff.mp both
  refine ⟨o.bidFrame, foundO.trans (congrArg some ?_)⟩
  have eq := congrArg (fun x : OfferEntry => { x with bidFrame := o.bidFrame }) same
  exact eq

theorem offer?_updOffer_other {s : State} {id other : OfferId} {f : OfferEntry → OfferEntry} (hid : ∀ e, (f e).id = e.id)
    (different : other ≠ id) : (s.updOffer other f).offer? id = s.offer? id := by
  show (updateWhere _ _ s.ocu.offers).find? _ = _
  rw [find?_updateWhere (fun e : OfferEntry => decide (e.id = other)) _ f _ fun a _ => by rw [hid]]
  cases found : s.ocu.offers.find? fun e => decide (e.id = id) with
  | none => exact found.symm
  | some e =>
    have named : e.id = id := by simpa using List.find?_some found
    refine Eq.trans ?_ found.symm
    rw [Option.map_some, if_neg]
    simpa [named] using different.symm

theorem abandonOffer_offer? {a e : OfferEntry} {s : State} {id : OfferId} (found : s.offer? id = some e)
    (idle : a.id = id → a.state.running = false) : ∃ b, (abandonOffer a s).offer? id = some { e with bidFrame := b } := by
  unfold abandonOffer
  split
  · rename_i runs
    have other : a.id ≠ id := fun same => by
      rw [idle same] at runs
      cases runs
    have kept : (s.updOffer a.id OfferEntry.abandoned).offer? id = some e :=
      (offer?_updOffer_other (f := OfferEntry.abandoned) (fun _ => rfl) other).trans found
    exact (abandonFrame_asked a _).offer?_some kept
  · exact ⟨e.bidFrame, found⟩

/-- An entry whose contest does not run stays while the contests are abandoned. -/
theorem abandonContests_offer? {e : OfferEntry} {s : State} {id : OfferId} (found : s.offer? id = some e)
    (idle : ∀ x ∈ s.ocu.offers, x.id = id → x.state.running = false) :
    ∃ b, (abandonContests s).offer? id = some { e with bidFrame := b } := by
  unfold abandonContests
  generalize s.ocu.offers = l at idle
  induction l generalizing s e with
  | nil => exact ⟨e.bidFrame, found⟩
  | cons a l ih =>
    obtain ⟨b, foundA⟩ := abandonOffer_offer? found (idle a List.mem_cons_self)
    obtain ⟨c, foundL⟩ := ih foundA fun x hx => idle x (List.mem_cons_of_mem a hx)
    exact ⟨c, foundL⟩

/-! ## The bid delay's end (R91) -/

/-- Where an answer leaves the frame of a BID. -/
def Answer.bidFrame (a : Answer) : BidFrame := if a = .queued || a = .merged then .inQueue else .none

/-- The entry of an offer that bids. -/
def bidding (id : OfferId) (s : State) : State := s.updOffer id fun x => { x with state := .bid, delayDeadline := none }

theorem bidNow_eq (id : OfferId) (s : State) :
    bidNow id s =
      (requestFrame (contestFrame .bid id) (bidding id s)).1.updOffer id fun x =>
        { x with bidFrame := (requestFrame (contestFrame .bid id) (bidding id s)).2.bidFrame } := rfl

theorem bidNow_offer? {id : OfferId} {s : State} {e : OfferEntry} (found : s.offer? id = some e) :
    (bidNow id s).offer? id = some
      { e with
        state := .bid
        delayDeadline := none
        bidFrame := (requestFrame (contestFrame .bid id) (bidding id s)).2.bidFrame } := by
  have bids : (bidding id s).offer? id = some { e with state := .bid, delayDeadline := none } :=
    offer?_updOffer (by intro _; rfl) found
  obtain ⟨b, asked⟩ := (requestFrame_asked (contestFrame .bid id) (bidding id s)).offer?_some bids
  rw [bidNow_eq]
  exact offer?_updOffer (by intro _; rfl) asked

/-- With no frame of the offer in the queue its BID is placed there. -/
theorem requestBid_places {id : OfferId} {s : State} (none_ : ∀ q ∈ s.cau.queue, q.req.tag ≠ .offer id) :
    requestFrame (contestFrame .bid id) s = placeRequest (contestFrame .bid id) s :=
  requestFrame_places nofun (fun e he both => none_ e he both.1) nofun nofun nofun

theorem bidDelayEnd_run {e : OfferEntry} {s : State} {d : Moment} (runs : s.running = true)
    (found : s.offer? e.id = some e) (waits : e.state = .waiting) (due : e.delayDeadline = some d) :
    exec (.bidDelayEnd e.id) s = .next (finish (bidNow e.id (s.reach d))) := by
  refine congrArg _ ((whenRunning_of_running _ runs).trans ?_)
  simp only [found, waits, due]

theorem wouldBeDisplaced_congr {w : QueueEntry} {s t : State} (cau : t.cau = s.cau) :
    WouldBeDisplaced w t ↔ WouldBeDisplaced w s := by
  unfold WouldBeDisplaced State.isInService
  rw [cau]

/-- A frame that has left for another has left, whatever becomes of what is not the queue nor its record. -/
theorem TakesThePlaceOf.between {w : QueueEntry} {q : Request} {r s t u : State} (h : TakesThePlaceOf w q s t)
    (before : r.cau.queue = s.cau.queue) (after : u.cau.queue = t.cau.queue)
    (told : ToldDropped w.req s t → ToldDropped w.req r u) : TakesThePlaceOf w q r u := by
  obtain ⟨placed, gone, kept, dropped⟩ := h
  refine ⟨by rwa [after], by rwa [after], ?_, told dropped⟩
  rw [before, after]
  exact kept

/-- A class worse than the contest's is of no offer. -/
theorem ClassesByKind.notOffer {s : State} (classes : ClassesByKind s) {w : QueueEntry} (mem : w ∈ s.cau.queue)
    (worse : 1 < w.req.cls) (id : OfferId) : w.req.tag ≠ .offer id := by
  intro tag
  have cls := (classes.1 w mem).1
  rw [tag, Tag.classOf] at cls
  omega

theorem WouldBeDisplaced.mem {w : QueueEntry} {s : State} (full : WouldBeDisplaced w s) : w ∈ s.cau.queue := by
  obtain ⟨-, -, -, before, after, queue, -⟩ := full
  rw [queue]
  exact List.mem_append_right before List.mem_cons_self

/-- The first clause: the BID is asked for at the delay's end. -/
theorem bidDelayEnd_asks {e : OfferEntry} {s : State} {d : Moment} (runs : s.running = true)
    (found : s.offer? e.id = some e) (waits : e.state = .waiting) (due : e.delayDeadline = some d) :
    ∃ t o, exec (.bidDelayEnd e.id) s = .next t ∧ t.offer? e.id = some o ∧ o.state = .bid ∧
      o.delayDeadline = none ∧ t.now = max s.now d ∧
      (s.cau.queue.length < 16 → (∀ q ∈ s.cau.queue, q.req.tag ≠ .offer e.id) →
        o.bidFrame = .inQueue ∧ ∃ q ∈ t.cau.queue, q.req = ⟨.bid, 0, 1, false, 0, .offer e.id⟩) ∧
      (∀ w, WouldBeDisplaced w s → ClassesByKind s → (∀ q ∈ s.cau.queue, q.req.tag ≠ .offer e.id) →
        (1 < w.req.cls → o.bidFrame = .inQueue ∧
          TakesThePlaceOf w ⟨.bid, 0, 1, false, 0, .offer e.id⟩ s t) ∧
        (w.req.cls ≤ 1 → o.bidFrame = .none ∧ t.cau.queue = s.cau.queue)) ∧
      t.dtc = s.dtc ∧ t.fre = s.fre ∧ t.fmr = s.fmr ∧ t.lines = s.lines := by
  let u : State := bidding e.id (s.reach d)
  let q : Request := contestFrame .bid e.id
  have run := bidDelayEnd_run runs found waits due
  have bids := bidNow_offer? (s := s.reach d) found
  have asked := requestFrame_asked q u
  have queue : (bidNow e.id (s.reach d)).cau.queue = (requestFrame q u).1.cau.queue := rfl
  refine ⟨_, _, run, (offer?_congr (by simp) e.id).trans bids, rfl, rfl, ?_, fun short none_ => ?_,
    fun w full classes none_ => ⟨fun worse => ?_, fun better => ?_⟩, ?_, ?_, ?_, ?_⟩
  · have now : (bidNow e.id (s.reach d)).now = max s.now d := asked.clocks.1
    simpa using now
  · have placed : requestFrame q u = (admitEntry q u, .queued) :=
      (requestBid_places (s := u) none_).trans (placeRequest_room q short)
    refine ⟨by rw [show requestFrame (contestFrame .bid e.id) (bidding e.id (s.reach d)) = _ from placed]; rfl, ?_⟩
    refine ⟨admitted q u, ?_, rfl⟩
    simpa [queue, placed] using admitted_mem q u
  · obtain ⟨takes, -⟩ := placeRequest_displaces ((wouldBeDisplaced_congr (t := u) rfl).mpr full) q
    obtain ⟨place, answer⟩ := takes worse
    rw [← requestBid_places (s := u) none_] at place answer
    refine ⟨by rw [show (requestFrame (contestFrame .bid e.id) (bidding e.id (s.reach d))).2 = _ from answer]; rfl, ?_⟩
    have notOffer := classes.notOffer full.mem worse
    refine place.between rfl (by simpa using queue) fun told => ?_
    obtain ⟨-, -, -, nbt, -, -, tlu, mst, emu, now, -⟩ := (finish_settled (bidNow e.id (s.reach d))).keeps
    exact (told.earlier (r := s) (fun id tag => absurd tag (notOffer id)) rfl rfl rfl fun _ => rfl).later
      (fun id tag => absurd tag (notOffer id)) (congrArg Mst.entries mst) tlu (fun _ _ => nbt) emu now
  · obtain ⟨-, refused⟩ := placeRequest_displaces ((wouldBeDisplaced_congr (t := u) rfl).mpr full) q
    have dropped : requestFrame q u = (u, .dropped) := (requestBid_places (s := u) none_).trans (refused better)
    refine ⟨by rw [show requestFrame (contestFrame .bid e.id) (bidding e.id (s.reach d)) = _ from dropped]; rfl, ?_⟩
    have kept : (bidNow e.id (s.reach d)).cau.queue = s.cau.queue := by
      rw [queue, dropped]
      rfl
    simpa using kept
  · simp
  · simp
  · simp
  · simp

/-! ## The window's end (R95, R96) -/

/-- The entry of an offer whose window has been taken. -/
def windowTakenAt (id : OfferId) (s : State) : State := s.updOffer id fun x => { x with windowTaken := true }

theorem windowEnd_run {e : OfferEntry} {s : State} (runs : s.running = true) (found : s.offer? e.id = some e)
    (open_ : e.windowTaken = false) :
    exec (.windowEnd e.id) s = .next (finish
      (if winsWindow e (windowTakenAt e.id (s.reach e.windowEnd)) then winOffer e.id (windowTakenAt e.id (s.reach e.windowEnd))
       else settleUnwon e (windowTakenAt e.id (s.reach e.windowEnd)))) := by
  refine congrArg _ ((whenRunning_of_running _ runs).trans (congrArg finish ?_))
  have found' : (s.reach e.windowEnd).offer? e.id = some e := found
  simp only [found, open_]
  unfold endWindow
  simp only [found']
  rfl

theorem winsWindow_iff (e : OfferEntry) (s : State) :
    winsWindow e s = true ↔ e.state = .bid ∧ e.bidFrame = .sent ∧ betterKnown s.own e = false ∧ s.dtc.duty = .vacant := by
  simp [winsWindow, and_assoc]

/-- An entry WON, as yet in the duty state of before. -/
def wonAt (id : OfferId) (s : State) : State :=
  s.updOffer id fun x => { x with state := .won, jobTimer := some (s.now + 1000 * s.stc.config.tAccept) }

theorem winOffer_eq (id : OfferId) (s : State) : winOffer id s = requestTone .offer (enterPending (wonAt id s)) := rfl

/-- What the entry into PENDING leaves of the won entry, the contests, the console and the emergency (R6, R102). -/
theorem enterPending_wonAt {id : OfferId} {s : State} {e : OfferEntry} (found : s.offer? id = some e) :
    ∃ b, (enterPending (wonAt id s)).offer? id = some
        { e with state := .won, jobTimer := some (s.now + 1000 * s.stc.config.tAccept), bidFrame := b } ∧
      NoContestRuns (enterPending (wonAt id s)) ∧ (enterPending (wonAt id s)).cns = { s.cns with view := .none } ∧
      (enterPending (wonAt id s)).emu.state = s.emu.state ∧
      (enterPending (wonAt id s)).dtc = { s.dtc with duty := .pending } := by
  let u : State := setDuty .pending (wonAt id s)
  have won : u.offer? id = some { e with state := .won, jobTimer := some (s.now + 1000 * s.stc.config.tAccept) } :=
    offer?_updOffer (f := fun x => { x with state := .won, jobTimer := some (s.now + 1000 * s.stc.config.tAccept) })
      (by intro _; rfl) found
  have idle : ∀ x ∈ u.ocu.offers, x.id = id → x.state.running = false := by
    intro x hx named
    obtain ⟨y, -, rfl⟩ := mem_updateWhere.mp hx
    split at named
    · rename_i is
      rw [if_pos is]
      rfl
    · rename_i isNot
      exact absurd (by simpa using named) isNot
  obtain ⟨b, stands⟩ := abandonContests_offer? won idle
  have offers : (enterPending (wonAt id s)).ocu = (abandonContests u).ocu := (closeTo_frame _ _).2.2.2.2.2.1
  have asked := abandonContests_asked u
  refine ⟨b, (offer?_congr offers id).trans stands, ?_, ?_, ?_, ?_⟩
  · intro x hx
    rw [offers] at hx
    exact abandonContests_noContestRuns u x hx
  · have cns : (abandonContests u).cns = s.cns := by simp [u, wonAt, setDuty]
    exact (closeTo_cns _ _).trans (by rw [cns])
  · have emu : (enterPending (wonAt id s)).emu = (abandonContests u).emu := by simp [enterPending, u]
    rw [emu, asked.emu]
    rfl
  · have dtc : (enterPending (wonAt id s)).dtc = u.dtc := by simp [enterPending, u]
    exact dtc

/-- The second clause: a window won. -/
theorem windowEnd_wins {e : OfferEntry} {s : State} (runs : s.running = true) (found : s.offer? e.id = some e)
    (open_ : e.windowTaken = false) (state : e.state = .bid) (frame : e.bidFrame = .sent)
    (best : betterKnown s.own e = false) (vacant : s.dtc.duty = .vacant) :
    ∃ t o, exec (.windowEnd e.id) s = .next t ∧ t.dtc = { s.dtc with duty := .pending } ∧
      t.offer? e.id = some o ∧ o.state = .won ∧ o.windowTaken = true ∧
      o.jobTimer = some (t.now + 1000 * s.stc.config.tAccept) ∧ NoContestRuns t ∧
      t.now = max s.now e.windowEnd ∧ t.cns.view = .none ∧
      t.cns.buzzer = buzzerAfter .offer { s with now := t.now } ∧ t.fre = s.fre ∧ t.fmr = s.fmr ∧
      t.lines = s.lines := by
  have run := windowEnd_run runs found open_
  have taken : (windowTakenAt e.id (s.reach e.windowEnd)).offer? e.id = some { e with windowTaken := true } :=
    offer?_updOffer (s := s.reach e.windowEnd) (f := fun x => { x with windowTaken := true }) (by intro _; rfl) found
  rw [if_pos ((winsWindow_iff e (windowTakenAt e.id (s.reach e.windowEnd))).mpr ⟨state, frame, best, vacant⟩), winOffer_eq, requestTone_eq] at run
  obtain ⟨b, won, noneRuns, cns, emu, dtc⟩ := enterPending_wonAt taken
  obtain ⟨lines, stc, fre, fmr, now, -⟩ := enterPending_frame (wonAt e.id (windowTakenAt e.id (s.reach e.windowEnd)))
  generalize enterPending (wonAt e.id (windowTakenAt e.id (s.reach e.windowEnd))) = x at *
  have now : x.now = max s.now e.windowEnd := now
  have plays : buzzerAfter .offer x = buzzerAfter .offer { s with now := max s.now e.windowEnd } :=
    buzzerAfter_congr .offer (s := { s with now := max s.now e.windowEnd }) stc emu (by rw [cns]; rfl) now
  refine ⟨_, _, run, ?_, (offer?_congr (by simp) e.id).trans won, rfl, rfl, ?_, ?_, ?_, ?_, ?_, ?_, ?_, ?_⟩
  · simp only [finish_frame]
    exact dtc
  · simp only [finish_frame, now]
    rfl
  · intro y hy
    exact noneRuns y (by simpa using hy)
  · simpa using now
  · simp [cns]
  · simpa [now] using plays
  · simp only [finish_frame]
    exact fre
  · simp only [finish_frame]
    exact fmr
  · simp only [finish_frame]
    exact lines

/-- The state of an entry whose window ends without a win. -/
def OfferEntry.unwon (e : OfferEntry) : OfferState :=
  match e.state with
  | .bid => if e.bidFrame = .sent then .passed else .late
  | .waiting => .passed
  | .yielded => .passed
  | st => st

/-- A change of an entry whose contest ran to its window's end without a win. -/
structure SettlesUnwon (e : OfferEntry) (f : OfferEntry → OfferEntry) : Prop where
  id : ∀ x, (f x).id = x.id
  windowTaken : ∀ x, (f x).windowTaken = x.windowTaken
  state : ∀ x, (f x).state = e.unwon
  frame : e.state = .bid → e.bidFrame = .inQueue → ∀ x, (f x).bidFrame = .none

theorem settleUnwon_running {e : OfferEntry} (s : State) (runs : e.state.running = true) :
    ∃ f, SettlesUnwon e f ∧ (settleUnwon e s = s.updOffer e.id f ∨
      settleUnwon e s = removeFrame .bid (.offer e.id) (s.updOffer e.id f)) := by
  cases state : e.state with
  | bid =>
    cases frame : e.bidFrame with
    | inQueue =>
      refine ⟨fun x => { x with state := .late, bidFrame := .none }, ⟨fun _ => rfl, fun _ => rfl, fun _ => ?_,
        fun _ _ _ => rfl⟩, .inr ?_⟩
      · simp [OfferEntry.unwon, state, frame]
      · simp only [settleUnwon, state, frame]
    | none =>
      refine ⟨fun x => { x with state := .late }, ⟨fun _ => rfl, fun _ => rfl, fun _ => ?_, ?_⟩, .inl ?_⟩
      · simp [OfferEntry.unwon, state, frame]
      · simp [frame]
      · simp only [settleUnwon, state, frame]
    | sent =>
      refine ⟨fun x => { x with state := .passed }, ⟨fun _ => rfl, fun _ => rfl, fun _ => ?_, ?_⟩, .inl ?_⟩
      · simp [OfferEntry.unwon, state, frame]
      · simp [frame]
      · simp only [settleUnwon, state, frame]
  | waiting =>
    refine ⟨fun x => { x with state := .passed, delayDeadline := none }, ⟨fun _ => rfl, fun _ => rfl, fun _ => ?_, ?_⟩,
      .inl ?_⟩
    · simp [OfferEntry.unwon, state]
    · simp [state]
    · simp only [settleUnwon, state]
  | yielded =>
    refine ⟨fun x => { x with state := .passed }, ⟨fun _ => rfl, fun _ => rfl, fun _ => ?_, ?_⟩, .inl ?_⟩
    · simp [OfferEntry.unwon, state]
    · simp [state]
    · simp only [settleUnwon, state]
  | passed | late | won | taken | lost | declined | closed => simp [state, OfferState.running] at runs

/-- A contest that has ended before stays as it is. -/
theorem settleUnwon_idle {e : OfferEntry} (s : State) (idle : e.state.running = false) :
    settleUnwon e s = s ∧ e.unwon = e.state := by
  cases state : e.state with
  | waiting | bid | yielded => simp [state, OfferState.running] at idle
  | passed | late | won | taken | lost | declined | closed =>
    exact ⟨by simp only [settleUnwon, state], by simp only [OfferEntry.unwon, state]⟩

/-- What an end without a win leaves beside the contest and the queue. -/
theorem settleUnwon_beside (e : OfferEntry) (s : State) :
    (settleUnwon e s).now = s.now ∧ (settleUnwon e s).dtc = s.dtc ∧ (settleUnwon e s).fre = s.fre ∧
      (settleUnwon e s).fmr = s.fmr ∧ (settleUnwon e s).mst = s.mst ∧ (settleUnwon e s).emu = s.emu ∧
      (settleUnwon e s).lines = s.lines := by
  cases runs : e.state.running with
  | true =>
    obtain ⟨f, -, same | same⟩ := settleUnwon_running s runs
    · rw [same]
      exact ⟨rfl, rfl, rfl, rfl, rfl, rfl, rfl⟩
    · rw [same]
      simp
  | false =>
    rw [(settleUnwon_idle s runs).1]
    exact ⟨rfl, rfl, rfl, rfl, rfl, rfl, rfl⟩

/-- The entry at an end without a win (R95). -/
theorem settleUnwon_offer? {e o : OfferEntry} {s : State} (found : s.offer? e.id = some o) (state : o.state = e.state) :
    ∃ x, (settleUnwon e s).offer? e.id = some x ∧ x.windowTaken = o.windowTaken ∧ x.state = e.unwon ∧
      (e.state = .bid → e.bidFrame = .inQueue → x.bidFrame = .none) := by
  cases runs : e.state.running with
  | true =>
    obtain ⟨f, settles, same⟩ := settleUnwon_running s runs
    have offers : (settleUnwon e s).ocu = (s.updOffer e.id f).ocu := by
      rcases same with same | same <;> rw [same]
      simp
    refine ⟨f o, (offer?_congr offers e.id).trans (offer?_updOffer settles.id found), settles.windowTaken o,
      settles.state o, fun bid queued => settles.frame bid queued o⟩
  | false =>
    obtain ⟨same, unwon⟩ := settleUnwon_idle s runs
    refine ⟨o, by rw [same, found], rfl, state.trans unwon.symm, fun bid => ?_⟩
    rw [bid] at runs
    cases runs

/-- The third clause: a window that is not won. -/
theorem windowEnd_settles {e : OfferEntry} {s : State} (runs : s.running = true) (found : s.offer? e.id = some e)
    (open_ : e.windowTaken = false)
    (unwon : ¬(e.state = .bid ∧ e.bidFrame = .sent ∧ betterKnown s.own e = false ∧ s.dtc.duty = .vacant)) :
    ∃ t o, exec (.windowEnd e.id) s = .next t ∧ t.offer? e.id = some o ∧ o.windowTaken = true ∧
      o.state = e.unwon ∧ (e.state = .bid → e.bidFrame = .inQueue → o.bidFrame = .none) ∧
      t.now = max s.now e.windowEnd ∧ t.dtc = s.dtc ∧ t.fre = s.fre ∧ t.fmr = s.fmr ∧
      t.mst = s.mst ∧ t.emu = s.emu ∧ t.lines = s.lines := by
  have run := windowEnd_run runs found open_
  have taken : (windowTakenAt e.id (s.reach e.windowEnd)).offer? e.id = some { e with windowTaken := true } :=
    offer?_updOffer (s := s.reach e.windowEnd) (f := fun x => { x with windowTaken := true }) (by intro _; rfl) found
  rw [if_neg fun wins => unwon ((winsWindow_iff e (windowTakenAt e.id (s.reach e.windowEnd))).mp wins)] at run
  obtain ⟨x, stands, window, state, frame⟩ := settleUnwon_offer? taken rfl
  obtain ⟨now, dtc, fre, fmr, mst, emu, lines⟩ := settleUnwon_beside e (windowTakenAt e.id (s.reach e.windowEnd))
  generalize settleUnwon e (windowTakenAt e.id (s.reach e.windowEnd)) = y at *
  refine ⟨_, x, run, (offer?_congr (by simp) e.id).trans stands, window, state, frame, ?_⟩
  simp only [finish_frame]
  exact ⟨now, dtc, fre, fmr, mst, emu, lines⟩

/-! ## The waits of the job (R97, R104, R172) -/

theorem tConfirmExpiry_gives {e : OfferEntry} {s : State} {d : Moment} (runs : s.running = true)
    (confirming : confirmingOffer s = some e) (due : e.jobTimer = some d) :
    Gives .tConfirmExpiry s { s with
      now := max s.now d
      ocu := { offers := s.ocu.offers.map fun o => if o.id = e.id then { o with jobTimer := none } else o }
      dtc := { s.dtc with job := s.dtc.job.map fun j =>
        if j.id = e.id then { j with confirmWait := false } else j } } := by
  refine gives_of_whenRunning rfl runs ?_
  simp only [confirming, due]
  simp [endConfirmWait, expireConfirm, updJob, State.updOffer, updateWhere, State.reach]

/-- At five seconds before a deadline at most five are left. -/
theorem left_le_five (d n : Nat) : d - max n (d - 5000) ≤ 5000 := by omega

/-- LED_OFFER blinks in the last five seconds (R172). -/
theorem tAcceptLastFiveSeconds_blinks {e : OfferEntry} {s : State} {d : Moment} (runs : s.running = true)
    (won : s.wonOffer? = some e) (due : e.jobTimer = some d) :
    ∃ t, exec .tAcceptLastFiveSeconds s = .next t ∧ Settled { s with now := max s.now (d - 5000) } t ∧
      (s.stc.power = .run → s.dtc.duty = .pending → ∃ on since, t.cns.lamps.ledOffer = .blink on since) := by
  have run : exec .tAcceptLastFiveSeconds s = .next (finish (s.reach (d - 5000))) := by
    refine congrArg _ ((whenRunning_of_running _ runs).trans ?_)
    simp only [won, Option.bind_some, due]
  refine ⟨_, run, finish_settled _, fun power pending => ?_⟩
  have rule : lampRule .ledOffer (s.reach (d - 5000)) = .blinking := by
    have won' : (s.reach (d - 5000)).wonOffer? = some e := won
    have accept : acceptLeftMs (s.reach (d - 5000)) = some (d - max s.now (d - 5000)) := by
      simp only [acceptLeftMs, won', due]
      rfl
    have runs' : (decide ((s.reach (d - 5000)).stc.power = .run) &&
        decide ((s.reach (d - 5000)).dtc.duty = .pending)) = true := by
      simp [State.reach, power, pending]
    simp only [lampRule, accept]
    rw [if_pos runs', if_pos (left_le_five d s.now)]
  have driven := finish_lamp .ledOffer (s.reach (d - 5000))
  rw [rule] at driven
  have blinks := drivenBy_drive (s.reach (d - 5000)).now .blinking ((s.reach (d - 5000)).cns.lamps.get .ledOffer)
  rw [← driven] at blinks
  exact blinks

theorem offerHoldExpiry_gives {e : OfferEntry} {s : State} (runs : s.running = true) (found : s.offer? e.id = some e) :
    Gives (.offerHoldExpiry e.id) s
      (if e.state = .taken ∨ e.state = .won then s
       else { s with
        now := max s.now (e.windowEnd + 60000)
        ocu := { offers := s.ocu.offers.filter (·.id ≠ e.id) } }) := by
  refine gives_of_whenRunning rfl runs ?_
  simp only [found]
  refine if_congr ?_ rfl rfl
  simp

/-- Settles O50: each deadline by its act. -/
theorem contestDeadlinesAct : Obligations.ContestDeadlinesAct := by
  intro e s runs found
  exact ⟨fun d waits due => bidDelayEnd_asks runs found waits due,
    fun open_ state frame best vacant => windowEnd_wins runs found open_ state frame best vacant,
    fun open_ unwon => windowEnd_settles runs found open_ unwon,
    fun d confirming due => tConfirmExpiry_gives runs confirming due,
    fun d won due => tAcceptLastFiveSeconds_blinks runs won due, offerHoldExpiry_gives runs found⟩

end Sys2Proof.Machine
end

section
/-! PROOFS. What ends by its age or its deadline (R70, R72, R74, R130, R146, R150). -/

namespace Sys2Proof.Machine

open Sys2Proof

-- The kernel's checks run one after another: side by side they ask for more threads than there is room for.
set_option Elab.async false

/-! ## The tables of the NBT and the staging buffer -/

theorem dupAged_iff (k : DupName) (s : State) (d : DupKey) :
    dupAged k s d = true ↔ d.name = k ∧ 60 ≤ s.nbt.ticks - d.entered := by
  simp only [dupAged, Bool.and_eq_true, decide_eq_true_eq]
  exact Iff.rfl

section
variable {s : State} (runs : s.running = true)
include runs

theorem neighbourAgeOut_gives {n : Station} {e : Neighbour} (known : s.neighbour n = some e) :
    Gives (.neighbourAgeOut n) s
      (if s.stc.config.tNbAge ≤ s.nbt.ticks - e.lastHeard then
        { s with nbt := { s.nbt with
          neighbours := s.nbt.neighbours.filter (·.station ≠ n)
          homeLevel := if n = s.stc.config.home then false else s.nbt.homeLevel } }
       else s) := by
  refine gives_of_whenRunning rfl runs ?_
  simp only [known]
  refine if_congr Iff.rfl ?_ rfl
  unfold dropNeighbour loseHome
  by_cases home : n = s.stc.config.home <;> simp [home]

theorem homeReachExpiry_gives :
    Gives .homeReachExpiry s
      (if s.homeReachable then s else { s with nbt := { s.nbt with homeLevel := false } }) := by
  refine gives_of_whenRunning rfl runs ?_
  by_cases reach : s.homeReachable = true
  · simp [reach]
  · cases level : s.nbt.homeLevel with
    | true => simp [reach, loseHome]
    | false => simp [reach, ← level]

theorem duplicateKeyAgeOut_gives (k : DupName) :
    Gives (.duplicateKeyAgeOut k) s { s with nbt := { s.nbt with
      dups := s.nbt.dups.filter fun d => ¬(d.name = k ∧ 60 ≤ s.nbt.ticks - d.entered) } } := by
  refine gives_of_whenRunning rfl runs ?_
  have aged : (fun d : DupKey => !dupAged k s d) = fun d => decide ¬(d.name = k ∧ 60 ≤ s.nbt.ticks - d.entered) := by
    funext d
    have is : dupAged k s d = decide (d.name = k ∧ 60 ≤ s.nbt.ticks - d.entered) := by
      rw [Bool.eq_iff_iff, dupAged_iff, decide_eq_true_iff]
    rw [is, decide_not]
  simp only [aged]

theorem stagingDeadline_gives {g : Staging} (staged : s.tlu.staging = some g) :
    Gives .stagingDeadline s { s with now := max s.now g.deadline, tlu := { s.tlu with staging := none } } := by
  refine gives_of_whenRunning rfl runs ?_
  simp only [staged]
  rfl

/-! ## The store (R146, R150) -/

theorem assemblyTimeout_run {n : Station} {k : Serial} {e : MsgEntry} (found : s.msgNamed (.message n k) = some e) :
    exec (.assemblyTimeout n k) s = .next (finish
      (if e.state = .assembling ∧ 30 ≤ e.assemblyAge then removeMsg e.entry s else s)) := by
  refine congrArg _ ((whenRunning_of_running _ runs).trans (congrArg finish ?_))
  simp only [found]
  refine if_congr ?_ rfl rfl
  simp only [Bool.and_eq_true, decide_eq_true_eq]
  exact Iff.rfl

theorem validityExpiry_run {n : Station} {k : Serial} {e : MsgEntry} (found : s.msgNamed (.message n k) = some e) :
    exec (.validityExpiry n k) s = .next (finish
      (if e.state ≠ .assembling ∧ e.validityLeft = some 0 then expireMsg e.entry s else s)) := by
  have phase : s.stc.phase = .running := by simpa [State.running] using runs
  have acts : endValidity n k s = if e.state ≠ .assembling ∧ e.validityLeft = some 0 then expireMsg e.entry s else s := by
    simp only [endValidity, found]
    exact if_congr (by simp [MsgEntry.complete]) rfl rfl
  show Host.Outcome.next _ = _
  simp only [phase, acts]

end

theorem removeMsg_openEntry {n : Nat} {s : State} (other : s.mst.openEntry ≠ some n) :
    (removeMsg n s).mst.openEntry = s.mst.openEntry := by
  have freed : (freeMsg n s).mst.openEntry = s.mst.openEntry := by
    unfold freeMsg
    dsimp only
    split
    · rename_i open_
      exact absurd open_ other
    · rfl
  unfold removeMsg
  split
  · rfl
  · dsimp only
    split
    · simpa using freed
    · exact freed

/-- An entry whose validity has run out stays with its expired flag while it has PIN or is open, and else leaves. -/
theorem expireMsg_entries {s : State} {e : MsgEntry} (found : s.msg? e.entry = some e) :
    (expireMsg e.entry s).mst.entries =
        (if e.pin = true ∨ s.mst.openEntry = some e.entry then
          s.mst.entries.map fun x => if x.entry = e.entry then { x with expired := true, validityLeft := none } else x
         else s.mst.entries.filter (·.entry ≠ e.entry)) ∧
      (expireMsg e.entry s).mst.openEntry = s.mst.openEntry := by
  have acts : expireMsg e.entry s = if e.pin = true ∨ s.mst.openEntry = some e.entry then
      s.updMsg e.entry fun x => { x with expired := true, validityLeft := none } else removeMsg e.entry s := by
    simp only [expireMsg, found]
    exact if_congr (by simp) rfl rfl
  by_cases stays : e.pin = true ∨ s.mst.openEntry = some e.entry
  · rw [acts, if_pos stays, if_pos stays]
    exact ⟨by simp [State.updMsg, updateWhere], rfl⟩
  · rw [acts, if_neg stays, if_neg stays, removeMsg_entries]
    exact ⟨rfl, removeMsg_openEntry fun open_ => stays (.inr open_)⟩

theorem expireMsg_beside (n : Nat) (s : State) :
    (expireMsg n s).dtc = s.dtc ∧ (expireMsg n s).fmr = s.fmr ∧ (expireMsg n s).tlu = s.tlu ∧
      (expireMsg n s).nbt = s.nbt ∧ (expireMsg n s).emu = s.emu ∧ (expireMsg n s).ocu = s.ocu ∧
      (expireMsg n s).fre = s.fre := by
  simp

/-- Settles O49: each table by the row of its age. -/
theorem agesAndDeadlinesEndEntries : Obligations.AgesAndDeadlinesEndEntries := by
  intro s runs
  refine ⟨fun n e known => neighbourAgeOut_gives runs known, homeReachExpiry_gives runs,
    fun k => duplicateKeyAgeOut_gives runs k, fun g staged => stagingDeadline_gives runs staged,
    fun n k e wf found => ⟨fun assembling old => ?_, fun young => ?_, fun complete over_ => ?_, fun valid => ?_⟩⟩
  · have run := assemblyTimeout_run runs found
    rw [if_pos ⟨assembling, old⟩] at run
    exact ⟨_, run, by simp, by simp, by simp, by simp, by simp, by simp, by simp, by simp⟩
  · have run := assemblyTimeout_run runs found
    rw [if_neg young] at run
    exact ⟨_, run, finish_settled s⟩
  · have run := validityExpiry_run runs found
    rw [if_pos ⟨complete, over_⟩] at run
    obtain ⟨entries, open_⟩ := expireMsg_entries (msg?_of_mem wf.2.1 (msgNamed_mem found).1)
    refine ⟨_, run, ?_, ?_, ?_⟩
    · simpa using entries
    · simpa using open_
    · simp only [finish_frame]
      exact expireMsg_beside e.entry s
  · have run := validityExpiry_run runs found
    rw [if_neg valid] at run
    exact ⟨_, run, finish_settled s⟩

end Sys2Proof.Machine
end

section
/-! PROOFS. What the CAU answers, and the timers that ask for a BEACON and a relay (R45 to R48, R64, R76, R79). -/

namespace Sys2Proof.Machine

open Sys2Proof

-- The kernel's checks run one after another: side by side they ask for more threads than there is room for.
set_option Elab.async false

/-! ## WITHDRAW and FARE (R46, R47) -/

section
variable {id : OfferId} {s : State}

theorem requestWithdraw_general (fresh : ∀ x ∈ s.cau.queue, x.req.tag = .offer id → x.req.kind ≠ .withdraw) :
    requestFrame (contestFrame .withdraw id) s =
      (withdrawCancels (contestFrame .withdraw id) s).elim (placeRequest (contestFrame .withdraw id) s)
        fun b => (dequeue b.number s, .cancelled) := by
  have new : sameRecord (contestFrame .withdraw id) s = false := by
    unfold sameRecord
    rw [List.any_eq_false]
    intro x hx same
    simp only [Bool.and_eq_true, decide_eq_true_eq] at same
    exact fresh x hx same.1 same.2
  have general : requestFrame (contestFrame .withdraw id) s = requestGeneral (contestFrame .withdraw id) s := rfl
  rw [general, requestGeneral, if_neg (by simp [new])]
  cases withdrawCancels (contestFrame .withdraw id) s <;> rfl

/-- The BIDs that a WITHDRAW may cancel: of its offer, not in service. -/
theorem withdrawCancels_eq :
    withdrawCancels (contestFrame .withdraw id) s =
      s.cau.queue.find? fun e => e.req.tag = .offer id && e.req.kind = .bid && !s.isInService e := rfl

theorem requestWithdraw_cancels (fresh : ∀ x ∈ s.cau.queue, x.req.tag = .offer id → x.req.kind ≠ .withdraw)
    {b : QueueEntry} (mem : b ∈ s.cau.queue) (tag : b.req.tag = .offer id) (kind : b.req.kind = .bid)
    (waits : s.isInService b = false)
    (only : ∀ x ∈ s.cau.queue, x.req.tag = .offer id → x.req.kind = .bid → s.isInService x = false → x = b) :
    requestFrame (contestFrame .withdraw id) s = (dequeue b.number s, .cancelled) := by
  have cancels : withdrawCancels (contestFrame .withdraw id) s = some b := by
    rw [withdrawCancels_eq]
    cases found : s.cau.queue.find? fun e => e.req.tag = .offer id && e.req.kind = .bid && !s.isInService e with
    | none =>
      have other := List.find?_eq_none.mp found b mem
      simp [tag, kind, waits] at other
    | some x =>
      have is := List.find?_some found
      simp only [Bool.and_eq_true, decide_eq_true_eq, Bool.not_eq_true'] at is
      rw [only x (List.mem_of_find?_eq_some found) is.1.1 is.1.2 is.2]
  rw [requestWithdraw_general fresh, cancels]
  rfl

theorem requestWithdraw_queues (fresh : ∀ x ∈ s.cau.queue, x.req.tag = .offer id → x.req.kind ≠ .withdraw)
    (served : ∀ b ∈ s.cau.queue, b.req.tag = .offer id → b.req.kind = .bid → s.isInService b = true)
    (short : s.cau.queue.length < 16) :
    requestFrame (contestFrame .withdraw id) s = (admitEntry (contestFrame .withdraw id) s, .queued) := by
  have cancels : withdrawCancels (contestFrame .withdraw id) s = none := by
    rw [withdrawCancels_eq, List.find?_eq_none]
    intro b mem is
    simp only [Bool.and_eq_true, decide_eq_true_eq, Bool.not_eq_true'] at is
    rw [served b mem is.1.1 is.1.2] at is
    cases is.2
  rw [requestWithdraw_general fresh, cancels]
  exact placeRequest_room _ short

end

theorem requestFare_beside {q : Request} {x : QueueEntry} {s : State} (fare : q.kind = .fare)
    (found : s.cau.queue.find? (·.req.kind = .fare) = some x) :
    requestFrame q s = (s, if x.req.tag = q.tag then .merged else .dropped) := by
  have notBeacon : q.kind ≠ .beacon := by
    rw [fare]
    nofun
  unfold requestFrame
  rw [if_neg notBeacon, if_pos fare]
  simp only [found]
  by_cases same : x.req.tag = q.tag
  · rw [if_pos same, if_pos same]
  · rw [if_neg same, if_neg same]

/-! ## The beacon timer (R64) -/

/-- A BEACON is refused in a queue with one, and in a full one (R46, R48). -/
theorem requestBeacon_refused {s : State}
    (refuses : (∃ q ∈ s.cau.queue, q.req.kind = .beacon) ∨
      16 ≤ s.cau.queue.length ∧ ∀ q ∈ s.cau.queue, q.req.cls ≤ 4) : (requestFrame beaconRequest s).1 = s := by
  by_cases waits : ∃ q ∈ s.cau.queue, q.req.kind = .beacon
  · have some : s.cau.queue.any (·.req.kind = .beacon) = true := by simpa using waits
    unfold requestFrame
    have kind : beaconRequest.kind = .beacon := rfl
    rw [if_pos kind, if_pos some]
  · obtain ⟨full, bound⟩ := refuses.resolve_left waits
    have none_ : ∀ q ∈ s.cau.queue, q.req.kind ≠ .beacon := fun q hq kind => waits ⟨q, hq, kind⟩
    have places : requestFrame beaconRequest s = placeRequest beaconRequest s :=
      requestFrame_places nofun (fun e he both => none_ e he both.2) (fun _ => none_) nofun nofun
    rw [places, placeRequest_refused full bound]

theorem requestBeacon_room {s : State} (none_ : ∀ q ∈ s.cau.queue, q.req.kind ≠ .beacon)
    (short : s.cau.queue.length < 16) : requestFrame beaconRequest s = (admitEntry beaconRequest s, .queued) :=
  requestFrame_room short nofun (fun e he both => none_ e he both.2) (fun _ => none_) nofun nofun

theorem beaconTimerExpiry_run {s : State} (runs : s.running = true) (zero : s.cau.beaconCount = 0)
    (loaded : s.cau.beaconLoaded = true) (released : s.lines.quiet = false) (sound : s.stc.fault = false) :
    exec .beaconTimerExpiry s = .next (finish (requestFrame beaconRequest (reloadBeacon s)).1) := by
  refine congrArg _ ((whenRunning_of_running _ runs).trans (congrArg finish ?_))
  exact if_pos (by simp [beaconRuns, runs, loaded, released, sound, zero])

/-! ## The relay's delay (R76, R79) -/

theorem relayDelayEnd_run {k : RelayKey} {r : Relay} {s : State} (runs : s.running = true) (found : s.relay? k = some r)
    (delay : r.state = .delay) (zero : r.slotsLeft = 0) :
    exec (.relayDelayEnd k) s = .next (finish (endRelayDelay r s)) := by
  refine congrArg _ ((whenRunning_of_running _ runs).trans (congrArg finish ?_))
  simp only [found]
  exact if_pos (by simp [delay, zero])

theorem relay?_key {k : RelayKey} {r : Relay} {s : State} (found : s.relay? k = some r) : r.key = k := by
  simpa using List.find?_some found

theorem endRelayDelay_ends {r : Relay} {s : State} (ends : s.lines.quiet = true ∨ serialNewer r.key s = false) :
    endRelayDelay r s = s.freeRelay r.key := by
  unfold endRelayDelay
  exact if_pos (by simpa using ends)

/-- What the answer makes of the record whose relay is asked for. -/
theorem endRelayDelay_asks {r : Relay} {s : State} (released : s.lines.quiet = false)
    (newer : serialNewer r.key s = true) :
    endRelayDelay r s =
      if (requestFrame (relayRequest r) s).2 = .dropped then (requestFrame (relayRequest r) s).1.freeRelay r.key
      else (requestFrame (relayRequest r) s).1.updRelay r.key fun x => { x with state := .queued } := by
  unfold endRelayDelay
  rw [if_neg (by simp [released, newer])]

section
variable {k : RelayKey} {r : Relay} {s : State}

theorem relayRequest_kind (r : Relay) : (relayRequest r).kind = .alarm ∨ (relayRequest r).kind = .alarmClear := by
  show alarmFrameKind r.key.kind = _ ∨ alarmFrameKind r.key.kind = _
  cases r.key.kind
  · exact .inl rfl
  · exact .inr rfl

/-- The relay of a record without a like one in the queue is placed there. -/
theorem requestRelay_places (fresh : ∀ q ∈ s.cau.queue, q.req.tag = .relay r.key.origin r.key.serial →
    q.req.kind ≠ alarmFrameKind r.key.kind) : requestFrame (relayRequest r) s = placeRequest (relayRequest r) s := by
  have kind := relayRequest_kind r
  refine requestFrame_places ?_ (fun e he both => fresh e he both.1 both.2) ?_ ?_ nofun
  · rcases kind with is | is <;> rw [is] <;> nofun
  · intro is
    rw [is] at kind
    rcases kind with no | no <;> cases no
  · intro is
    rw [is] at kind
    rcases kind with no | no <;> cases no

theorem requestRelay_merges (waits : ∃ q ∈ s.cau.queue, q.req.tag = .relay r.key.origin r.key.serial ∧
    q.req.kind = alarmFrameKind r.key.kind) : requestFrame (relayRequest r) s = (s, .merged) := by
  have general : requestFrame (relayRequest r) s = requestGeneral (relayRequest r) s := by
    unfold requestFrame
    rcases relayRequest_kind r with is | is
    · rw [if_neg (by rw [is]; nofun), if_neg (by rw [is]; nofun)]
      exact if_neg (by simp [isOwnAlarm, relayRequest])
    · rw [if_neg (by rw [is]; nofun), if_neg (by rw [is]; nofun)]
      exact if_neg (by simp [isOwnAlarm, relayRequest])
  obtain ⟨q, mem, tag, kind⟩ := waits
  have same : sameRecord (relayRequest r) s = true :=
    List.any_eq_true.mpr ⟨q, mem, by simp [relayRequest, tag, kind]⟩
  rw [general, requestGeneral, if_pos same]

theorem updRelay_relay? {f : Relay → Relay} (kept : ∀ x, (f x).key = x.key) (found : s.relay? k = some r) :
    (s.updRelay k f).relay? k = some (f r) := by
  have named := relay?_key found
  show (updateWhere _ _ s.nbt.relays).find? _ = _
  rw [find?_updateWhere (fun x : Relay => decide (x.key = k)) _ f _ fun a _ => by rw [kept]]
  have same : s.nbt.relays.find? (·.key = k) = some r := found
  rw [same, Option.map_some, if_pos (by simpa using named)]

end

/-- A frame of a class below the emergency's is neither a relay nor an own alarm. -/
theorem toldDropped_ofClass {q : Request} {u : State} (cls : q.cls = q.tag.classOf) (below : 0 < q.cls) :
    (toldDropped q.kind q.tag u).nbt = u.nbt ∧ (toldDropped q.kind q.tag u).emu = u.emu := by
  rw [cls] at below
  unfold toldDropped
  cases tag : q.tag with
  | offer id =>
    dsimp only
    split <;> exact ⟨rfl, rfl⟩
  | reply n => exact ⟨rfl, rfl⟩
  | fareRecord n => simp
  | ownAlarm => simp [tag, Tag.classOf] at below
  | relay origin serial => simp [tag, Tag.classOf] at below
  | beacon => exact ⟨rfl, rfl⟩

/-! ## The statement -/

/-- The beacon timer's end (R64). -/
theorem beaconTimerExpiry_asks {s : State} (runs : s.running = true) (zero : s.cau.beaconCount = 0)
    (loaded : s.cau.beaconLoaded = true) (released : s.lines.quiet = false) (sound : s.stc.fault = false) :
    ∃ t, exec .beaconTimerExpiry s = .next t ∧
      t.cau.beaconCount =
        (if s.stc.power = .park then 4 * s.stc.config.tBeacon else s.stc.config.tBeacon) +
          s.cau.rng.toNat % (s.stc.config.tBeacon / 4 + 1) ∧
      ((∃ q ∈ s.cau.queue, q.req.kind = .beacon) → t.cau.queue = s.cau.queue) ∧
      ((∀ q ∈ s.cau.queue, q.req.kind ≠ .beacon) → s.cau.queue.length < 16 →
        ∃ q ∈ t.cau.queue, q.req = ⟨.beacon, 0, 4, false, 0, .beacon⟩) ∧
      (16 ≤ s.cau.queue.length → (∀ q ∈ s.cau.queue, q.req.cls ≤ 4) → t.cau.queue = s.cau.queue) ∧
      t.dtc = s.dtc ∧ t.fre = s.fre ∧ t.fmr = s.fmr ∧ t.lines = s.lines := by
  have run := beaconTimerExpiry_run runs zero loaded released sound
  have asked := requestFrame_asked beaconRequest (reloadBeacon s)
  have count : (requestFrame beaconRequest (reloadBeacon s)).1.cau.beaconCount = beaconReload s := by
    rw [asked.cau]
    rfl
  refine ⟨_, run, ?_, fun waits => ?_, fun none_ short => ?_, fun full bound => ?_, ?_, ?_, ?_, ?_⟩
  · exact (congrArg Cau.beaconCount (finish_settled _).keepsParts.1).trans count
  · rw [requestBeacon_refused (s := reloadBeacon s) (.inl waits)]
    simp [reloadBeacon]
  · rw [requestBeacon_room (s := reloadBeacon s) none_ short]
    exact ⟨admitted beaconRequest (reloadBeacon s), by simpa using admitted_mem beaconRequest (reloadBeacon s), rfl⟩
  · rw [requestBeacon_refused (s := reloadBeacon s) (.inr ⟨full, bound⟩)]
    simp [reloadBeacon]
  · simp
  · simp
  · simp
  · simp

section
variable {k : RelayKey} {r : Relay} {s : State} (runs : s.running = true) (found : s.relay? k = some r)
  (delay : r.state = .delay) (zero : r.slotsLeft = 0)
include runs found delay zero

/-- A relay under QUIET, or of a serial that is not newer, ends. -/
theorem relayDelayEnd_ends (ends : s.lines.quiet = true ∨ serialNewer k s = false) :
    Gives (.relayDelayEnd k) s { s with nbt := { s.nbt with relays := s.nbt.relays.filter (·.key ≠ k) } } := by
  have run := relayDelayEnd_run runs found delay zero
  have key := relay?_key found
  rw [endRelayDelay_ends (by rwa [key]), key] at run
  exact ⟨_, run, finish_settled _⟩

theorem relayDelayEnd_merges (released : s.lines.quiet = false) (newer : serialNewer k s = true)
    (waits : ∃ q ∈ s.cau.queue, q.req.tag = .relay k.origin k.serial ∧ q.req.kind = alarmFrameKind k.kind) :
    Gives (.relayDelayEnd k) s { s with nbt := { s.nbt with
      relays := s.nbt.relays.map fun x => if x.key = k then { x with state := .queued } else x } } := by
  have run := relayDelayEnd_run runs found delay zero
  have key := relay?_key found
  rw [endRelayDelay_asks released (by rwa [key]), requestRelay_merges (by rwa [key]), if_neg (by nofun), key] at run
  have same : s.updRelay k (fun x => { x with state := .queued }) = { s with nbt := { s.nbt with
      relays := s.nbt.relays.map fun x => if x.key = k then { x with state := .queued } else x } } := by
    simp [State.updRelay, updateWhere]
  rw [← same]
  exact ⟨_, run, finish_settled _⟩

variable (released : s.lines.quiet = false) (newer : serialNewer k s = true)
  (fresh : ∀ q ∈ s.cau.queue, q.req.tag = .relay k.origin k.serial → q.req.kind ≠ alarmFrameKind k.kind)
include released newer fresh

theorem relayDelayEnd_places :
    exec (.relayDelayEnd k) s = .next (finish
      (if (placeRequest (relayRequest r) s).2 = .dropped then (placeRequest (relayRequest r) s).1.freeRelay k
       else (placeRequest (relayRequest r) s).1.updRelay k fun x => { x with state := .queued })) := by
  have run := relayDelayEnd_run runs found delay zero
  have key := relay?_key found
  rw [endRelayDelay_asks released (by rwa [key]), requestRelay_places (by rwa [key]), key] at run
  exact run

theorem relayDelayEnd_room (short : s.cau.queue.length < 16) :
    ∃ t, exec (.relayDelayEnd k) s = .next t ∧ t.relay? k = some { r with state := .queued } ∧
      (∃ q ∈ t.cau.queue, q.req = ⟨alarmFrameKind k.kind, 0, 0, false, r.heardHop + 1, .relay k.origin k.serial⟩) ∧
      t.dtc = s.dtc ∧ t.fre = s.fre ∧ t.fmr = s.fmr ∧ t.emu = s.emu ∧ t.mst = s.mst ∧ t.lines = s.lines := by
  have run := relayDelayEnd_places runs found delay zero released newer fresh
  rw [placeRequest_room _ short, if_neg (by nofun)] at run
  have key := relay?_key found
  have kept : (admitEntry (relayRequest r) s).relay? k = some r := found
  have queued := updRelay_relay? (f := fun x => { x with state := .queued }) (fun _ => rfl) kept
  refine ⟨_, run, ?_, ⟨admitted (relayRequest r) s, ?_, ?_⟩, by simp, by simp, by simp, by simp, by simp, by simp⟩
  · unfold State.relay? at queued ⊢
    simpa using queued
  · simpa using admitted_mem (relayRequest r) s
  · rw [← key]
    rfl

theorem relayDelayEnd_displaces {w : QueueEntry} (classes : ClassesByKind s) (full : WouldBeDisplaced w s) :
    (0 < w.req.cls →
      ∃ t, exec (.relayDelayEnd k) s = .next t ∧ t.relay? k = some { r with state := .queued } ∧
        TakesThePlaceOf w ⟨alarmFrameKind k.kind, 0, 0, false, r.heardHop + 1, .relay k.origin k.serial⟩ s t ∧
        t.dtc = s.dtc ∧ t.fre = s.fre ∧ t.fmr = s.fmr ∧ t.emu = s.emu ∧ t.lines = s.lines) ∧
    (w.req.cls = 0 →
      Gives (.relayDelayEnd k) s { s with nbt := { s.nbt with relays := s.nbt.relays.filter (·.key ≠ k) } }) := by
  have run := relayDelayEnd_places runs found delay zero released newer fresh
  obtain ⟨takes, refused⟩ := placeRequest_displaces full (relayRequest r)
  refine ⟨fun worse => ?_, fun best => ?_⟩
  · obtain ⟨place, answer⟩ := takes worse
    have cls := (classes.1 w full.mem).1
    obtain ⟨nbt, emu⟩ := toldDropped_ofClass (u := dequeue w.number s) cls worse
    have asked := placeRequest_asked (relayRequest r) s
    have placed : placeRequest (relayRequest r) s = _ := (placeRequest_full full (relayRequest r)).trans (if_pos worse)
    have nbt' : (placeRequest (relayRequest r) s).1.nbt = s.nbt := (congrArg (fun x => x.1.nbt) placed).trans nbt
    have emu' : (placeRequest (relayRequest r) s).1.emu = s.emu := (congrArg (fun x => x.1.emu) placed).trans emu
    rw [answer, if_neg (by nofun)] at run
    have named : relayRequest r = ⟨alarmFrameKind k.kind, 0, 0, false, r.heardHop + 1, .relay k.origin k.serial⟩ := by
      rw [← relay?_key found]
      rfl
    rw [named] at place
    have notRelay : ∀ x : RelayKey, w.req.tag ≠ .relay x.origin x.serial := fun x tag => by
      rw [cls, tag, Tag.classOf] at worse
      exact absurd worse (Nat.lt_irrefl 0)
    rw [named] at run nbt' emu' asked
    generalize (placeRequest ⟨alarmFrameKind k.kind, 0, 0, false, r.heardHop + 1, .relay k.origin k.serial⟩ s).1 = x at *
    have kept : x.relay? k = some r := by
      unfold State.relay? at found ⊢
      rwa [nbt']
    have queued := updRelay_relay? (f := fun x => { x with state := .queued }) (fun _ => rfl) kept
    refine ⟨_, run, ?_, place.between rfl (by simp) fun told => ?_, ?_, ?_, ?_, ?_, ?_⟩
    · unfold State.relay? at queued ⊢
      simpa using queued
    · exact told.later (fun _ _ => by simp) (by simp) (by simp) (fun x tag => absurd tag (notRelay x)) (by simp) (by simp)
    · simpa using asked.dtc
    · simpa using asked.fre
    · simpa using asked.fmr
    · simpa using emu'
    · simpa using asked.lines
  · rw [refused best.le, if_pos rfl] at run
    exact ⟨_, run, finish_settled _⟩

end

/-- Settles O48: the answers to a WITHDRAW and a FARE, and the requests of the beacon timer and a relay's delay. -/
theorem beaconAndRelayTimersAskForFrames : Obligations.BeaconAndRelayTimersAskForFrames := by
  refine ⟨fun id s fresh => ⟨fun b mem tag kind waits only => requestWithdraw_cancels fresh mem tag kind waits only,
    fun served short => ?_⟩, fun q x s fare found => requestFare_beside fare found,
    fun s runs => ⟨fun zero loaded released sound => beaconTimerExpiry_asks runs zero loaded released sound,
      fun k r found delay zero => ⟨fun ends => relayDelayEnd_ends runs found delay zero ends,
        fun released newer short fresh => relayDelayEnd_room runs found delay zero released newer fresh short,
        fun released newer waits => relayDelayEnd_merges runs found delay zero released newer waits,
        fun w released newer classes full fresh =>
          relayDelayEnd_displaces runs found delay zero released newer fresh classes full⟩⟩⟩
  have queues := requestWithdraw_queues fresh served short
  have answer : (requestFrame ⟨.withdraw, 0, 1, false, 0, .offer id⟩ s).2 = .queued := congrArg Prod.snd queues
  have state : (requestFrame ⟨.withdraw, 0, 1, false, 0, .offer id⟩ s).1 = _ := congrArg Prod.fst queues
  refine ⟨answer, ?_⟩
  rw [state]
  exact ⟨_, admitted_mem (contestFrame .withdraw id) s, rfl⟩

end Sys2Proof.Machine
end

section
/-! PROOFS. The own ALARM and ALARM_CLEAR asked of the CAU (R46, R48, R188). -/

namespace Sys2Proof.Machine

open Sys2Proof

-- The kernel's checks run one after another: side by side they ask for more threads than there is room for.
set_option Elab.async false

/-! ## What the request meets -/

section
variable {kind : FrameKind} (own : kind = .alarm ∨ kind = .alarmClear) {s : State}
include own

theorem requestOwn_eq : requestFrame (ownAlarmRequest kind) s = requestOwnAlarm (ownAlarmRequest kind) s := by
  rcases own with rfl | rfl <;> rfl

/-- Without an own frame in the queue the request is placed there. -/
theorem requestOwn_places (none_ : ∀ q ∈ s.cau.queue, isOwnAlarm q.req = false) :
    requestFrame (ownAlarmRequest kind) s = placeRequest (ownAlarmRequest kind) s := by
  refine requestFrame_places ?_ (fun q hq both => ?_) ?_ ?_ fun _ => none_
  · rcases own with rfl | rfl <;> nofun
  · have is : isOwnAlarm q.req = true := by
      rcases own with rfl | rfl <;> simp_all [isOwnAlarm, ownAlarmRequest]
    rw [none_ q hq] at is
    cases is
  · rcases own with rfl | rfl <;> nofun
  · rcases own with rfl | rfl <;> nofun

theorem requestOwn_holds {x : QueueEntry} (found : s.cau.queue.find? (fun q => isOwnAlarm q.req) = some x)
    (served : s.isInService x = true) :
    requestFrame (ownAlarmRequest kind) s = holdRequest (ownAlarmRequest kind) s := by
  rw [requestOwn_eq own]
  simp only [requestOwnAlarm, found]
  exact if_pos served

theorem requestOwn_merges {x : QueueEntry} (found : s.cau.queue.find? (fun q => isOwnAlarm q.req) = some x)
    (waits : s.isInService x = false) (same : x.req.kind = kind) :
    requestFrame (ownAlarmRequest kind) s = (s, .merged) := by
  rw [requestOwn_eq own]
  simp only [requestOwnAlarm, found]
  rw [if_neg (by simp [waits])]
  exact if_pos same

theorem requestOwn_replaces {x : QueueEntry} (found : s.cau.queue.find? (fun q => isOwnAlarm q.req) = some x)
    (waits : s.isInService x = false) (other : x.req.kind ≠ kind) :
    requestFrame (ownAlarmRequest kind) s = replaceInPlace x (ownAlarmRequest kind) s := by
  rw [requestOwn_eq own]
  simp only [requestOwnAlarm, found]
  rw [if_neg (by simp [waits])]
  exact if_neg other

/-- The request beside an own frame, in service or waiting, is not refused. -/
theorem requestOwn_meets {x : QueueEntry} (found : s.cau.queue.find? (fun q => isOwnAlarm q.req) = some x) :
    MeetsOwnAlarm kind x s (requestFrame (ownAlarmRequest kind) s).1 ∧
      (requestFrame (ownAlarmRequest kind) s).2 ≠ .dropped := by
  by_cases served : s.isInService x = true
  · have holds := requestOwn_holds own found served
    rw [holds]
    refine ⟨⟨fun _ => ?_, fun waits => ?_⟩, by nofun⟩
    · unfold holdRequest
      cases held : s.cau.held with
      | none => exact ⟨rfl, rfl, nofun⟩
      | some old =>
        refine ⟨by simp, by rfl, fun q same => ?_⟩
        cases same
        exact (toldDropped_told old s).later (fun _ _ => rfl) rfl rfl (fun _ _ => rfl) rfl rfl
    · rw [served] at waits
      cases waits
  · have waits : s.isInService x = false := by simpa using served
    by_cases same : x.req.kind = kind
    · rw [requestOwn_merges own found waits same]
      exact ⟨⟨fun is => absurd is served, fun _ => ⟨rfl, fun _ => rfl, fun other => absurd same other⟩⟩, by nofun⟩
    · rw [requestOwn_replaces own found waits same]
      refine ⟨⟨fun is => absurd is served, fun _ => ⟨by simp [replaceInPlace, State.updEntry], fun is => absurd is same, fun _ => ⟨?_, ?_⟩⟩⟩,
        by nofun⟩
      · have told := toldDropped_told x.req (s.updEntry x.number fun e => { e with req := { e.req with kind := kind } })
        exact told.earlier (r := s) (fun _ _ => rfl) rfl rfl rfl fun _ => rfl
      · simp [replaceInPlace, State.updEntry, updateWhere, ownAlarmRequest]

end

/-- What the request meets stays while the queue, the held request and the originators' records do. -/
theorem MeetsOwnAlarm.between {kind : FrameKind} {x : QueueEntry} {r s t u : State} (h : MeetsOwnAlarm kind x s t)
    (before : r.cau = s.cau) (queue : u.cau.queue = t.cau.queue) (held : u.cau.held = t.cau.held)
    (told : ∀ q, ToldDropped q s t → ToldDropped q r u) : MeetsOwnAlarm kind x r u := by
  have service : r.isInService x = s.isInService x := by
    unfold State.isInService
    rw [before]
  obtain ⟨served, waits⟩ := h
  refine ⟨fun is => ?_, fun is => ?_⟩
  · obtain ⟨same, holds, dropped⟩ := served (service ▸ is)
    rw [queue, held, before]
    exact ⟨same, holds, fun old is => told old (dropped old is)⟩
  · obtain ⟨same, merges, replaces⟩ := waits (service ▸ is)
    rw [queue, held, before]
    exact ⟨same, merges, fun other => ⟨told x.req (replaces other).1, (replaces other).2⟩⟩

/-- What DROPPED left, at the settled end of a command, told of a state with the same records. -/
theorem ToldDropped.settled {q : Request} {r s t : State} (h : ToldDropped q s t) (ocu : r.ocu = s.ocu) (mst : r.mst = s.mst)
    (tlu : r.tlu = s.tlu) (nbt : r.nbt = s.nbt) (emu : r.emu.state = s.emu.state) : ToldDropped q r (finish t) := by
  have told : ToldDropped q r t := h.earlier (fun _ _ => ocu) (by rw [mst]) (by rw [tlu]) (by rw [nbt]) fun _ => emu
  obtain ⟨-, -, -, nbtF, ocuF, -, tluF, mstF, emuF, nowF, -⟩ := (finish_settled t).keeps
  exact told.later (fun _ _ => ocuF) (by rw [mstF]) tluF (fun _ _ => nbtF) emuF nowF

/-! ## The wait for the next ALARM_CLEAR through a request (R188) -/

/-- The next due time of an ALARM_CLEAR stands, or is set anew in CLEARING. -/
def ClearDueStands (s t : State) : Prop :=
  t.emu.clearDue = s.emu.clearDue ∨ s.emu.state = .clearing ∧ t.emu.clearDue = some (s.now + 5000)

theorem ClearDueStands.refl (s : State) : ClearDueStands s s := .inl rfl

theorem ClearDueStands.trans {a b c : State} (h : ClearDueStands a b) (k : ClearDueStands b c)
    (state : b.emu.state = a.emu.state) (now : b.now = a.now) : ClearDueStands a c := by
  rcases k with same | ⟨clearing, due⟩
  · unfold ClearDueStands
    rwa [same]
  · exact .inr ⟨state ▸ clearing, now ▸ due⟩

theorem toldDropped_clearDue (kind : FrameKind) (tag : Tag) (s : State) : ClearDueStands s (toldDropped kind tag s) := by
  unfold toldDropped
  split
  · split <;> exact .inl rfl
  · exact .inl rfl
  · exact .inl (by simp)
  · split
    · unfold clearDropped
      split
      · rename_i clearing
        exact .inr ⟨clearing, rfl⟩
      · exact .inl rfl
    · exact .inl rfl
  · exact .inl rfl
  · exact .inl rfl

theorem placeRequest_clearDue (q : Request) (s : State) : ClearDueStands s (placeRequest q s).1 := by
  unfold placeRequest
  split
  · exact .inl rfl
  · split
    · exact .inl rfl
    · split
      · split
        · exact .inl rfl
        · rename_i e _
          exact toldDropped_clearDue _ _ (dequeue e.number s)
      · exact .inl rfl

theorem requestGeneral_clearDue (q : Request) (s : State) : ClearDueStands s (requestGeneral q s).1 := by
  unfold requestGeneral
  split
  · exact .inl rfl
  · split
    · exact .inl rfl
    · exact placeRequest_clearDue q s

theorem requestOwnAlarm_clearDue (q : Request) (s : State) : ClearDueStands s (requestOwnAlarm q s).1 := by
  unfold requestOwnAlarm
  split
  · exact requestGeneral_clearDue q s
  · rename_i e _
    split
    · unfold holdRequest
      split
      · exact toldDropped_clearDue _ _ s
      · exact .inl rfl
    · split
      · exact .inl rfl
      · exact toldDropped_clearDue e.req.kind e.req.tag
          (s.updEntry e.number fun y => { y with req := { y.req with kind := q.kind } })

theorem requestFrame_clearDue (q : Request) (s : State) : ClearDueStands s (requestFrame q s).1 := by
  unfold requestFrame
  split
  · split
    · exact .inl rfl
    · exact requestGeneral_clearDue q s
  · split
    · split
      · split <;> exact .inl rfl
      · exact requestGeneral_clearDue q s
    · split
      · exact requestOwnAlarm_clearDue q s
      · exact requestGeneral_clearDue q s

theorem admitHeld_clearDue (s : State) : ClearDueStands s (admitHeld s) := by
  unfold admitHeld
  split
  · rename_i q _
    have placed := requestFrame_clearDue q { s with cau := { s.cau with held := none } }
    have asked := requestFrame_asked q { s with cau := { s.cau with held := none } }
    dsimp only
    split
    · exact ClearDueStands.trans (a := s) placed (toldDropped_clearDue _ _ _) (by rw [asked.emu]) asked.clocks.1
    · exact placed
  · exact .inl rfl

end Sys2Proof.Machine
end

section
/-! PROOFS. The emergency's clocks (R181, R187, R188, R191). -/

namespace Sys2Proof.Machine

open Sys2Proof

-- The kernel's checks run one after another: side by side they ask for more threads than there is room for.
set_option Elab.async false

/-! ## A due time of the schedule (R181) -/

/-- A schedule moved on by a due time. -/
def scheduled (c : Schedule) (s : State) : State := updEmu (fun e => { e with schedule := some (c.next s.now) }) s

theorem takeDue_eq (c : Schedule) (s : State) :
    takeDue c s = (requestFrame (ownAlarmRequest .alarm) (scheduled c s)).1 := rfl

theorem takeDue_emu (c : Schedule) (s : State) :
    ∃ due, (takeDue c s).emu = { s.emu with schedule := some (c.next s.now), clearDue := due } := by
  have asked := requestFrame_asked (ownAlarmRequest .alarm) (scheduled c s)
  exact ⟨_, asked.emu⟩

/-- The request of an own frame with none in a full queue: the worst frame's place, or none (R48). -/
theorem requestOwn_displaces {kind : FrameKind} (own : kind = .alarm ∨ kind = .alarmClear) {w : QueueEntry} {s : State}
    (full : WouldBeDisplaced w s) (none_ : ∀ q ∈ s.cau.queue, isOwnAlarm q.req = false) :
    (0 < w.req.cls → TakesThePlaceOf w (ownAlarmRequest kind) s (requestFrame (ownAlarmRequest kind) s).1 ∧
        (requestFrame (ownAlarmRequest kind) s).2 = .queued) ∧
      (w.req.cls = 0 → requestFrame (ownAlarmRequest kind) s = (s, .dropped)) := by
  rw [requestOwn_places own none_]
  obtain ⟨takes, refused⟩ := placeRequest_displaces full (ownAlarmRequest kind)
  exact ⟨takes, fun best => refused best.le⟩

theorem alarmDue_run {c : Schedule} {s : State} (runs : s.running = true) (sound : s.stc.fault = false)
    (schedule : s.emu.schedule = some c) : exec .alarmDue s = .next (finish (takeDue c (s.reach c.due))) := by
  refine congrArg _ ((whenRunning_of_running _ runs).trans (congrArg finish ?_))
  simp only [unlessFault, sound, schedule]
  rfl

theorem alarmDue_asks {c : Schedule} {s : State} (runs : s.running = true) (sound : s.stc.fault = false)
    (schedule : s.emu.schedule = some c) :
    ∃ t, exec .alarmDue s = .next t ∧ t.now = max s.now c.due ∧ t.emu.schedule = some (c.next t.now) ∧
      (s.cau.queue.length < 16 → (∀ q ∈ s.cau.queue, isOwnAlarm q.req = false) →
        ∃ q ∈ t.cau.queue, q.req = ⟨.alarm, 0, 0, false, 0, .ownAlarm⟩) ∧
      (∀ w, WouldBeDisplaced w s → (∀ q ∈ s.cau.queue, isOwnAlarm q.req = false) →
        (0 < w.req.cls → TakesThePlaceOf w ⟨.alarm, 0, 0, false, 0, .ownAlarm⟩ s t) ∧
        (w.req.cls = 0 → t.cau.queue = s.cau.queue)) ∧
      (∀ x, s.cau.queue.find? (fun q => isOwnAlarm q.req) = some x → MeetsOwnAlarm .alarm x s t) ∧
      t.emu.state = s.emu.state ∧ t.dtc = s.dtc ∧ t.fre = s.fre ∧ t.fmr = s.fmr := by
  have run := alarmDue_run runs sound schedule
  rw [takeDue_eq] at run
  let u : State := scheduled c (s.reach c.due)
  have asked := requestFrame_asked (ownAlarmRequest .alarm) u
  have now : (requestFrame (ownAlarmRequest .alarm) u).1.now = max s.now c.due := asked.clocks.1
  have own : FrameKind.alarm = .alarm ∨ FrameKind.alarm = .alarmClear := .inl rfl
  have settles : ∀ q, ToldDropped q u (requestFrame (ownAlarmRequest .alarm) u).1 →
      ToldDropped q s (finish (requestFrame (ownAlarmRequest .alarm) u).1) := fun q told =>
    told.settled rfl rfl rfl rfl rfl
  have emu : (requestFrame (ownAlarmRequest .alarm) u).1.emu.schedule = some (c.next (max s.now c.due)) ∧
      (requestFrame (ownAlarmRequest .alarm) u).1.emu.state = s.emu.state := by
    rw [asked.emu]
    exact ⟨rfl, rfl⟩
  refine ⟨_, run, ?_, ?_, fun short none_ => ?_, fun w full none_ => ⟨fun worse => ?_, fun best => ?_⟩, fun x found => ?_,
    ?_, ?_, ?_, ?_⟩
  · simpa using now
  · simp only [finish_frame]
    rw [now]
    exact emu.1
  · have placed : requestFrame (ownAlarmRequest .alarm) u = (admitEntry (ownAlarmRequest .alarm) u, .queued) :=
      (requestOwn_places own (s := u) none_).trans (placeRequest_room _ short)
    refine ⟨admitted (ownAlarmRequest .alarm) u, ?_, rfl⟩
    rw [show scheduled c (s.reach c.due) = u from rfl, placed]
    simpa using admitted_mem (ownAlarmRequest .alarm) u
  · have place := (requestOwn_displaces own ((wouldBeDisplaced_congr (t := u) rfl).mpr full) none_).1 worse
    exact place.1.between rfl (by simp; rfl) (settles w.req)
  · have refused := (requestOwn_displaces own ((wouldBeDisplaced_congr (t := u) rfl).mpr full) none_).2 best
    rw [show scheduled c (s.reach c.due) = u from rfl, refused]
    simp [u, scheduled, updEmu, State.reach]
  · have meets := (requestOwn_meets own (s := u) found).1
    exact meets.between rfl (by simp; rfl) (by simp; rfl) settles
  · simp only [finish_frame]
    exact emu.2
  · simp only [finish_frame]
    exact asked.dtc
  · simp only [finish_frame]
    exact asked.fre
  · simp only [finish_frame]
    exact asked.fmr

/-! ## The due time of an ALARM_CLEAR (R188) -/

/-- The wait for the next ALARM_CLEAR over. -/
def clearDueOver (s : State) : State := updEmu (fun e => { e with clearDue := none }) s

theorem clearDue_run {d : Moment} {s : State} (runs : s.running = true) (sound : s.stc.fault = false)
    (due : s.emu.clearDue = some d) : exec .clearDue s = .next (finish (askClear (clearDueOver (s.reach d)))) := by
  refine congrArg _ ((whenRunning_of_running _ runs).trans (congrArg finish ?_))
  simp only [unlessFault, sound, due]
  rfl

theorem askClear_eq (s : State) :
    askClear s = if (requestFrame (ownAlarmRequest .alarmClear) s).2 = .dropped then
      clearDropped (requestFrame (ownAlarmRequest .alarmClear) s).1
      else (requestFrame (ownAlarmRequest .alarmClear) s).1 := rfl

theorem askClear_of_answered {s : State} (answered : (requestFrame (ownAlarmRequest .alarmClear) s).2 ≠ .dropped) :
    askClear s = (requestFrame (ownAlarmRequest .alarmClear) s).1 := by
  rw [askClear_eq, if_neg answered]

theorem askClear_of_dropped {s : State} (dropped : requestFrame (ownAlarmRequest .alarmClear) s = (s, .dropped)) :
    askClear s = clearDropped s := by
  rw [askClear_eq, dropped, if_pos rfl]

/-- A frame that is told DROPPED and is no ALARM_CLEAR leaves the wait for the next one. -/
theorem toldDropped_clearDue_other {q : Request} (s : State) (other : isOwnAlarm q = false) :
    (toldDropped q.kind q.tag s).emu.clearDue = s.emu.clearDue := by
  unfold toldDropped
  split
  · split <;> rfl
  · rfl
  · simp
  · rename_i tag
    split
    · rename_i kind
      simp [isOwnAlarm, tag, kind] at other
    · rfl
  · rfl
  · rfl

theorem clearDue_asks {d : Moment} {s : State} (runs : s.running = true) (sound : s.stc.fault = false)
    (due : s.emu.clearDue = some d) :
    ∃ t, exec .clearDue s = .next t ∧ t.now = max s.now d ∧
      (s.cau.queue.length < 16 → (∀ q ∈ s.cau.queue, isOwnAlarm q.req = false) →
        t.emu = { s.emu with clearDue := none } ∧
        ∃ q ∈ t.cau.queue, q.req = ⟨.alarmClear, 0, 0, false, 0, .ownAlarm⟩) ∧
      (∀ w, WouldBeDisplaced w s → (∀ q ∈ s.cau.queue, isOwnAlarm q.req = false) →
        (0 < w.req.cls →
          t.emu.clearDue = none ∧ TakesThePlaceOf w ⟨.alarmClear, 0, 0, false, 0, .ownAlarm⟩ s t) ∧
        (w.req.cls = 0 → t.cau.queue = s.cau.queue ∧
          (s.emu.state = .clearing → t.emu.clearDue = some (t.now + 5000)))) ∧
      (∀ x, s.cau.queue.find? (fun q => isOwnAlarm q.req) = some x → MeetsOwnAlarm .alarmClear x s t) ∧
      t.emu = { s.emu with clearDue := t.emu.clearDue } ∧ t.dtc = s.dtc ∧ t.fre = s.fre ∧ t.fmr = s.fmr := by
  have run := clearDue_run runs sound due
  let u : State := clearDueOver (s.reach d)
  have asked : Asked u (askClear u) := askClear_asked u
  have own : FrameKind.alarmClear = .alarm ∨ FrameKind.alarmClear = .alarmClear := .inr rfl
  have now : (askClear u).now = max s.now d := asked.clocks.1
  have nowF : (finish (askClear u)).now = max s.now d := by simpa using now
  have settles : ∀ q, ToldDropped q u (askClear u) → ToldDropped q s (finish (askClear u)) := fun q told =>
    told.settled rfl rfl rfl rfl rfl
  refine ⟨finish (askClear u), run, nowF, fun short none_ => ?_, fun w full none_ => ⟨fun worse => ?_, fun best => ?_⟩,
    fun x found => ?_, ?_, ?_, ?_, ?_⟩
  · have placed : requestFrame (ownAlarmRequest .alarmClear) u = (admitEntry (ownAlarmRequest .alarmClear) u, .queued) :=
      (requestOwn_places own (s := u) none_).trans (placeRequest_room _ short)
    rw [askClear_of_answered (by rw [placed]; nofun), placed]
    refine ⟨by simp [u, clearDueOver, updEmu, State.reach], admitted (ownAlarmRequest .alarmClear) u, ?_, rfl⟩
    simpa using admitted_mem (ownAlarmRequest .alarmClear) u
  · have full' := (wouldBeDisplaced_congr (t := u) rfl).mpr full
    obtain ⟨place, answer⟩ := (requestOwn_displaces own full' none_).1 worse
    have answered := askClear_of_answered (s := u) (by rw [answer]; nofun)
    rw [← answered] at place
    refine ⟨?_, place.between rfl (by simp) (settles w.req)⟩
    have placed := (requestOwn_places own (s := u) none_).trans
      ((placeRequest_full full' (ownAlarmRequest .alarmClear)).trans (if_pos worse))
    rw [answered, placed]
    simpa [u, clearDueOver, updEmu] using
      toldDropped_clearDue_other (dequeue w.number u) (none_ w full.mem)
  · have refused := (requestOwn_displaces own ((wouldBeDisplaced_congr (t := u) rfl).mpr full) none_).2 best
    refine ⟨?_, fun clearing => ?_⟩
    · rw [askClear_of_dropped refused]
      simp [u, clearDueOver, updEmu, State.reach]
    · have clearing' : u.emu.state = .clearing := clearing
      have waits : (clearDropped u).emu.clearDue = some (max s.now d + 5000) := by
        rw [clearDropped, if_pos clearing']
        rfl
      rw [nowF, askClear_of_dropped refused]
      simpa using waits
  · obtain ⟨meets, answered⟩ := requestOwn_meets own (s := u) found
    rw [← askClear_of_answered answered] at meets
    exact meets.between rfl (by simp) (by simp) settles
  · simp only [finish_frame]
    have emu := asked.emu
    exact emu
  · simp only [finish_frame]
    exact asked.dtc
  · simp only [finish_frame]
    exact asked.fre
  · simp only [finish_frame]
    exact asked.fmr

/-! ## The last bit of an ALARM_CLEAR (R188) -/

/-- A state at the last bit of a frame: the channel released, the beacon timer reloaded (R58, R64). -/
def released (s : State) : State := reloadBeacon (resumeReceive { s with fre := { s.fre with onAir := none } })

theorem transmissionEnd_run {r : InService} {e : QueueEntry} {s : State} (runs : s.running = true)
    (noAck : s.fre.ackTx = none) (service : s.cau.inService = some r) (entry : s.serviceEntry = some e)
    (phase : r.phase = .sending) (outside : s.stc.loopback = false) :
    exec .transmissionEnd s = .next (finish (endSending r e (s.reach (r.since + airtimeNow s)))) := by
  refine congrArg _ ((whenRunning_of_running _ runs).trans (congrArg finish ?_))
  simp only [lastBit, noAck, service, entry]
  exact if_pos (by simp [phase, outside])

theorem endSending_leaves {r : InService} {e : QueueEntry} {s : State} (noAck : e.req.ackReq = false) :
    endSending r e s = leaveService .sent e (released s) := by
  simp [endSending, noAck, released]

/-- The return to IDLE, with the button up or still pressed (R188, R179). -/
theorem returnToIdle_emu (s : State) :
    (s.lines.alarmPressed = false → (returnToIdle s).emu = s.emu.idled ∧ (returnToIdle s).cau.mask = 4) ∧
      (s.lines.alarmPressed = true →
        (returnToIdle s).emu = { s.emu.idled with state := .arming, holdTimer := some ⟨s.now, false⟩ } ∧
          (returnToIdle s).cau.mask = 1) := by
  let u : State := setMask 4 (updEmu Emu.idled s)
  let v : State := removeFrame .alarmClear .ownAlarm (removeFrame .alarm .ownAlarm u)
  have asked : Asked u v := (removeFrame_asked _ _ u).trans (removeFrame_asked _ _ _)
  have emu : v.emu = s.emu.idled := by simp [v, u, setMask, updEmu]
  have mask : v.cau.mask = 4 := by
    rw [asked.cau]
    rfl
  have lines : v.lines = s.lines := asked.lines
  have is : returnToIdle s = if v.lines.alarmPressed then startArming v else v := rfl
  refine ⟨fun up => ?_, fun pressed => ?_⟩
  · rw [is, lines, up]
    exact ⟨emu, mask⟩
  · rw [is, lines, pressed]
    have now : v.now = s.now := asked.clocks.1
    refine ⟨?_, rfl⟩
    show ({ v.emu with state := .arming, holdTimer := some ⟨v.now, false⟩ } : Emu) = _
    rw [emu, now]

/-- The ALARM_CLEAR sent, before a held request is let in. -/
def clearLeft (e : QueueEntry) (s : State) : State := clearSent (dequeue e.number (endService s))

theorem leaveService_clear {e : QueueEntry} (s : State) (is : e.req = ⟨.alarmClear, 0, 0, false, 0, .ownAlarm⟩) :
    leaveService .sent e s = admitHeld (clearLeft e s) := by
  have own : isOwnAlarm e.req = true := by
    rw [is]
    rfl
  have told : ∀ u, told .sent e.req u = clearSent u := fun u => by
    rw [is]
    rfl
  unfold leaveService
  dsimp only
  rw [if_pos own, told]
  rfl

/-- What a request that was held leaves of the emergency and the mask. -/
theorem admitHeld_emu (s : State) :
    (∃ due, (admitHeld s).emu = { s.emu with clearDue := due } ∧
      (due = s.emu.clearDue ∨ s.emu.state = .clearing ∧ due = some (s.now + 5000))) ∧
      (admitHeld s).cau.mask = s.cau.mask ∧ (admitHeld s).now = s.now := by
  have asked := admitHeld_asked s
  refine ⟨⟨_, asked.emu, admitHeld_clearDue s⟩, ?_, asked.clocks.1⟩
  rw [asked.cau]

section
variable {e : QueueEntry} {s : State} (clearing : s.emu.state = .clearing)
include clearing

/-- The first and the second ALARM_CLEAR sent: the next is asked for tCLEAR later. -/
theorem clearLeft_few (few : s.emu.clearsSent < 2) :
    (clearLeft e s).emu = { s.emu with clearsSent := s.emu.clearsSent + 1, clearDue := some (s.now + 5000) } := by
  have clearing' : (dequeue e.number (endService s)).emu.state = .clearing := clearing
  have below : (dequeue e.number (endService s)).emu.clearsSent + 1 < 3 := Nat.add_lt_add_right few 1
  unfold clearLeft clearSent
  rw [if_pos clearing']
  dsimp only
  rw [if_pos below]
  rfl

/-- The third: the call returns to IDLE. -/
theorem clearLeft_last (last : 2 ≤ s.emu.clearsSent) :
    clearLeft e s = returnToIdle (updEmu (fun x => { x with clearsSent := s.emu.clearsSent + 1 })
      (dequeue e.number (endService s))) := by
  have clearing' : (dequeue e.number (endService s)).emu.state = .clearing := clearing
  have over_ : ¬(dequeue e.number (endService s)).emu.clearsSent + 1 < 3 := Nat.not_lt.mpr (Nat.add_le_add_right last 1)
  unfold clearLeft clearSent
  rw [if_pos clearing']
  dsimp only
  rw [if_neg over_]
  rfl

end

theorem transmissionEnd_clears {r : InService} {e : QueueEntry} {s : State} (runs : s.running = true)
    (noAck : s.fre.ackTx = none) (service : s.cau.inService = some r) (entry : s.serviceEntry = some e)
    (phase : r.phase = .sending) (outside : s.stc.loopback = false)
    (is : e.req = ⟨.alarmClear, 0, 0, false, 0, .ownAlarm⟩) (clearing : s.emu.state = .clearing) :
    ∃ t, exec .transmissionEnd s = .next t ∧
      (s.emu.clearsSent < 2 → t.emu.state = .clearing ∧ t.emu.clearsSent = s.emu.clearsSent + 1 ∧
        t.emu.clearDue = some (t.now + 5000)) ∧
      (2 ≤ s.emu.clearsSent → s.lines.alarmPressed = false →
        t.emu.state = .idle ∧ t.cau.mask = 4 ∧ t.emu.code = [] ∧ t.emu.attempts = 0 ∧
        t.emu.lockout = none ∧ t.emu.seen = false ∧ t.emu.duress = false ∧ t.emu.clearDue = none) ∧
      (2 ≤ s.emu.clearsSent → s.lines.alarmPressed = true →
        t.emu.state = .arming ∧ t.cau.mask = 1 ∧ t.emu.holdTimer = some ⟨t.now, false⟩) := by
  have run := transmissionEnd_run runs noAck service entry phase outside
  let g : State := released (s.reach (r.since + airtimeNow s))
  have clearing' : g.emu.state = .clearing := clearing
  rw [endSending_leaves (by rw [is]), leaveService_clear _ is] at run
  obtain ⟨⟨due, emu, stands⟩, mask, now⟩ := admitHeld_emu (clearLeft e g)
  have emuF : (finish (admitHeld (clearLeft e g))).emu = { (clearLeft e g).emu with clearDue := due } := by
    simpa using emu
  have maskF : (finish (admitHeld (clearLeft e g))).cau.mask = (clearLeft e g).cau.mask := by simpa using mask
  have nowF : (finish (admitHeld (clearLeft e g))).now = (clearLeft e g).now := by simpa using now
  refine ⟨_, run, fun few => ?_, fun last up => ?_, fun last pressed => ?_⟩
  · have left := clearLeft_few (e := e) clearing' few
    have nowL : (clearLeft e g).now = g.now := by simp [clearLeft, dequeue, endService]
    have again : due = some (g.now + 5000) := by
      rcases stands with same | ⟨-, anew⟩
      · rw [same, left]
      · rw [anew, nowL]
    rw [emuF, nowF, nowL, left]
    exact ⟨clearing', rfl, again⟩
  · have left := clearLeft_last (e := e) clearing' last
    obtain ⟨emuI, maskI⟩ := (returnToIdle_emu (updEmu (fun x => { x with clearsSent := g.emu.clearsSent + 1 })
      (dequeue e.number (endService g)))).1 up
    rw [← left] at emuI maskI
    have none_ : due = none := by
      rcases stands with same | ⟨still, -⟩
      · rw [same, emuI]
        rfl
      · rw [emuI] at still
        cases still
    rw [emuF, maskF, emuI, maskI]
    exact ⟨rfl, rfl, rfl, rfl, rfl, rfl, rfl, none_⟩
  · have left := clearLeft_last (e := e) clearing' last
    obtain ⟨emuI, maskI⟩ := (returnToIdle_emu (updEmu (fun x => { x with clearsSent := g.emu.clearsSent + 1 })
      (dequeue e.number (endService g)))).2 pressed
    have nowL : (clearLeft e g).now = g.now := by simp [clearLeft, dequeue, endService]
    rw [← left] at emuI maskI
    rw [emuF, maskF, nowF, nowL, emuI, maskI]
    exact ⟨rfl, rfl, rfl⟩

/-! ## The lockout and the alarm list (R187, R191) -/

theorem lockoutExpiry_gives {d : Moment} {s : State} (runs : s.running = true) (sound : s.stc.fault = false)
    (locked : s.emu.lockout = some (.running d)) :
    Gives .lockoutExpiry s
      { s with now := max s.now d, emu := { s.emu with lockout := none, attempts := 0 } } := by
  refine gives_of_whenRunning rfl runs ?_
  simp only [unlessFault, sound, locked]
  rfl

theorem alarmListExpiry_drops {n : Station} {a : AlarmEntry} {s : State} (runs : s.running = true)
    (listed : s.alarmEntry n = some a) :
    ∃ t, exec (.alarmListExpiry n) s = .next t ∧ t.now = max s.now (a.lastHeard + 300000) ∧
      t.emu = { s.emu with alarms := s.emu.alarms.filter (·.origin ≠ n) } ∧ t.dtc = s.dtc ∧
      t.fre = s.fre ∧ t.fmr = s.fmr ∧ t.tlu = s.tlu := by
  have run : exec (.alarmListExpiry n) s = .next (finish (dropAlarm n (s.reach (a.lastHeard + 300000)))) := by
    refine congrArg _ ((whenRunning_of_running _ runs).trans (congrArg finish ?_))
    simp only [listed]
    rfl
  have removes : ∀ u : State, (dropAlarmNotice n u).emu = u.emu ∧ (dropAlarmNotice n u).now = u.now ∧
      (dropAlarmNotice n u).dtc = u.dtc ∧ (dropAlarmNotice n u).fre = u.fre ∧ (dropAlarmNotice n u).fmr = u.fmr ∧
      (dropAlarmNotice n u).tlu = u.tlu := fun u => by simp
  obtain ⟨emu, now, dtc, fre, fmr, tlu⟩ := removes
    (updEmu (fun e => { e with alarms := e.alarms.filter (·.origin ≠ n) }) (s.reach (a.lastHeard + 300000)))
  refine ⟨_, run, ?_, ?_, ?_, ?_, ?_, ?_⟩ <;> simp only [finish_frame]
  · exact now
  · exact emu
  · exact dtc
  · exact fre
  · exact fmr
  · exact tlu

/-- Settles O53: each clock by its act. -/
theorem emergencyTimersAct : Obligations.EmergencyTimersAct := by
  intro s runs
  refine ⟨fun c sound schedule => ?_, fun d sound due => clearDue_asks runs sound due,
    fun r e noAck service entry phase outside is clearing =>
      transmissionEnd_clears runs noAck service entry phase outside is clearing,
    fun d sound locked => lockoutExpiry_gives runs sound locked, fun n a listed => alarmListExpiry_drops runs listed⟩
  obtain ⟨t, run, now, moves, rest⟩ := alarmDue_asks runs sound schedule
  refine ⟨t, run, now, moves.trans (congrArg some ?_), rest⟩
  cases phase : c.phase with
  | fast left =>
    simp only [Schedule.next, phase]
    rfl
  | slow =>
    simp only [Schedule.next, phase]

end Sys2Proof.Machine
end

section
/-! PROOFS. The ALARM button (R103, R179 to R181, R185, R188). -/

namespace Sys2Proof.Machine

open Sys2Proof

-- The kernel's checks run one after another: side by side they ask for more threads than there is room for.
set_option Elab.async false

/-! ## Press and release (R179, R185) -/

theorem unlessFault_sound (f : State → State) {s : State} (sound : s.stc.fault = false) : unlessFault f s = f s :=
  if_neg (by simp [sound])

/-- The level of the ALARM button. -/
def withButton (pressed : Bool) (s : State) : State := { s with lines := { s.lines with alarmPressed := pressed } }

theorem alarmDown_idle {s : State} (idle : s.emu.state = .idle) : alarmDown s = startArming s := by
  simp only [alarmDown, idle]

theorem alarmDown_other {s : State} (other : s.emu.state ≠ .idle) :
    alarmDown s = updEmu (fun e => { e with holdTimer := some { since := s.now, acted := false } }) s := by
  unfold alarmDown
  split
  · exact absurd ‹_› other
  all_goals rfl

theorem alarmUp_arming {s : State} (arming : s.emu.state = .arming) : alarmUp s = returnToIdle s := by
  simp only [alarmUp, arming]

theorem alarmUp_other {s : State} (other : s.emu.state ≠ .arming) :
    alarmUp s = updEmu (fun e => { e with holdTimer := none }) s := by
  unfold alarmUp
  split
  · exact absurd ‹_› other
  all_goals rfl

section
variable {s : State} (runs : s.running = true) (sound : s.stc.fault = false)
include runs sound

theorem alarmPressed_gives (up : s.lines.alarmPressed = false) :
    Gives .alarmPressed s
      (if s.emu.state = .idle then { s with
        lines := { s.lines with alarmPressed := true }
        emu := { s.emu with state := .arming, holdTimer := some ⟨s.now, false⟩ }
        cau := { s.cau with mask := 1 }
        cns := { s.cns with buzzer := none } }
       else { s with
        lines := { s.lines with alarmPressed := true }
        emu := { s.emu with holdTimer := some ⟨s.now, false⟩ } }) := by
  have row : exec .alarmPressed s =
      .next (whenRunning (unlessFault alarmDown) { s with lines := { s.lines with alarmPressed := true } }) :=
    congrArg _ (if_neg (by simp [up]))
  refine gives_of_whenRunning row runs ?_
  refine (unlessFault_sound alarmDown (s := withButton true s) sound).trans ?_
  by_cases idle : s.emu.state = .idle
  · rw [if_pos idle]
    exact alarmDown_idle (s := withButton true s) idle
  · rw [if_neg idle]
    exact alarmDown_other (s := withButton true s) idle

theorem alarmReleased_row (pressed : s.lines.alarmPressed = true) :
    exec .alarmReleased s = .next (finish (alarmUp (withButton false s))) := by
  have row : exec .alarmReleased s =
      .next (whenRunning (unlessFault alarmUp) { s with lines := { s.lines with alarmPressed := false } }) :=
    congrArg _ (if_pos pressed)
  exact row.trans (congrArg _ ((whenRunning_of_running _ (s := withButton false s) runs).trans
    (congrArg finish (unlessFault_sound alarmUp (s := withButton false s) sound))))

theorem alarmReleased_returns (pressed : s.lines.alarmPressed = true) (arming : s.emu.state = .arming) :
    ∃ t, exec .alarmReleased s = .next t ∧ t.lines = { s.lines with alarmPressed := false } ∧
      t.emu.state = .idle ∧ t.emu.holdTimer = none ∧ t.emu.seen = false ∧ t.emu.duress = false ∧
      t.emu.code = [] ∧ t.emu.attempts = 0 ∧ t.emu.lockout = none ∧ t.emu.schedule = none ∧
      t.emu.ownSerial = s.emu.ownSerial ∧ t.emu.alarms = s.emu.alarms ∧ t.cau.mask = 4 ∧
      t.dtc = s.dtc ∧ t.ocu = s.ocu ∧ t.fre = s.fre := by
  let u : State := withButton false s
  have run := alarmReleased_row runs sound pressed
  rw [alarmUp_arming (s := withButton false s) arming] at run
  obtain ⟨emu, mask⟩ := (returnToIdle_emu u).1 rfl
  obtain ⟨lines, -, dtc, fre, -, ocu, -⟩ := returnToIdle_frame u
  have emuF : (finish (returnToIdle u)).emu = s.emu.idled := by
    simp only [finish_frame]
    exact emu
  have maskF : (finish (returnToIdle u)).cau.mask = 4 := by simpa using mask
  refine ⟨_, run, ?_, ?_⟩
  · simp only [finish_frame]
    exact lines
  · rw [emuF, maskF]
    refine ⟨rfl, rfl, rfl, rfl, rfl, rfl, rfl, rfl, rfl, rfl, rfl, ?_⟩
    simp only [finish_frame]
    exact ⟨dtc, ocu, fre⟩

theorem alarmReleased_gives (pressed : s.lines.alarmPressed = true) (other : s.emu.state ≠ .arming) :
    Gives .alarmReleased s { s with
      lines := { s.lines with alarmPressed := false }
      emu := { s.emu with holdTimer := none } } := by
  have run := alarmReleased_row runs sound pressed
  rw [alarmUp_other (s := withButton false s) other] at run
  exact ⟨_, run, finish_settled _⟩

/-! ## The hold (R180, R185) -/

theorem holdTimerExpiry_again {h : HoldTimer} (holds : s.emu.holdTimer = some h) (acted : h.acted = true) :
    Gives .holdTimerExpiry s s := by
  refine gives_of_whenRunning rfl runs ((unlessFault_sound _ sound).trans ?_)
  simp only [holds]
  exact if_pos acted

end

/-- The button held for tHOLD, a hold that acts once. -/
def holdOver (h : HoldTimer) (s : State) : State :=
  updEmu (fun e => { e with holdTimer := some { h with acted := true } }) (s.reach (h.since + s.stc.config.tHoldMs))

theorem holdTimerExpiry_run {h : HoldTimer} {s : State} (runs : s.running = true) (sound : s.stc.fault = false)
    (holds : s.emu.holdTimer = some h) (fresh : h.acted = false) :
    exec .holdTimerExpiry s = .next (finish (holdReached (holdOver h s))) := by
  refine congrArg _ ((whenRunning_of_running _ runs).trans (congrArg finish ((unlessFault_sound _ sound).trans ?_)))
  simp only [holds]
  exact if_neg (by simp [fresh])

/-- What the fast phase, begun with a frame asked for, leaves of the emergency (R181). -/
theorem startFast_emu (period : Nat) (s : State) :
    ∃ due, (startFast period s).emu =
      { s.emu with schedule := some ⟨.fast 5, period, s.now + 5000⟩, clearDue := due } :=
  takeDue_emu { phase := .fast 6, period := period, due := s.now } s

theorem startFast_asked (period : Nat) (s : State) :
    Asked (scheduled { phase := .fast 6, period := period, due := s.now } s) (startFast period s) :=
  requestFrame_asked _ _

/-- A hold during the call restarts the fast phase, with the slow period of before. -/
theorem holdTimerExpiry_restarts {h : HoldTimer} {c : Schedule} {s : State} (runs : s.running = true)
    (sound : s.stc.fault = false) (holds : s.emu.holdTimer = some h) (fresh : h.acted = false)
    (schedule : s.emu.schedule = some c)
    (call : s.emu.state = .active ∨ s.emu.state = .acknowledged ∨ s.emu.state = .covert) :
    ∃ t, exec .holdTimerExpiry s = .next t ∧ t.now = max s.now (h.since + s.stc.config.tHoldMs) ∧
      t.emu.state = s.emu.state ∧ t.emu.seen = s.emu.seen ∧ t.emu.duress = s.emu.duress ∧
      t.emu.schedule = some ⟨.fast 5, c.period, t.now + 5000⟩ ∧ t.dtc = s.dtc ∧ t.fre = s.fre := by
  have run := holdTimerExpiry_run runs sound holds fresh
  have reached : holdReached (holdOver h s) = startFast c.period (holdOver h s) := by
    have period : slowPeriod (holdOver h s) = c.period := by
      have schedule' : (holdOver h s).emu.schedule = some c := schedule
      simp only [slowPeriod, schedule']
    have state : (holdOver h s).emu.state = s.emu.state := rfl
    rcases call with is | is | is <;> simp only [holdReached, state, is, period]
  rw [reached] at run
  obtain ⟨due, emu⟩ := startFast_emu c.period (holdOver h s)
  have asked := startFast_asked c.period (holdOver h s)
  have now : (startFast c.period (holdOver h s)).now = max s.now (h.since + s.stc.config.tHoldMs) := asked.clocks.1
  refine ⟨_, run, ?_⟩
  simp only [finish_frame]
  rw [emu, now]
  exact ⟨rfl, rfl, rfl, rfl, rfl, asked.dtc, asked.fre⟩

/-- A hold in CLEARING takes the call back to ACTIVE. -/
theorem holdTimerExpiry_reactivates {h : HoldTimer} {s : State} (runs : s.running = true)
    (sound : s.stc.fault = false) (holds : s.emu.holdTimer = some h) (fresh : h.acted = false)
    (clearing : s.emu.state = .clearing) :
    ∃ t, exec .holdTimerExpiry s = .next t ∧ t.now = max s.now (h.since + s.stc.config.tHoldMs) ∧
      t.emu.state = .active ∧ t.emu.clearsSent = 0 ∧ t.emu.seen = false ∧ t.emu.duress = false ∧
      t.emu.elapsed = s.emu.elapsed ∧ t.emu.firstSerial = s.emu.firstSerial ∧
      t.emu.schedule = some ⟨.fast 5, s.emu.keptPeriod, t.now + 5000⟩ ∧ t.cau.mask = s.cau.mask ∧
      t.dtc = s.dtc ∧ t.ocu.offers.map (fun o => (o.id, o.state)) = s.ocu.offers.map (fun o => (o.id, o.state)) ∧
      t.fre = s.fre := by
  let u : State := updEmu (fun e =>
    { e with state := .active, clearsSent := 0, clearDue := none, seen := false, duress := false }) (holdOver h s)
  have run := holdTimerExpiry_run runs sound holds fresh
  have reached : holdReached (holdOver h s) = startFast s.emu.keptPeriod u := by
    have state : (holdOver h s).emu.state = .clearing := clearing
    simp only [holdReached, state]
    rfl
  rw [reached] at run
  obtain ⟨due, emu⟩ := startFast_emu s.emu.keptPeriod u
  have asked := startFast_asked s.emu.keptPeriod u
  have now : (startFast s.emu.keptPeriod u).now = max s.now (h.since + s.stc.config.tHoldMs) := asked.clocks.1
  have mask : (startFast s.emu.keptPeriod u).cau.mask = s.cau.mask := by
    rw [asked.cau]
    rfl
  have offers : (startFast s.emu.keptPeriod u).ocu.offers.map (fun o => (o.id, o.state)) =
      s.ocu.offers.map fun o => (o.id, o.state) := map_of_bidFrame asked.ocu (fun o => (o.id, o.state)) fun _ => rfl
  have maskF : (finish (startFast s.emu.keptPeriod u)).cau.mask = s.cau.mask := by simpa using mask
  refine ⟨_, run, ?_⟩
  simp only [finish_frame]
  rw [emu, now]
  exact ⟨rfl, rfl, rfl, rfl, rfl, rfl, rfl, rfl, maskF, asked.dtc, offers, asked.fre⟩

/-! ## The arming (R103, R180) -/

/-- A request moves no contest, and makes none WON. -/
theorem Asked.noContestRuns {s t : State} (asked : Asked s t) (none_ : NoContestRuns s) : NoContestRuns t := by
  have start : RunsOnlyIn [] s := fun x hx runs => by
    rw [none_ x hx] at runs
    cases runs
  intro x hx
  simpa using asked.runsOnlyIn start x hx

theorem abandonContests_dtc (s : State) : (abandonContests s).dtc = s.dtc := by simp

theorem PendingWf.notWon {s : State} (wf : PendingWf s) (other : s.dtc.duty ≠ .pending) :
    ∀ o ∈ s.ocu.offers, o.state ≠ .won := by
  obtain ⟨-, count⟩ := wf
  rw [if_neg other, List.length_eq_zero_iff, List.filter_eq_nil_iff] at count
  exact fun o mem => by simpa using count o mem

theorem PendingWf.won {s : State} (wf : PendingWf s) (pending : s.dtc.duty = .pending) : ∃ e, s.wonOffer? = some e := by
  obtain ⟨-, count⟩ := wf
  rw [if_pos pending] at count
  obtain ⟨e, only⟩ := List.length_eq_one_iff.mp count
  have mem : e ∈ s.ocu.offers.filter fun x => x.state = .won := only ▸ List.mem_singleton_self e
  obtain ⟨inOffers, is⟩ := List.mem_filter.mp mem
  exact Option.isSome_iff_exists.mp (List.find?_isSome.mpr ⟨e, inOffers, is⟩)

theorem wonOffer?_none {s : State} (none_ : ∀ o ∈ s.ocu.offers, o.state ≠ .won) : s.wonOffer? = none := by
  unfold State.wonOffer?
  rw [List.find?_eq_none]
  exact fun o mem => by simpa using none_ o mem

theorem declineWon_of_none {s : State} (none_ : ∀ o ∈ s.ocu.offers, o.state ≠ .won) : declineWon s = s := by
  simp [declineWon, wonOffer?_none none_]

/-- The won offer declined: no contest runs for it, and PENDING has ended. -/
theorem declineWon_ends {s : State} {e : OfferEntry} (won : s.wonOffer? = some e) (pending : s.dtc.duty = .pending)
    (none_ : NoContestRuns s) :
    (declineWon s).dtc.duty = .vacant ∧ NoContestRuns (declineWon s) ∧
      ∃ due, (declineWon s).emu = { s.emu with clearDue := due } := by
  let u : State := s.updOffer e.id fun x => { x with state := .declined, jobTimer := none }
  have asked : Asked u (declineOffer e.id s) := requestFrame_asked _ u
  have pending' : (declineOffer e.id s).dtc.duty = .pending := by
    rw [asked.dtc]
    exact pending
  have ends : declineWon s = enterVacant (declineOffer e.id s) := by
    simp only [declineWon, won]
    exact if_pos pending'
  have noneU : NoContestRuns u := by
    intro x hx
    obtain ⟨y, hy, rfl⟩ := mem_updateWhere.mp hx
    split
    · rfl
    · exact none_ y hy
  rw [ends]
  refine ⟨by simp, ?_, ?_⟩
  · intro x hx
    exact asked.noContestRuns noneU x (by simpa using hx)
  · obtain ⟨due, emu⟩ : ∃ due, (declineOffer e.id s).emu = { s.emu with clearDue := due } := ⟨_, asked.emu⟩
    exact ⟨due, (enterVacant_frame _).2.2.2.2.2.1.trans emu⟩

/-- After the contests are given up none is WON, and PENDING has ended. -/
theorem armContests_ends {s : State} (wf : PendingWf s) :
    (armContests s).dtc.duty = (if s.dtc.duty = .pending then .vacant else s.dtc.duty) ∧
      (∀ o ∈ (armContests s).ocu.offers, o.state ≠ .won) ∧ NoContestRuns (armContests s) ∧
      ∃ due, (armContests s).emu = { s.emu with clearDue := due } := by
  have none_ := abandonContests_noContestRuns s
  have wf' : PendingWf (abandonContests s) := (abandonContests_keeps s).pending wf
  have dtc := abandonContests_dtc s
  obtain ⟨due, emu⟩ : ∃ due, (abandonContests s).emu = { s.emu with clearDue := due } := ⟨_, (abandonContests_asked s).emu⟩
  by_cases pending : s.dtc.duty = .pending
  · obtain ⟨e, won⟩ := wf'.won (by rw [dtc, pending])
    obtain ⟨vacant, noneD, due', emu'⟩ := declineWon_ends won (by rw [dtc, pending]) none_
    have wfD : PendingWf (armContests s) := (declineWon_keeps _).pending wf'
    rw [if_pos pending]
    refine ⟨vacant, wfD.notWon ?_, noneD, due', ?_⟩
    · rw [show (armContests s).dtc.duty = .vacant from vacant]
      nofun
    · rw [show (armContests s).emu = _ from emu', emu]
  · have notWon := wf'.notWon (by rwa [dtc])
    have same : armContests s = abandonContests s := declineWon_of_none notWon
    rw [same, if_neg pending, dtc]
    exact ⟨rfl, notWon, none_, due, emu⟩

/-- Where no contest runs and none is WON the arming gives up nothing. -/
theorem armContests_of_idle {s : State} (idle : ∀ o ∈ s.ocu.offers, o.state.running = false ∧ o.state ≠ .won) :
    armContests s = s := by
  have abandons : ∀ (l : List OfferEntry), (∀ o ∈ l, o.state.running = false) →
      l.foldl (fun s e => abandonOffer e s) s = s := by
    intro l
    induction l with
    | nil => exact fun _ => rfl
    | cons a l ih =>
      intro all
      have kept : abandonOffer a s = s := if_neg (by simp [all a List.mem_cons_self])
      rw [List.foldl_cons, kept]
      exact ih fun o mem => all o (List.mem_cons_of_mem a mem)
  have same : abandonContests s = s := abandons _ fun o mem => (idle o mem).1
  unfold armContests
  rw [same]
  exact declineWon_of_none fun o mem => (idle o mem).2

/-- The record of the EMU at the arming. -/
def armed (s : State) : State :=
  updEmu (fun e =>
    { e with state := .active, elapsed := 0, seen := false, duress := false, firstSerial := none, code := [] }) s

theorem arm_eq (s : State) : arm s = startFast 30000 (toRun (armContests (armed s))) := rfl

/-- A hold in ARMING makes the call ACTIVE. -/
theorem holdTimerExpiry_arms {h : HoldTimer} {s : State} (runs : s.running = true) (sound : s.stc.fault = false)
    (holds : s.emu.holdTimer = some h) (fresh : h.acted = false) (arming : s.emu.state = .arming) (wf : PendingWf s) :
    ∃ t, exec .holdTimerExpiry s = .next t ∧ t.now = max s.now (h.since + s.stc.config.tHoldMs) ∧
      t.emu.state = .active ∧ t.emu.holdTimer = some ⟨h.since, true⟩ ∧ t.emu.elapsed = 0 ∧
      t.emu.seen = false ∧ t.emu.duress = false ∧ t.emu.firstSerial = none ∧ t.emu.code = [] ∧
      t.emu.schedule = some ⟨.fast 5, 30000, t.now + 5000⟩ ∧ t.stc.power = .run ∧
      NoContestRuns t ∧ (∀ o ∈ t.ocu.offers, o.state ≠ .won) ∧
      t.dtc.duty = (if s.dtc.duty = .pending then .vacant else s.dtc.duty) ∧
      (s.cau.queue = [] → (∀ o ∈ s.ocu.offers, o.state.running = false ∧ o.state ≠ .won) →
        ∃ q ∈ t.cau.queue, q.req = ⟨.alarm, 0, 0, false, 0, .ownAlarm⟩) ∧
      t.fre = s.fre ∧ t.fmr = s.fmr ∧ t.lines = s.lines := by
  let u : State := armed (holdOver h s)
  let y : State := toRun (armContests u)
  have run := holdTimerExpiry_run runs sound holds fresh
  have reached : holdReached (holdOver h s) = startFast 30000 y := by
    have state : (holdOver h s).emu.state = .arming := arming
    simp only [holdReached, state]
    rfl
  rw [reached] at run
  obtain ⟨duty, notWon, noneRuns, due, emuA⟩ := armContests_ends (s := u) wf
  obtain ⟨linesA, freA, fmrA, nowA, -⟩ := armContests_frame u
  obtain ⟨linesR, dtcR, freR, -, -, ocuR, fmrR, -, -, emuR, nowR, -⟩ := toRun_frame (armContests u)
  obtain ⟨due', emu⟩ := startFast_emu 30000 y
  have asked := startFast_asked 30000 y
  have now : (startFast 30000 y).now = max s.now (h.since + s.stc.config.tHoldMs) :=
    asked.clocks.1.trans (nowR.trans nowA)
  have power : (startFast 30000 y).stc.power = .run := by
    rw [asked.stc]
    exact toRun_power _
  have runsNone : NoContestRuns (startFast 30000 y) := asked.noContestRuns fun o mem => noneRuns o (ocuR ▸ mem)
  have wonNone : ∀ o ∈ (startFast 30000 y).ocu.offers, o.state ≠ .won := by
    intro o mem
    obtain ⟨x, hx, -, state, -⟩ := heard_of_bidFrame asked.ocu mem
    rw [← state]
    exact notWon x (ocuR ▸ hx)
  have emuY : y.emu = { u.emu with clearDue := due } := emuR.trans emuA
  refine ⟨_, run, ?_, ?_⟩
  · simpa using now
  · simp only [finish_frame]
    rw [emu, emuY, now, show y.now = max s.now (h.since + s.stc.config.tHoldMs) from nowR.trans nowA]
    refine ⟨rfl, rfl, rfl, rfl, rfl, rfl, rfl, rfl, ?_, ?_, wonNone, ?_, fun empty idle => ?_, ?_, ?_, ?_⟩
    · simpa using power
    · intro o mem
      exact runsNone o (by simpa using mem)
    · rw [asked.dtc]
      exact (congrArg Dtc.duty dtcR).trans duty
    · have kept : armContests u = u := armContests_of_idle idle
      have cauA : (armContests u).cau = s.cau := by
        rw [kept]
        rfl
      have cau : y.cau = s.cau := (toRun_cau _).trans cauA
      have queue : (scheduled { phase := .fast 6, period := 30000, due := y.now } y).cau.queue = [] :=
        (congrArg Cau.queue cau).trans empty
      have admits := requestFrame_ownAlarm (kind := .alarm) (.inl rfl) (by rw [queue]; decide) (by rw [queue]; nofun)
      have first : startFast 30000 y = _ := congrArg Prod.fst admits
      rw [first]
      refine ⟨admitted (ownAlarmRequest .alarm) (scheduled { phase := .fast 6, period := 30000, due := y.now } y), ?_, rfl⟩
      simpa using admitted_mem (ownAlarmRequest .alarm) (scheduled { phase := .fast 6, period := 30000, due := y.now } y)
    · exact asked.fre.trans (freR.trans freA)
    · exact asked.fmr.trans (fmrR.trans fmrA)
    · exact asked.lines.trans (linesR.trans linesA)

/-- Settles O52: the button by its level, the hold by the state of the call. -/
theorem alarmButtonRaisesTheCall : Obligations.AlarmButtonRaisesTheCall := by
  intro s runs sound
  exact ⟨alarmPressed_gives runs sound, alarmReleased_returns runs sound, alarmReleased_gives runs sound,
    fun h holds acted => holdTimerExpiry_again runs sound holds acted,
    fun h holds fresh => ⟨fun arming wf => holdTimerExpiry_arms runs sound holds fresh arming wf,
      fun c schedule call => holdTimerExpiry_restarts runs sound holds fresh schedule call,
      fun clearing => holdTimerExpiry_reactivates runs sound holds fresh clearing⟩⟩

end Sys2Proof.Machine
end

section
/-! PROOFS. The frames of other cabs' alarms at the relay scheduler (R74, R77, R78, R80). -/

namespace Sys2Proof.Machine

open Sys2Proof

-- The kernel's checks run one after another: side by side they ask for more threads than there is room for.
set_option Elab.async false

/-! ## What the header of an alarm's frame leaves of the relays -/

/-- A delivered frame of the alarm family is neither acknowledged nor looked up as a repeat. -/
theorem alarmFrame_run {k : FrameKind} {f : AirFrame} {s : State} (family : isAlarmFamily k = true)
    (delivered : Delivered k f s) :
    exec (frameCommand k f) s = .next (finish (deliver k f (headerTaken f s))) := by
  obtain ⟨heard, wellFormed, accepted, -⟩ := delivered
  have routed : routeKind (some k) f (headerTaken f s) = deliver k f (headerTaken f s) := by
    simp [routeKind, wellFormed, accepted, route, family]
  rw [receiveFrame_heard heard, routed]

theorem toldDropped_beacon (kind : FrameKind) (s : State) : toldDropped kind .beacon s = s := rfl

/-- A report that displaces a BEACON at worst moves the queue alone. -/
theorem placeRequest_cauOnly {q : Request} {s : State} (cls : q.cls = 3) (worst : WorstAreBeacons s) :
    ∃ cau, (placeRequest q s).1 = { s with cau := cau } := by
  unfold placeRequest
  split
  · exact ⟨_, rfl⟩
  · split
    · exact ⟨_, rfl⟩
    · split
      · rename_i w _ below
        split
        · exact ⟨_, rfl⟩
        · rename_i e newest
          obtain ⟨mem, is⟩ := findLast_mem newest
          simp only [Bool.and_eq_true, decide_eq_true_eq] at is
          rw [worst e mem (by omega), toldDropped_beacon]
          exact ⟨_, rfl⟩
      · exact ⟨_, rfl⟩

theorem reportTest_nbt {s : State} (worst : WorstAreBeacons s) : (reportTest s).nbt = s.nbt := by
  have kept (n : Nat) : (requestFrame (fareRequest s n) s).1.nbt = s.nbt := by
    rcases requestFare_eq (q := fareRequest s n) rfl s with same | same | same <;> rw [same]
    obtain ⟨cau, placed⟩ := placeRequest_cauOnly (q := fareRequest s n) rfl worst
    rw [placed]
  unfold reportTest
  split
  · split
    · rfl
    · dsimp only
      split
      · exact kept _
      · exact kept _
  · rfl

/-- Where no report displaces worse than a BEACON, the header leaves the relays and the offers. -/
theorem headerTaken_relays {f : AirFrame} {s : State} (classes : f.header.source = s.stc.config.home → ClassesByKind s) :
    (headerTaken f s).nbt.relays = s.nbt.relays ∧ (headerTaken f s).ocu = s.ocu := by
  by_cases home : f.header.source = s.stc.config.home
  · obtain ⟨x, heard, same | reports⟩ := headerTaken_reports f s
    · rw [same]
      exact ⟨heard.relays, heard.ocu⟩
    · have worst : WorstAreBeacons x := by
        unfold WorstAreBeacons
        rw [heard.cau]
        exact (classes home).worstAreBeacons
      rw [reports, reportTest_nbt worst, reportTest_ocu worst]
      exact ⟨heard.relays, heard.ocu⟩
  · obtain ⟨n, l, away⟩ := (metOwner_headerTaken f s).other home
    rw [away]
    exact ⟨rfl, rfl⟩

/-- The source's entry has the header's position. -/
theorem headerTaken_neighbour (f : AirFrame) (s : State) :
    ∃ n, (headerTaken f s).neighbour f.header.source = some n ∧ n.position = headerPosition f.header := by
  let u : State := countGood (resumeReceive s)
  obtain ⟨neighbours, level, asked, table, -⟩ := hearHeader_asked f.header u
  obtain ⟨n, found, -, position⟩ := refreshNeighbour_heard f.header u
  refine ⟨n, ?_, position⟩
  have kept : (headerTaken f s).nbt.neighbours = neighbours := by
    show (hearHeader f.header u).nbt.neighbours = neighbours
    rw [asked.nbt]
  unfold State.neighbour at found ⊢
  rw [kept, table]
  exact found

/-! A relay record through a header: as it was, or freed. -/

theorem freeRelay_relay? (k j : RelayKey) (s : State) :
    (s.freeRelay j).relay? k = s.relay? k ∨ (s.freeRelay j).relay? k = none := by
  by_cases same : k = j
  · exact .inr (by rw [same]; exact freeRelay_frees j s)
  · refine .inl ?_
    unfold State.relay? State.freeRelay
    rw [List.find?_filter]
    refine congrArg (List.find? · s.nbt.relays) (funext fun r => ?_)
    by_cases is : r.key = k
    · simp [is, same]
    · simp [is]

theorem relay?_congr {s t : State} (nbt : t.nbt = s.nbt) (k : RelayKey) : t.relay? k = s.relay? k := by
  unfold State.relay?
  rw [nbt]

theorem toldDropped_relay? (kind : FrameKind) (tag : Tag) (k : RelayKey) (s : State) :
    (toldDropped kind tag s).relay? k = s.relay? k ∨ (toldDropped kind tag s).relay? k = none := by
  unfold toldDropped
  split
  · split
    · exact .inl rfl
    · exact .inl rfl
  · exact .inl rfl
  · exact .inl (relay?_congr (by simp) k)
  · split
    · exact .inl (relay?_congr (by simp) k)
    · exact .inl rfl
  · exact freeRelay_relay? k _ s
  · exact .inl rfl

theorem reportTest_relay? (k : RelayKey) (s : State) :
    (reportTest s).relay? k = s.relay? k ∨ (reportTest s).relay? k = none := by
  have placed (q : Request) : (placeRequest q s).1.relay? k = s.relay? k ∨ (placeRequest q s).1.relay? k = none := by
    unfold placeRequest
    split
    · exact .inl rfl
    · split
      · exact .inl rfl
      · split
        · split
          · exact .inl rfl
          · exact toldDropped_relay? _ _ k (dequeue _ s)
        · exact .inl rfl
  have asked (n : Nat) : (requestFrame (fareRequest s n) s).1.relay? k = s.relay? k ∨
      (requestFrame (fareRequest s n) s).1.relay? k = none := by
    rcases requestFare_eq (q := fareRequest s n) rfl s with same | same | same <;> rw [same]
    · exact .inl rfl
    · exact .inl rfl
    · exact placed _
  unfold reportTest
  split
  · split
    · exact .inl rfl
    · dsimp only
      split
      · exact asked _
      · exact asked _
  · exact .inl rfl

theorem headerTaken_relay? (f : AirFrame) (k : RelayKey) (s : State) :
    (headerTaken f s).relay? k = s.relay? k ∨ (headerTaken f s).relay? k = none := by
  obtain ⟨x, heard, same | reports⟩ := headerTaken_reports f s
  · rw [same]
    unfold State.relay?
    rw [heard.relays]
    exact .inl rfl
  · have kept : x.relay? k = s.relay? k := by
      unfold State.relay?
      rw [heard.relays]
    rw [reports, ← kept]
    exact reportTest_relay? k x

/-! ## A record cancelled (R80) -/

theorem cancelRelay_cancels {k : RelayKey} {r : Relay} {s : State} (found : s.relay? k = some r)
    (lands : r.state ≠ .onAir) : (cancelRelay k s).relay? k = none := by
  cases state : r.state with
  | delay =>
    simp only [cancelRelay, found, state]
    exact freeRelay_frees k s
  | queued =>
    simp only [cancelRelay, found, state]
    exact freeRelay_frees k _
  | onAir => exact absurd state lands

theorem cancelRelay_onAir {k : RelayKey} {r : Relay} {s : State} (found : s.relay? k = some r)
    (flies : r.state = .onAir) : cancelRelay k s = s := by
  unfold cancelRelay
  rw [found]
  simp only [flies]

theorem cancelRelay_relay? (k j : RelayKey) (s : State) :
    (cancelRelay j s).relay? k = s.relay? k ∨ (cancelRelay j s).relay? k = none := by
  unfold cancelRelay
  split
  · split
    · exact freeRelay_relay? k j s
    · rw [← relay?_congr (s := s) (t := relayFrame j s) (by simp) k]
      exact freeRelay_relay? k j _
    · exact .inl rfl
  · exact .inl rfl

/-- A record gone stays gone while others are cancelled. -/
theorem cancelRelay_none {k : RelayKey} {s : State} (gone : s.relay? k = none) (j : RelayKey) :
    (cancelRelay j s).relay? k = none := by
  rcases cancelRelay_relay? k j s with same | gone'
  · rw [same, gone]
  · exact gone'

theorem cancelRelay_frees {k : RelayKey} {s : State} (lands : ∀ r, s.relay? k = some r → r.state ≠ .onAir) :
    (cancelRelay k s).relay? k = none := by
  cases found : s.relay? k with
  | none => exact cancelRelay_none found k
  | some r => exact cancelRelay_cancels found (lands r found)

/-! ## A copy at the relay scheduler (R77, R78) -/

theorem mayRelay_congr {s t : State} (k : RelayKey) (hop : Nat) (stc : t.stc = s.stc) (lines : t.lines = s.lines)
    (alarms : t.emu.alarms = s.emu.alarms) (relays : t.nbt.relays = s.nbt.relays) :
    mayRelay k hop t = mayRelay k hop s := by
  simp only [mayRelay, serialNewer, State.alarmEntry, stc, lines, alarms, relays]

section
variable {kind : AlarmKind} {p : AlarmPayload} {f : AirFrame} {w : State}

theorem relayCopy_own (own : p.origin = w.own) : relayCopy kind p f w = w := if_pos own

section
variable (other : p.origin ≠ w.own)
include other

theorem relayCopy_known (absent : w.relay? ⟨p.origin, kind, p.serial⟩ = none)
    (known : hasKey ⟨p.origin, alarmFrameKind kind, p.serial⟩ w = true) : relayCopy kind p f w = w := by
  unfold relayCopy
  simp only [absent]
  rw [if_neg other]
  exact if_pos known

theorem relayCopy_first (absent : w.relay? ⟨p.origin, kind, p.serial⟩ = none)
    (fresh : hasKey ⟨p.origin, alarmFrameKind kind, p.serial⟩ w = false) :
    relayCopy kind p f w =
      if mayRelay ⟨p.origin, kind, p.serial⟩ f.header.hop w then
        scheduleRelay ⟨p.origin, kind, p.serial⟩ f.header f.payload (enterKey ⟨p.origin, alarmFrameKind kind, p.serial⟩ w)
      else enterKey ⟨p.origin, alarmFrameKind kind, p.serial⟩ w := by
  have same : mayRelay ⟨p.origin, kind, p.serial⟩ f.header.hop (enterKey ⟨p.origin, alarmFrameKind kind, p.serial⟩ w) =
      mayRelay ⟨p.origin, kind, p.serial⟩ f.header.hop w :=
    mayRelay_congr _ _ (by simp) (by simp) (by simp) (enterKey_relays _ w)
  unfold relayCopy
  simp only [absent]
  rw [if_neg other, relayDupName, if_neg (by simp [fresh]), same]

theorem relayCopy_again {r : Relay} (found : w.relay? ⟨p.origin, kind, p.serial⟩ = some r) :
    relayCopy kind p f w =
      if r.heardHop < f.header.hop then cancelRelay ⟨p.origin, kind, p.serial⟩ w else w := by
  unfold relayCopy
  simp only [found]
  exact if_neg other

end

/-- The record of a first copy, its delay by the distance of the copy's own header. -/
theorem scheduleRelay_heard {n : Neighbour} (k : RelayKey) (payload : List Byte)
    (entry : w.neighbour f.header.source = some n) (position : n.position = headerPosition f.header) :
    (scheduleRelay k f.header payload w).nbt.relays = w.nbt.relays ++
      [{ key := k, heardHop := f.header.hop, payload := payload,
         slotsLeft := 8 - min 7 (heardDistance f.header w / 50), state := .delay }] := by
  rw [← relayDelay_eq f.header w n entry position]
  rfl

end

end Sys2Proof.Machine
end

section
/-! PROOFS. The frames of other cabs' alarms at the EMU (R184, R190, R191), and what they leave. -/

namespace Sys2Proof.Machine

open Sys2Proof

-- The kernel's checks run one after another: side by side they ask for more threads than there is room for.
set_option Elab.async false

/-! ## Places and tones beside the alarm list -/

/-- An entry that leaves takes no place away. -/
theorem removeMsg_hasPlace {s : State} (short : s.mst.entries.length ≤ storeCapacity) (place : hasPlace s = true) (n : Nat) :
    hasPlace (removeMsg n s) = true := by
  cases found : s.msg? n with
  | none =>
    have same : removeMsg n s = s := by
      unfold removeMsg
      rw [found]
    rwa [same]
  | some e =>
    have fewer : (removeMsg n s).mst.entries.length < s.mst.entries.length := by
      rw [removeMsg_entries]
      refine List.length_filter_lt_length_iff_exists.mpr ⟨e, List.mem_of_find?_eq_some found, ?_⟩
      simpa using List.find?_some found
    unfold hasPlace
    rw [decide_eq_true (fewer.trans_le short), Bool.true_or]

@[simp] theorem raiseNotice_buzzer (key : NoticeKey) (pin : Bool) (text : List Byte) (s : State) :
    (raiseNotice key pin text s).cns.buzzer = s.cns.buzzer := by
  unfold raiseNotice
  split
  · exact removeMsg_buzzer _ s
  · split
    · exact takePlace_buzzer s
    · split
      · exact removeMsg_buzzer _ s
      · rfl

/-! ## The alarm list (R190, R191) -/

@[simp] theorem dropAlarm_buzzer (origin : Station) (s : State) : (dropAlarm origin s).cns.buzzer = s.cns.buzzer := by
  unfold dropAlarm dropAlarmNotice
  split
  · simp [updEmu]
  · rfl

@[simp] theorem dropAlarm_state (origin : Station) (s : State) : (dropAlarm origin s).emu.state = s.emu.state := by
  simp [dropAlarm, updEmu]

theorem dropAlarm_hasPlace {s : State} (short : s.mst.entries.length ≤ storeCapacity) (place : hasPlace s = true)
    (origin : Station) : hasPlace (dropAlarm origin s) = true := by
  unfold dropAlarm dropAlarmNotice
  split
  · exact removeMsg_hasPlace (s := updEmu _ s) short place _
  · exact place

section
variable (p : AlarmPayload) (s : State)

@[simp] theorem roomForAlarm_buzzer : (roomForAlarm s).cns.buzzer = s.cns.buzzer := by
  unfold roomForAlarm
  split
  · rfl
  · split
    · exact dropAlarm_buzzer _ s
    · rfl

@[simp] theorem roomForAlarm_state : (roomForAlarm s).emu.state = s.emu.state := by
  unfold roomForAlarm
  split
  · rfl
  · split
    · exact dropAlarm_state _ s
    · rfl

/-- The list with a new origin's entry at its end. -/
def withOrigin : State :=
  updEmu (fun e => { e with alarms := e.alarms ++ [{ origin := p.origin, lastSerial := p.serial, lastRelayed := none, seen := p.seen, lastHeard := (roomForAlarm s).now }] })
    (roomForAlarm s)

theorem newAlarm_eq :
    newAlarm p s =
      requestTone .alarmNear (noticeAlarmNear p.origin (alarmDistance p (withOrigin p s)) (withOrigin p s)) := rfl

theorem newAlarm_mem :
    { origin := p.origin, lastSerial := p.serial, lastRelayed := none, seen := p.seen, lastHeard := s.now } ∈
      (newAlarm p s).emu.alarms := by
  have now : (roomForAlarm s).now = s.now := by simp
  rw [newAlarm_eq, requestTone_eq, ← now]
  simp [withOrigin, updEmu]

@[simp] theorem newAlarm_state : (newAlarm p s).emu.state = s.emu.state := by
  rw [newAlarm_eq, requestTone_eq]
  simp [withOrigin, updEmu]

theorem newAlarm_buzzer : (newAlarm p s).cns.buzzer = buzzerAfter .alarmNear s := by
  rw [newAlarm_eq, requestTone_eq]
  refine buzzerAfter_congr _ ?_ ?_ ?_ ?_
  · simp [withOrigin, updEmu]
  · simp [withOrigin, updEmu]
  · simp [withOrigin, updEmu, noticeAlarmNear]
  · simp [withOrigin, updEmu]

end

/-- A new origin's notice, where there is a place for it. -/
theorem newAlarm_notice (p : AlarmPayload) {s : State} (short : s.mst.entries.length ≤ storeCapacity)
    (place : hasPlace s = true) :
    ∃ m ∈ (newAlarm p s).mst.entries, m.name = .notice (.alarmNear p.origin) ∧ m.state = .unread ∧ m.pin = true := by
  have room : hasPlace (withOrigin p s) = true := by
    show hasPlace (roomForAlarm s) = true
    unfold roomForAlarm
    split
    · exact place
    · split
      · exact dropAlarm_hasPlace short place _
      · exact place
  rw [newAlarm_eq, requestTone_eq]
  exact raiseNotice_stands _ _ _ (.inl room)

/-! ## A copy at the EMU -/

section
variable {p : AlarmPayload} {w : State}

theorem listedOrigin_iff {origin : Station} {s : State} :
    listedOrigin origin s = true ↔ isCab origin = true ∧ origin ≠ s.own := by
  simp [listedOrigin]

theorem emuAlarm_unlisted (unlisted : listedOrigin p.origin w = false) : emuAlarm p w = w := by
  simp [emuAlarm, unlisted]

theorem emuAlarmClear_unlisted (unlisted : listedOrigin p.origin w = false) : emuAlarmClear p w = w := by
  simp [emuAlarmClear, unlisted]

theorem emuAlarm_new (listed : listedOrigin p.origin w = true) (absent : w.alarmEntry p.origin = none) :
    emuAlarm p w = newAlarm p w := by
  simp [emuAlarm, listed, absent]

theorem emuAlarm_known {a : AlarmEntry} (listed : listedOrigin p.origin w = true)
    (found : w.alarmEntry p.origin = some a) : emuAlarm p w = refreshAlarm a p w := by
  simp [emuAlarm, listed, found]

theorem emuAlarm_state (p : AlarmPayload) (w : State) : (emuAlarm p w).emu.state = w.emu.state := by
  unfold emuAlarm
  split
  · split
    · rfl
    · exact newAlarm_state p w
  · rfl

theorem refreshAlarm_mem (a : AlarmEntry) (p : AlarmPayload) (w : State) :
    { a with
      lastHeard := w.now
      lastSerial := if newerSerial p.serial a.lastSerial then p.serial else a.lastSerial
      seen := a.seen || (newerSerial p.serial a.lastSerial && p.seen) } ∈ (refreshAlarm a p w).emu.alarms := by
  simp [refreshAlarm, updEmu]

theorem emuAlarmClear_absent (absent : w.alarmEntry p.origin = none) : emuAlarmClear p w = w := by
  simp [emuAlarmClear, absent]

theorem emuAlarmClear_newer {a : AlarmEntry} (listed : listedOrigin p.origin w = true)
    (found : w.alarmEntry p.origin = some a) (newer : newerSerial p.serial a.lastSerial = true) :
    emuAlarmClear p w = dropAlarm p.origin w := by
  simp [emuAlarmClear, listed, found, newer]

theorem emuAlarmClear_older {a : AlarmEntry} (found : w.alarmEntry p.origin = some a)
    (older : newerSerial p.serial a.lastSerial = false) : emuAlarmClear p w = w := by
  simp [emuAlarmClear, found, older]

theorem emuAlarmClear_state (p : AlarmPayload) (w : State) : (emuAlarmClear p w).emu.state = w.emu.state := by
  unfold emuAlarmClear
  split
  · split
    · split
      · exact dropAlarm_state _ w
      · rfl
    · rfl
  · rfl

theorem dropAlarm_alarmEntry (origin : Station) (s : State) : (dropAlarm origin s).alarmEntry origin = none := by
  unfold State.alarmEntry
  rw [dropAlarm_alarms, List.find?_eq_none]
  intro a mem
  simpa using (List.mem_filter.mp mem).2

end

/-- The EMU's act on a copy of either kind. -/
def emuTakes : AlarmKind → AlarmPayload → State → State
  | .alarm => emuAlarm
  | .clear => emuAlarmClear

theorem deliver_alarmCopy {kind : AlarmKind} {f : AirFrame} {p : AlarmPayload} (parses : parseAlarm f.payload = some p)
    (w : State) : deliver (alarmFrameKind kind) f w = emuTakes kind p (relayCopy kind p f w) := by
  cases kind <;> simp [deliver, alarmFrameKind, parses, emuTakes]

@[simp] theorem emuTakes_frame (kind : AlarmKind) (p : AlarmPayload) (w : State) :
    (emuTakes kind p w).lines = w.lines ∧ (emuTakes kind p w).dtc = w.dtc ∧ (emuTakes kind p w).nbt = w.nbt ∧
    (emuTakes kind p w).ocu = w.ocu ∧ (emuTakes kind p w).fmr = w.fmr ∧ (emuTakes kind p w).tlu = w.tlu ∧
    (emuTakes kind p w).emu.state = w.emu.state := by
  cases kind
  · simp [emuTakes, emuAlarm_state]
  · simp [emuTakes, emuAlarmClear_state]

theorem emuTakes_unlisted {kind : AlarmKind} {p : AlarmPayload} {w : State}
    (unlisted : listedOrigin p.origin w = false) : emuTakes kind p w = w := by
  cases kind
  · exact emuAlarm_unlisted unlisted
  · exact emuAlarmClear_unlisted unlisted

/-! ## An acknowledgement of this station's own call (R184) -/

section
variable {n : Serial} {w : State} (sent : seenMatches n w = true)
include sent

theorem ownSeen_active (active : w.emu.state = .active) :
    (ownSeen n w).emu = { w.emu with
      state := .acknowledged, seen := true, schedule := some ⟨.slow, 60000, w.now + 60000⟩ } := by
  unfold ownSeen
  rw [if_pos sent, active]
  rfl

theorem ownSeen_covert (covert : w.emu.state = .covert) :
    (ownSeen n w).emu = { w.emu with seen := true, schedule := some ⟨.slow, 60000, w.now + 60000⟩ } := by
  unfold ownSeen
  rw [if_pos sent, covert]
  rfl

theorem ownSeen_other (notActive : w.emu.state ≠ .active) (notCovert : w.emu.state ≠ .covert) : ownSeen n w = w := by
  unfold ownSeen
  rw [if_pos sent]
  split
  · exact absurd ‹_› notActive
  · exact absurd ‹_› notCovert
  · rfl
  · rfl
  · rfl
  · rfl

end

end Sys2Proof.Machine
end

section
/-! PROOFS. What the frames of other cabs' alarms leave (R74, R77, R78, R80, R184, R190, R191). -/

namespace Sys2Proof.Machine

open Sys2Proof

-- The kernel's checks run one after another: side by side they ask for more threads than there is room for.
set_option Elab.async false

theorem alarmEntry_congr {s t : State} (alarms : t.emu.alarms = s.emu.alarms) (origin : Station) :
    t.alarmEntry origin = s.alarmEntry origin := by
  unfold State.alarmEntry
  rw [alarms]

@[simp] theorem enterKey_neighbour (k : DupName) (n : Station) (s : State) :
    (enterKey k s).neighbour n = s.neighbour n := by
  unfold enterKey
  split <;> rfl

theorem seenMatches_congr {s t : State} (n : Serial) (first : t.emu.firstSerial = s.emu.firstSerial)
    (own : t.emu.ownSerial = s.emu.ownSerial) : seenMatches n t = seenMatches n s := by
  simp only [seenMatches, first, own]

theorem updateWhere_eq_map {α : Type} (p : α → Prop) [DecidablePred p] (g : α → α) (l : List α) :
    updateWhere (fun a => decide (p a)) g l = l.map fun a => if p a then g a else a := by
  simp [updateWhere]

/-- A copy's marks in the relays and keys, from the state that meets the scheduler. -/
theorem relayCopy_schedules {kind : AlarmKind} {p : AlarmPayload} {f : AirFrame} {s : State}
    (relays : (headerTaken f s).nbt.relays = s.nbt.relays) (other : p.origin ≠ s.own)
    (absent : s.relay? ⟨p.origin, kind, p.serial⟩ = none)
    (fresh : hasKey ⟨p.origin, alarmFrameKind kind, p.serial⟩ s = false) :
    hasKey ⟨p.origin, alarmFrameKind kind, p.serial⟩ (relayCopy kind p f (headerTaken f s)) = true ∧
      (relayCopy kind p f (headerTaken f s)).nbt.relays =
        if mayRelay ⟨p.origin, kind, p.serial⟩ f.header.hop s then
          s.nbt.relays ++ [{ key := ⟨p.origin, kind, p.serial⟩, heardHop := f.header.hop, payload := f.payload,
                             slotsLeft := 8 - min 7 (heardDistance f.header s / 50), state := .delay }]
        else s.nbt.relays := by
  have met := metOwner_headerTaken f s
  obtain ⟨lines, stc, dtc, -, -, -, -, alarms, -⟩ := met.parts
  obtain ⟨n, entry, position⟩ := headerTaken_neighbour f s
  have may := mayRelay_congr ⟨p.origin, kind, p.serial⟩ f.header.hop stc lines alarms relays
  have distance : heardDistance f.header (enterKey ⟨p.origin, alarmFrameKind kind, p.serial⟩ (headerTaken f s)) =
      heardDistance f.header s := by
    simp [heardDistance, dtc]
  have absent' : (headerTaken f s).relay? ⟨p.origin, kind, p.serial⟩ = none := by
    unfold State.relay? at absent ⊢
    rwa [relays]
  rw [relayCopy_first (by rwa [met.own]) absent' (by rwa [met.hasKey]), may]
  split
  · refine ⟨(hasKey_congr _ rfl).trans (hasKey_enterKey _ _), ?_⟩
    rw [scheduleRelay_heard _ _ (by rw [enterKey_neighbour]; exact entry) position, distance, enterKey_relays, relays]
  · exact ⟨hasKey_enterKey _ _, by rw [enterKey_relays, relays]⟩

/-- Settles O44: each copy first at the relay scheduler, then at the EMU, as the header's work leaves them. -/
theorem alarmFramesKeepListAndRelays : Obligations.AlarmFramesKeepListAndRelays := by
  intro f s
  let w : State := headerTaken f s
  have met : MetOwner f s w := metOwner_headerTaken f s
  obtain ⟨lines, stc, dtc, fmr, now, emuState, -, alarms, dups, -⟩ := met.parts
  refine ⟨fun kind c p row delivered parses classes => ?copy, fun n delivered parses =>
    ⟨fun other => ?seen, fun own sent => ?ownSeen⟩⟩
  case copy =>
    obtain ⟨relays, ocu⟩ := headerTaken_relays classes
    have relay (k : RelayKey) : w.relay? k = s.relay? k := by
      unfold State.relay?
      rw [relays]
    let u : State := relayCopy kind p f w
    have command : c = frameCommand (alarmFrameKind kind) f := by
      rcases row with ⟨rfl, rfl⟩ | ⟨rfl, rfl⟩ <;> rfl
    have family : isAlarmFamily (alarmFrameKind kind) = true := by cases kind <;> rfl
    have run : exec c s = .next (finish (emuTakes kind p u)) := by
      rw [command, alarmFrame_run family delivered]
      exact congrArg (fun x => Host.Outcome.next (finish x)) (deliver_alarmCopy parses w)
    have nbt : (finish (emuTakes kind p u)).nbt = u.nbt := by simp
    have listedU : listedOrigin p.origin u = listedOrigin p.origin s := by
      have own : u.own = s.own := by simp [State.own, u, stc]
      unfold listedOrigin
      rw [own]
    have alarmsU : u.emu.alarms = s.emu.alarms := by simp [u, alarms]
    have entryU := alarmEntry_congr alarmsU p.origin
    have nowU : u.now = s.now := by simp [u, now]
    refine ⟨_, run, fun own => ?own, fun other => ⟨fun absent fresh => ?first, fun absent known => ?known,
      fun r found => ?again⟩, fun unlisted => ?unlisted, fun isAlarm cab other absent => ?new,
      fun a isAlarm cab other found => ?refreshed, fun isClear absent => ?noEntry,
      fun a isClear cab other found => ?cleared, fun away => ?tlu, ?state, ?dtc, ?fmr, ?ocu, ?lines⟩
    case own =>
      have kept : u = w := relayCopy_own (by rw [met.own, own])
      rw [nbt, kept]
      exact ⟨relays, dups⟩
    case first =>
      obtain ⟨key, scheduled⟩ := relayCopy_schedules (f := f) relays other absent fresh
      rw [nbt, scheduled]
      refine ⟨(hasKey_congr _ (congrArg Nbt.dups nbt)).trans key, fun may => ?_, fun stays => ?_⟩
      · rw [if_pos ((mayRelay_iff _ _ _).mpr may)]
        exact List.mem_append_right _ (List.mem_singleton.mpr rfl)
      · rw [if_neg fun may => stays ((mayRelay_iff _ _ _).mp may)]
    case known =>
      have kept : u = w := relayCopy_known (by rwa [met.own]) (by rw [relay, absent]) (by rwa [met.hasKey])
      rw [nbt, kept]
      exact ⟨relays, dups⟩
    case again =>
      have copied := relayCopy_again (f := f) (w := w) (by rwa [met.own]) ((relay _).trans found)
      refine ⟨fun farther lands => ?_, fun stays => ?_⟩
      · have cancelled : u = cancelRelay ⟨p.origin, kind, p.serial⟩ w := copied.trans (if_pos farther)
        rw [relay?_congr nbt, cancelled]
        exact cancelRelay_cancels ((relay _).trans found) lands
      · have kept : u = w := by
          refine copied.trans ?_
          split
          · rename_i farther
            exact cancelRelay_onAir ((relay _).trans found) (stays.resolve_left (by omega))
          · rfl
        rw [nbt, kept]
        exact relays
    case unlisted =>
      have none : listedOrigin p.origin u = false := by
        rw [listedU, Bool.eq_false_iff]
        intro listed
        obtain ⟨cab, other⟩ := listedOrigin_iff.mp listed
        rcases unlisted with own | notCab
        · exact other own
        · exact Bool.false_ne_true (notCab.symm.trans cab)
      rw [emuTakes_unlisted none]
      simpa using alarmsU
    case new =>
      subst isAlarm
      have taken : emuTakes .alarm p u = newAlarm p u :=
        emuAlarm_new (by rw [listedU, listedOrigin_iff]; exact ⟨cab, other⟩) (by rw [entryU, absent])
      rw [taken]
      refine ⟨?_, ?_, fun wf place => ?_⟩
      · have mem := newAlarm_mem p u
        rw [nowU] at mem
        simpa using mem
      · have buzzer := newAlarm_buzzer p u
        rw [buzzerAfter_congr .alarmNear (s := s) (by simp [u, stc]) (by simp [u, emuState]) (by simp [u, met.buzzer]) nowU]
          at buzzer
        simpa using buzzer
      · have mst : u.mst = w.mst := by simp [u]
        have length : u.mst.entries.length = s.mst.entries.length := by
          rw [mst]
          simpa using congrArg List.length met.entries
        have room : hasPlace u = true := by
          rw [hasPlace_congr mst, met.place, place]
        simpa using newAlarm_notice p (length.trans_le wf.1) room
    case refreshed =>
      subst isAlarm
      have taken : emuTakes .alarm p u = refreshAlarm a p u :=
        emuAlarm_known (by rw [listedU, listedOrigin_iff]; exact ⟨cab, other⟩) (by rw [entryU, found])
      have mem := refreshAlarm_mem a p u
      rw [nowU] at mem
      rw [taken]
      simpa using mem
    case noEntry =>
      subst isClear
      have kept : emuTakes .clear p u = u := emuAlarmClear_absent (by rw [entryU, absent])
      rw [kept]
      simpa using alarmsU
    case cleared =>
      subst isClear
      refine ⟨fun newer => ?_, fun older => ?_⟩
      · have dropped : emuTakes .clear p u = dropAlarm p.origin u :=
          emuAlarmClear_newer (by rw [listedU, listedOrigin_iff]; exact ⟨cab, other⟩) (by rw [entryU, found]) newer
        rw [dropped, ← dropAlarm_alarmEntry p.origin u]
        exact alarmEntry_congr (by simp) p.origin
      · have kept : emuTakes .clear p u = u := emuAlarmClear_older (by rw [entryU, found]) older
        rw [kept]
        simpa using alarmsU
    case tlu =>
      obtain ⟨n, l, framed⟩ := met.other away
      have tlu : w.tlu = s.tlu := by rw [framed]; rfl
      simp [u, tlu]
    case state => simp [u, emuState]
    case dtc => simp [u, dtc]
    case fmr => simp [u, fmr]
    case ocu => simp [u, ocu, w]
    case lines => simp [u, lines]
  all_goals
    have run : exec (.alarmSeen f) s = .next (finish (emuAlarmSeen f.header.dest n (relaySeen f.header.dest n w))) := by
      have delivers : deliver .alarmSeen f w = emuAlarmSeen f.header.dest n (relaySeen f.header.dest n w) := by
        simp [deliver, parses]
      rw [← delivers]
      exact alarmFrame_run (k := .alarmSeen) rfl delivered
  case seen =>
    let u : State := relaySeen f.header.dest n w
    have otherW : f.header.dest ≠ w.own := by rwa [met.own]
    have otherU : f.header.dest ≠ u.own := by
      have own : u.own = w.own := by simp [State.own, u]
      rwa [own]
    have marked : emuAlarmSeen f.header.dest n u = updEmu (fun e =>
        { e with alarms := updateWhere (·.origin = f.header.dest) (fun a => { a with seen := true }) e.alarms }) u :=
      if_neg otherU
    have relayed : u = enterKey ⟨f.header.dest, .alarmSeen, n⟩
        (cancelRelay ⟨f.header.dest, .clear, n⟩ (cancelRelay ⟨f.header.dest, .alarm, n⟩ w)) := if_neg otherW
    have alarmsU : u.emu.alarms = s.emu.alarms := by simp [u, alarms]
    have nbt : (finish (emuAlarmSeen f.header.dest n u)).nbt = u.nbt := by simp
    refine ⟨_, run, ?_, ?_, fun k r found lands => ?_, ?_, ?_, ?_, ?_⟩
    · have mapped := updateWhere_eq_map (fun a : AlarmEntry => a.origin = f.header.dest)
        (fun a => { a with seen := true }) s.emu.alarms
      rw [show relaySeen f.header.dest n w = u from rfl, marked, ← mapped, ← alarmsU]
      simp [updEmu]
    · refine (hasKey_congr _ (congrArg Nbt.dups nbt)).trans ?_
      rw [relayed]
      exact hasKey_enterKey _ _
    · have lands' : ∀ x, w.relay? ⟨f.header.dest, k, n⟩ = some x → x.state ≠ .onAir := by
        intro x foundW
        rcases headerTaken_relay? f ⟨f.header.dest, k, n⟩ s with same | gone
        · have is : some x = some r := foundW.symm.trans (same.trans found)
          rw [Option.some.inj is]
          exact lands
        · exact absurd (foundW.symm.trans gone) (by simp)
      have freed : (cancelRelay ⟨f.header.dest, .clear, n⟩ (cancelRelay ⟨f.header.dest, .alarm, n⟩ w)).relay?
          ⟨f.header.dest, k, n⟩ = none := by
        cases k with
        | alarm => exact cancelRelay_none (cancelRelay_frees lands') _
        | clear =>
          refine cancelRelay_frees fun x still => ?_
          rcases cancelRelay_relay? ⟨f.header.dest, .clear, n⟩ ⟨f.header.dest, .alarm, n⟩ w with same | gone
          · exact lands' x (same.symm.trans still)
          · exact absurd (still.symm.trans gone) (by simp)
      rw [relay?_congr nbt, relayed, ← freed]
      unfold State.relay?
      rw [enterKey_relays]
    · simp [marked, updEmu, show relaySeen f.header.dest n w = u from rfl]
      simp [u, emuState]
    · simp [dtc]
    · simp [fmr]
    · simp [lines]
  case ownSeen =>
    have ownW : f.header.dest = w.own := by rw [met.own, own]
    have kept : relaySeen f.header.dest n w = w := if_pos ownW
    have acts : emuAlarmSeen f.header.dest n w = Machine.ownSeen n w := if_pos ownW
    obtain ⟨due, emu⟩ : ∃ due, w.emu = { s.emu with clearDue := due } := by
      obtain ⟨_, _, asked⟩ := met.asked
      exact ⟨_, asked.emu⟩
    have sentW : seenMatches n w = true :=
      (seenMatches_congr n (by rw [emu]) (by rw [emu])).trans sent
    rw [kept, acts] at run
    refine ⟨_, run, fun active => ?_, fun notActive => ?_, fun either => ?_, fun notActive notCovert => ?_, ?_, ?_, ?_⟩
    · simp [ownSeen_active sentW (emuState.trans active)]
    · by_cases covert : s.emu.state = .covert
      · simp [ownSeen_covert sentW (emuState.trans covert), emuState]
      · simp [ownSeen_other sentW (by rwa [emuState]) (by rwa [emuState]), emuState]
    · rcases either with active | covert
      · simp [ownSeen_active sentW (emuState.trans active), now]
      · simp [ownSeen_covert sentW (emuState.trans covert), now]
    · simp [ownSeen_other sentW (by rwa [emuState]) (by rwa [emuState]), emu]
    · simp [dtc]
    · simp [fmr]
    · simp [lines]

end Sys2Proof.Machine
end

section
/-! PROOFS. What a frame at its owner leaves of the queue and the power (R42, R47, R49). -/

namespace Sys2Proof.Machine

open Sys2Proof

-- The kernel's checks run one after another: side by side they ask for more threads than there is room for.
set_option Elab.async false

/-! ## Frames removed, and none admitted -/

/-- The CAU loses frames at most: its clocks, its generator and its next number are as they were, and so is the
STC. -/
structure OnlyRemoves (s t : State) : Prop where
  stc : t.stc = s.stc
  cau : ∃ queue held service, t.cau = { s.cau with queue := queue, held := held, inService := service }

theorem OnlyRemoves.same {s t : State} (stc : t.stc = s.stc := by simp) (cau : t.cau = s.cau := by simp) :
    OnlyRemoves s t :=
  ⟨stc, _, _, _, cau⟩

theorem OnlyRemoves.refl (s : State) : OnlyRemoves s s := .same rfl rfl

theorem OnlyRemoves.trans {a b c : State} (h : OnlyRemoves a b) (k : OnlyRemoves b c) : OnlyRemoves a c := by
  obtain ⟨queue, held, service, cau⟩ := h.cau
  obtain ⟨queue', held', service', cau'⟩ := k.cau
  exact ⟨k.stc.trans h.stc, queue', held', service', by rw [cau', cau]⟩

/-- The last operation first, as operations are composed. -/
theorem OnlyRemoves.comp {a b c : State} (k : OnlyRemoves b c) (h : OnlyRemoves a b) : OnlyRemoves a c := h.trans k

theorem OnlyRemoves.ite {s t u : State} {p : Prop} [Decidable p] (ht : p → OnlyRemoves s t) (hu : ¬p → OnlyRemoves s u) :
    OnlyRemoves s (if p then t else u) := by
  split
  · exact ht ‹_›
  · exact hu ‹_›

theorem OnlyRemoves.beaconReload {s t : State} (h : OnlyRemoves s t) : beaconReload t = beaconReload s := by
  obtain ⟨_, _, _, cau⟩ := h.cau
  unfold Machine.beaconReload
  rw [h.stc, cau]

theorem OnlyRemoves.nextEntry {s t : State} (h : OnlyRemoves s t) : t.cau.nextEntry = s.cau.nextEntry := by
  obtain ⟨_, _, _, cau⟩ := h.cau
  rw [cau]

theorem removeFrame_removes (kind : FrameKind) (tag : Tag) (s : State) : OnlyRemoves s (removeFrame kind tag s) := by
  have asked := removeFrame_asked kind tag s
  have cau := asked.cau
  rw [(removeFrame_fewer kind tag s).2] at cau
  exact ⟨asked.stc, _, _, _, cau⟩

/-! ## The store (R147, R151, R156) -/

theorem removeMsg_removes (n : Nat) (s : State) : OnlyRemoves s (removeMsg n s) := by
  have freed : OnlyRemoves s (freeMsg n s) := .same
  unfold removeMsg
  split
  · exact .refl s
  · exact .ite (fun _ => (removeFrame_removes _ _ _).comp freed) fun _ => freed

theorem takePlace_removes (s : State) : OnlyRemoves s (takePlace s) := by
  refine .ite (fun _ => .refl s) fun _ => ?_
  split
  · exact removeMsg_removes _ s
  · exact .refl s

theorem raiseNotice_removes (key : NoticeKey) (pin : Bool) (text : List Byte) (s : State) :
    OnlyRemoves s (raiseNotice key pin text s) := by
  have added (u : State) : OnlyRemoves u (addMsg (noticeEntry key pin text) u) := .same rfl rfl
  unfold raiseNotice
  split
  · exact (added _).comp (removeMsg_removes _ s)
  · refine .ite (fun _ => (added _).comp (takePlace_removes s)) fun _ => ?_
    split
    · exact (added _).comp (removeMsg_removes _ s)
    · exact .refl s

theorem deliverMsg_removes (source : Station) (direct : Bool) (p : MsgPayload) (s : State) :
    OnlyRemoves s (deliverMsg source direct p s) := by
  have creates (u : State) : OnlyRemoves u (createMsg source direct p u) := .same
  unfold deliverMsg
  split
  · exact .ite (fun _ => (creates _).comp (takePlace_removes s)) fun _ => .refl s
  · exact .ite (fun _ => .same) fun _ => .ite (fun _ => .refl s) fun _ => (creates _).comp (removeMsg_removes _ s)

/-! ## The duty (R7, R8, R13) -/

theorem applyPendingSet_removes (s : State) : OnlyRemoves s (applyPendingSet s) := by
  unfold applyPendingSet
  split
  · exact (raiseNotice_removes _ _ _ _).comp (.same rfl rfl)
  · exact .refl s

/-- Outside BREAK and OFF_SHIFT the entry into VACANT leaves the power. -/
theorem enterVacant_removes {s : State} (working : s.dtc.duty ≠ .offShift) (driving : s.dtc.duty ≠ .onBreak) :
    OnlyRemoves s (enterVacant s) := by
  have applied : OnlyRemoves s (applyPendingSet { s with dtc := { s.dtc with duty := .vacant, vacantSeconds := 0 } }) :=
    (applyPendingSet_removes _).comp (.same rfl rfl)
  unfold enterVacant
  dsimp only
  rw [if_neg (by simp [working, driving])]
  exact applied

theorem endPending_removes (s : State) : OnlyRemoves s (endPending s) :=
  .ite (fun pending => enterVacant_removes (by rw [pending]; nofun) (by rw [pending]; nofun)) fun _ => .refl s

theorem noticeJobGone_removes (text : List Byte) (s : State) : OnlyRemoves s (noticeJobGone text s) :=
  raiseNotice_removes _ _ _ s

theorem jobGoesElsewhere_removes (id : OfferId) (s : State) : OnlyRemoves s (jobGoesElsewhere id s) := by
  unfold jobGoesElsewhere
  split
  · rename_i assigned
    have duty : (clearJob s).dtc.duty = .assigned := (clearJob_duty s).trans assigned
    unfold giveUpJob
    split
    · refine .ite (fun _ => (noticeJobGone_removes _ _).comp ((enterVacant_removes ?_ ?_).comp .same)) fun _ => .refl s
      · rw [duty]
        nofun
      · rw [duty]
        nofun
    · exact .refl s
  · exact .same rfl rfl
  · exact .same rfl rfl
  all_goals exact .refl s

/-! ## The contest (R90, R93, R99 to R101) -/

theorem yield_removes (e : OfferEntry) (s : State) : OnlyRemoves s (yield e s) := by
  unfold yield
  split
  · exact .same rfl rfl
  · split
    · exact (removeFrame_removes _ _ _).comp (.same rfl rfl)
    · exact .same rfl rfl
    · exact .same rfl rfl
  all_goals exact .refl s

theorem yieldIfBetter_removes (id : OfferId) (s : State) : OnlyRemoves s (yieldIfBetter id s) := by
  unfold yieldIfBetter
  split
  · exact .ite (fun _ => yield_removes _ s) fun _ => .refl s
  · exact .refl s

theorem hearBidFrame_removes (source : Station) (p : BidPayload) (s : State) : OnlyRemoves s (hearBidFrame source p s) := by
  unfold hearBidFrame
  split
  · have returns (old : List HeardBid) (u : State) : OnlyRemoves u (returnIfClear old p.id u) := .same
    exact .ite (fun _ => .refl s) fun _ => (returns _ _).comp ((yieldIfBetter_removes _ _).comp (.same rfl rfl))
  · exact .refl s

theorem hearTake_removes (source : Station) (p : BidPayload) (s : State) : OnlyRemoves s (hearTake source p s) := by
  have heard : OnlyRemoves s (updHeard p.id (hearBid true (p.rank source)) s) := .same rfl rfl
  unfold hearTake
  split
  · refine .ite (fun _ => .refl s) fun _ => ?_
    dsimp only
    split
    case h_4 =>
      split
      · exact .ite (fun _ => heard.trans ((noticeJobGone_removes _ _).comp ((endPending_removes _).comp .same)))
          fun _ => heard
      · exact heard
    case h_1 | h_2 | h_3 => exact heard.trans (yieldIfBetter_removes _ _)
    all_goals exact heard
  · exact .refl s

theorem closeOffer_removes (e : OfferEntry) (s : State) : OnlyRemoves s (closeOffer e s) := by
  have finishes (u : State) : OnlyRemoves u (finishOffer e.id .closed u) := .same
  unfold closeOffer
  split
  case h_1 => exact (noticeJobGone_removes _ _).comp ((endPending_removes _).comp (finishes s))
  case h_2 | h_3 | h_4 =>
    exact (finishes _).comp (.ite (fun _ => (removeFrame_removes _ _ _).comp (.same rfl rfl)) fun _ => .refl s)
  case h_5 | h_6 | h_7 => exact finishes s
  all_goals exact .refl s

theorem hearConfirm_removes (source : Station) (p : ConfirmPayload) (s : State) :
    OnlyRemoves s (hearConfirm source p s) := by
  have confirms (id : OfferId) (u : State) : OnlyRemoves u (confirmJob id u) := .same rfl rfl
  unfold hearConfirm
  dsimp only
  split
  · refine .ite (fun _ => ?_) fun _ => .ite (fun _ => .refl s) fun _ => closeOffer_removes _ s
    exact .ite (fun _ => (confirms _ _).comp (.same rfl rfl)) fun _ => (jobGoesElsewhere_removes _ _).comp .same
  · exact .ite (fun _ => .ite (fun _ => confirms _ s) fun _ => jobGoesElsewhere_removes _ s) fun _ => .refl s

/-! ## The alarms (R80, R190, R191) -/

theorem dropAlarm_removes (origin : Station) (s : State) : OnlyRemoves s (dropAlarm origin s) := by
  unfold dropAlarm dropAlarmNotice
  split
  · exact (removeMsg_removes _ _).comp (.same rfl rfl)
  · exact .same rfl rfl

theorem emuAlarm_removes (p : AlarmPayload) (s : State) : OnlyRemoves s (emuAlarm p s) := by
  have room : OnlyRemoves s (roomForAlarm s) := by
    refine .ite (fun _ => .refl s) fun _ => ?_
    split
    · exact dropAlarm_removes _ s
    · exact .refl s
  unfold emuAlarm
  refine .ite (fun _ => ?_) fun _ => .refl s
  split
  · exact .same rfl rfl
  · have listed : OnlyRemoves s (withOrigin p s) := room.trans (.same rfl rfl)
    have near (d : Option Nat) (u : State) : OnlyRemoves u (noticeAlarmNear p.origin d u) := raiseNotice_removes _ _ _ u
    rw [newAlarm_eq]
    exact (listed.trans (near (alarmDistance p (withOrigin p s)) _)).trans .same

theorem emuAlarmClear_removes (p : AlarmPayload) (s : State) : OnlyRemoves s (emuAlarmClear p s) := by
  unfold emuAlarmClear
  refine .ite (fun _ => ?_) fun _ => .refl s
  split
  · exact .ite (fun _ => dropAlarm_removes _ s) fun _ => .refl s
  · exact .refl s

theorem cancelRelay_removes (k : RelayKey) (s : State) : OnlyRemoves s (cancelRelay k s) := by
  unfold cancelRelay
  split
  · split
    · exact .same rfl rfl
    · have removed : OnlyRemoves s (relayFrame k s) := removeFrame_removes _ _ s
      exact removed.trans (.same rfl rfl)
    · exact .refl s
  · exact .refl s

theorem relaySeen_removes (dest : Station) (serial : Serial) (s : State) : OnlyRemoves s (relaySeen dest serial s) :=
  .ite (fun _ => .refl s) fun _ => ((cancelRelay_removes ⟨dest, .alarm, serial⟩ s).trans (cancelRelay_removes ⟨dest, .clear, serial⟩ _)).trans .same

/-! ## A looped frame at its owner (R42) -/

theorem deliverTariff_removes (p : TariffPayload) (s : State) : OnlyRemoves s (deliverTariff p s) := by
  obtain ⟨_, _, staged⟩ := deliverTariff_stagedOnly p s
  rw [staged]
  exact .same rfl rfl

/-- No frame waits for an ACK, so an ACK at its owner ends no wait. -/
def AwaitsNoAck (s : State) : Prop := ∀ r, s.cau.inService = some r → r.phase ≠ .ackWait

theorem hearAck_unawaited {s : State} (free : AwaitsNoAck s) (source : Station) (p : AckPayload) :
    hearAck source p s = s := by
  unfold hearAck
  split
  · rename_i r e service _
    have no : ackMatches source p r e = false := by simp [ackMatches, free r service]
    rw [no]
    rfl
  · rfl

/-- A looped frame moves the alarm's relays at most, and of the queue it removes frames at most. -/
theorem deliverLooped_leaves {kind : FrameKind} {f : AirFrame} {s : State} (free : AwaitsNoAck s) :
    OnlyRemoves s (deliverLooped kind f s) ∧ (kind ≠ .alarmSeen → (deliverLooped kind f s).nbt = s.nbt) := by
  have direct (k : FrameKind) (alarm : k ≠ .alarm) (clear : k ≠ .alarmClear) :
      OnlyRemoves s (deliver k f s) ∧ (k ≠ .alarmSeen → (deliver k f s).nbt = s.nbt) := by
    cases k <;> unfold deliver <;> dsimp only
    case beacon | fare => exact ⟨.refl s, fun _ => rfl⟩
    case offer => split <;> [exact ⟨.same, fun _ => by simp⟩; exact ⟨.refl s, fun _ => rfl⟩]
    case bid => split <;> [exact ⟨hearBidFrame_removes _ _ s, fun _ => by simp⟩; exact ⟨.refl s, fun _ => rfl⟩]
    case withdraw => split <;> [exact ⟨.same, fun _ => by simp⟩; exact ⟨.refl s, fun _ => rfl⟩]
    case take => split <;> [exact ⟨hearTake_removes _ _ s, fun _ => by simp⟩; exact ⟨.refl s, fun _ => rfl⟩]
    case release => split <;> [exact ⟨.same, fun _ => by simp⟩; exact ⟨.refl s, fun _ => rfl⟩]
    case confirm => split <;> [exact ⟨hearConfirm_removes _ _ s, fun _ => by simp⟩; exact ⟨.refl s, fun _ => rfl⟩]
    case msg => split <;> [exact ⟨deliverMsg_removes _ _ _ s, fun _ => by simp⟩; exact ⟨.refl s, fun _ => rfl⟩]
    case ack =>
      split
      · rw [hearAck_unawaited free, ite_self]
        exact ⟨.refl s, fun _ => rfl⟩
      · exact ⟨.refl s, fun _ => rfl⟩
    case tariff => split <;> [exact ⟨deliverTariff_removes _ s, fun _ => by simp⟩; exact ⟨.refl s, fun _ => rfl⟩]
    case alarm => exact absurd rfl alarm
    case alarmClear => exact absurd rfl clear
    case alarmSeen =>
      split
      · rename_i n _
        exact ⟨(relaySeen_removes f.header.dest n s).trans .same, fun seen => absurd rfl seen⟩
      · exact ⟨.refl s, fun _ => rfl⟩
  unfold deliverLooped
  split
  · exact ⟨emuAlarm_removes _ s, fun _ => by simp⟩
  · exact ⟨emuAlarmClear_removes _ s, fun _ => by simp⟩
  · exact ⟨.refl s, fun _ => rfl⟩
  · exact ⟨.refl s, fun _ => rfl⟩
  · rename_i parsedAlarm parsedClear unparsedAlarm unparsedClear
    split
    · refine direct _ (fun is => ?_) fun is => ?_
      · cases parse : parseAlarm f.payload with
        | none => exact unparsedAlarm is parse
        | some p => exact parsedAlarm p is parse
      · cases parse : parseAlarm f.payload with
        | none => exact unparsedClear is parse
        | some p => exact parsedClear p is parse
    · exact ⟨.refl s, fun _ => rfl⟩

end Sys2Proof.Machine
end

section
/-! PROOFS. The last bit of a frame, and a looped frame (R29, R42, R46, R58, R60, R62, R64). -/

namespace Sys2Proof.Machine

open Sys2Proof

-- The kernel's checks run one after another: side by side they ask for more threads than there is room for.
set_option Elab.async false

/-! ## What a frame that leaves service leaves -/

/-- The alarm list, the neighbours, the duplicate keys and the beacon timer are as they were, and no relay is new. -/
structure KeepsLists (s t : State) : Prop where
  alarms : t.emu.alarms = s.emu.alarms
  neighbours : t.nbt.neighbours = s.nbt.neighbours
  dups : t.nbt.dups = s.nbt.dups
  relays : t.nbt.relays.Sublist s.nbt.relays
  beacon : t.cau.beaconCount = s.cau.beaconCount ∧ t.cau.beaconLoaded = s.cau.beaconLoaded

theorem KeepsLists.refl (s : State) : KeepsLists s s := ⟨rfl, rfl, rfl, .refl _, rfl, rfl⟩

theorem KeepsLists.trans {a b c : State} (h : KeepsLists a b) (k : KeepsLists b c) : KeepsLists a c :=
  ⟨k.alarms.trans h.alarms, k.neighbours.trans h.neighbours, k.dups.trans h.dups, k.relays.trans h.relays,
    k.beacon.1.trans h.beacon.1, k.beacon.2.trans h.beacon.2⟩

theorem Asked.keepsLists {s t : State} (asked : Asked s t) : KeepsLists s t := by
  have emu := asked.emu
  have nbt := asked.nbt
  have cau := asked.cau
  refine ⟨?_, ?_, ?_, asked.relays, ?_, ?_⟩
  · rw [emu]
  · rw [nbt]
  · rw [nbt]
  · rw [cau]
  · rw [cau]

theorem returnToIdle_keepsLists (s : State) : KeepsLists s (returnToIdle s) := by
  let u : State := setMask 4 (updEmu Emu.idled s)
  let v : State := removeFrame .alarmClear .ownAlarm (removeFrame .alarm .ownAlarm u)
  have idled : KeepsLists s u := ⟨rfl, rfl, rfl, .refl _, rfl, rfl⟩
  have removed : KeepsLists s v := idled.trans ((removeFrame_asked _ _ u).trans (removeFrame_asked _ _ _)).keepsLists
  have armed (w : State) : KeepsLists w (startArming w) := ⟨rfl, rfl, rfl, .refl _, rfl, rfl⟩
  show KeepsLists s (if v.lines.alarmPressed then startArming v else v)
  split
  · exact removed.trans (armed v)
  · exact removed

theorem clearSent_keepsLists (s : State) : KeepsLists s (clearSent s) := by
  have counted (f : Emu → Emu) (alarms : ∀ e, (f e).alarms = e.alarms) : KeepsLists s (updEmu f s) :=
    ⟨alarms _, rfl, rfl, .refl _, rfl, rfl⟩
  unfold clearSent
  split
  · dsimp only
    split
    · exact counted _ fun _ => rfl
    · exact (counted _ (by intro _; rfl)).trans (returnToIdle_keepsLists _)
  · exact .refl s

theorem fareDelivered_keepsLists (n : Nat) (s : State) : KeepsLists s (fareDelivered n s) := by
  unfold fareDelivered
  split
  · exact KeepsLists.trans (b := s.setReport n .reported) ⟨rfl, rfl, rfl, .refl _, rfl, rfl⟩ (reportTest_asked _).keepsLists
  · exact .refl s

theorem told_keepsLists (o : Outcome) (q : Request) (s : State) : KeepsLists s (told o q s) := by
  have reply (n : Nat) (r : ReplyState) : KeepsLists s (replyNotice n r s) := ⟨rfl, rfl, rfl, .refl _, rfl, rfl⟩
  cases o with
  | sent =>
    show KeepsLists s (toldSent q s)
    unfold toldSent
    split
    · split
      · exact clearSent_keepsLists s
      · exact .refl s
    · exact ⟨rfl, rfl, rfl, List.filter_sublist, rfl, rfl⟩
    all_goals exact .refl s
  | delivered =>
    show KeepsLists s (toldDelivered q s)
    unfold toldDelivered
    split
    · exact reply _ _
    · exact fareDelivered_keepsLists _ s
    all_goals exact .refl s
  | failed =>
    show KeepsLists s (toldFailed q s)
    unfold toldFailed
    split
    · exact reply _ _
    · exact (fareLost_asked _ s).keepsLists
    all_goals exact .refl s

theorem leaveService_keepsLists (o : Outcome) (e : QueueEntry) (s : State) : KeepsLists s (leaveService o e s) := by
  have told : KeepsLists s (told o e.req (dequeue e.number (endService s))) :=
    KeepsLists.trans (b := dequeue e.number (endService s)) ⟨rfl, rfl, rfl, .refl _, rfl, rfl⟩ (told_keepsLists o e.req _)
  unfold leaveService
  dsimp only
  split
  · exact told.trans (admitHeld_asked _).keepsLists
  · exact told

/-- A contest frame or a BEACON that leaves tells no record. -/
theorem leaveService_silent (o : Outcome) {e : QueueEntry} (s : State) (silent : e.req.tag = .beacon ∨ ∃ id, e.req.tag = .offer id) :
    leaveService o e s = dequeue e.number (endService s) := by
  rcases silent with tag | ⟨id, tag⟩
  all_goals
    rw [leaveService_other o s (by rw [tag]; nofun)]
    cases o <;> simp [told, toldSent, toldDelivered, toldFailed, tag]

/-- A relay's record is freed at its end (R81). -/
theorem leaveService_relay {e : QueueEntry} (s : State) {k : RelayKey} (tag : e.req.tag = .relay k.origin k.serial)
    (kind : e.req.kind = alarmFrameKind k.kind) :
    leaveService .sent e s = (dequeue e.number (endService s)).freeRelay k := by
  rw [leaveService_other .sent s (by rw [tag]; nofun)]
  show toldSent e.req _ = _
  simp only [toldSent, tag]
  rw [relayKey_eq kind]

/-- A held own request enters a queue with room and no other own frame (R46). -/
theorem admitHeld_admits {s : State} {kind : FrameKind} (own : kind = .alarm ∨ kind = .alarmClear)
    (held : s.cau.held = some (ownAlarmRequest kind)) (short : s.cau.queue.length < 16)
    (none_ : ∀ x ∈ s.cau.queue, isOwnAlarm x.req = false) :
    admitHeld s = admitEntry (ownAlarmRequest kind) { s with cau := { s.cau with held := none } } := by
  have placed : requestFrame (ownAlarmRequest kind) { s with cau := { s.cau with held := none } } =
      (admitEntry (ownAlarmRequest kind) { s with cau := { s.cau with held := none } }, .queued) :=
    (requestOwn_places own (s := { s with cau := { s.cau with held := none } }) none_).trans (placeRequest_room _ short)
  unfold admitHeld
  rw [held]
  dsimp only
  rw [placed]
  rfl

/-- An own ALARM sent lets the own request held behind it into the queue. -/
theorem leaveService_admits {e : QueueEntry} {s : State} {kind : FrameKind} (own : kind = .alarm ∨ kind = .alarmClear)
    (tag : e.req.tag = .ownAlarm) (alarm : e.req.kind = .alarm) (mem : e ∈ s.cau.queue)
    (held : s.cau.held = some (ownAlarmRequest kind)) (full : s.cau.queue.length ≤ 16)
    (none_ : ∀ x ∈ s.cau.queue, x.number ≠ e.number → isOwnAlarm x.req = false) :
    (leaveService .sent e s).cau.held = none ∧
      ∃ x ∈ (leaveService .sent e s).cau.queue, x.req = ownAlarmRequest kind ∧ x.enqueued = s.now := by
  let u : State := dequeue e.number (endService s)
  have isOwn : isOwnAlarm e.req = true := by simp [isOwnAlarm, tag, alarm]
  have sent : told .sent e.req u = u := by simp [told, toldSent, tag, alarm]
  have left : leaveService .sent e s = admitHeld u := by
    unfold leaveService
    dsimp only
    rw [if_pos isOwn]
    exact congrArg admitHeld sent
  have short : u.cau.queue.length < 16 := by
    have fewer : (s.cau.queue.filter (·.number ≠ e.number)).length < s.cau.queue.length :=
      List.length_filter_lt_length_iff_exists.mpr ⟨e, mem, by simp⟩
    exact fewer.trans_le full
  have noOwn : ∀ x ∈ u.cau.queue, isOwnAlarm x.req = false := by
    intro x hx
    obtain ⟨inQueue, other⟩ := List.mem_filter.mp hx
    exact none_ x inQueue (by simpa using other)
  rw [left, admitHeld_admits (s := u) own held short noOwn]
  exact ⟨rfl, _, admitted_mem _ _, rfl, rfl⟩

/-! ## The level of TXD (R24) -/

theorem txd_idle {s : State} (idle : s.txKey = false ∨ s.fre.onAir = none) : s.txd = true := by
  unfold State.txd
  rcases idle with released | quiet
  · rw [released]
    rfl
  · rw [quiet]
    exact ite_self _

/-- With no frame in service and no ACK of its own the 4120 does not key. -/
theorem txKey_none {s : State} (ack : s.fre.ackTx = none) (service : s.cau.inService = none) : s.txKey = false := by
  simp [State.txKey, ack, service]

/-! ## The tests of a looped frame (R42) -/

theorem loopedFrameEnd_run {r : InService} {e : QueueEntry} {x : TxFrame} {s : State} (runs : s.running = true)
    (service : s.cau.inService = some r) (entry : s.serviceEntry = some e) (onAir : s.fre.onAir = some x)
    (phase : r.phase = .sending) (looped : s.stc.loopback = true) :
    exec .loopedFrameEnd s = .next (finish (endLooped e x (s.reach (r.since + airtimeNow s)))) := by
  refine congrArg _ ((whenRunning_of_running _ runs).trans (congrArg finish ?_))
  simp only [service, entry, onAir]
  exact if_pos (by simp [phase, looped])

/-- The frame counted as a good one. -/
def loopedCounted (s : State) : State := countGood { s with fre := { s.fre with onAir := none } }

/-- What meets the outcome of a looped frame. -/
def loopedTaken (x : TxFrame) (s : State) : State := reloadBeacon (takeLooped x { s with fre := { s.fre with onAir := none } })

theorem endLooped_eq (e : QueueEntry) (x : TxFrame) (s : State) :
    endLooped e x s = leaveService (if e.req.ackReq then .delivered else .sent) e (loopedTaken x s) := rfl

section
variable {x : TxFrame} {s : State}

/-- A frame that its owner leaves alone. -/
theorem loopedTaken_quiet (quiet : deliverLooped x.kind x.frame (loopedCounted s) = loopedCounted s) :
    loopedTaken x s = reloadBeacon (loopedCounted s) := by
  unfold loopedTaken takeLooped
  dsimp only
  rw [show countGood { s with fre := { s.fre with onAir := none } } = loopedCounted s from rfl, quiet, ite_self]

theorem loopedTaken_accepted (wellFormed : payloadWellFormed x.kind x.frame.payload = true)
    (accepted : sourceAccepted x.kind x.frame.header.source = true) :
    loopedTaken x s = reloadBeacon (deliverLooped x.kind x.frame (loopedCounted s)) := by
  unfold loopedTaken takeLooped
  dsimp only
  rw [if_pos (by simp [wellFormed, accepted])]
  rfl

theorem loopedTaken_leaves (free : AwaitsNoAck s) :
    OnlyRemoves s (takeLooped x { s with fre := { s.fre with onAir := none } }) ∧
      (x.kind ≠ .alarmSeen → (loopedTaken x s).nbt = s.nbt) := by
  have counted : OnlyRemoves s (loopedCounted s) := .same rfl rfl
  obtain ⟨removes, nbt⟩ := deliverLooped_leaves (kind := x.kind) (f := x.frame) (s := loopedCounted s) free
  unfold loopedTaken takeLooped
  dsimp only
  split
  · exact ⟨counted.trans removes, fun other => nbt other⟩
  · exact ⟨counted, fun _ => rfl⟩

theorem loopedTaken_fre (x : TxFrame) (s : State) : (loopedTaken x s).fre = { s.fre with
    onAir := none
    counters := { s.fre.counters with good := if 9999 ≤ s.fre.counters.good then 0 else s.fre.counters.good + 1 } } := by
  have taken : (loopedTaken x s).fre = (loopedCounted s).fre := by
    show (takeLooped x { s with fre := { s.fre with onAir := none } }).fre = _
    unfold takeLooped
    dsimp only
    split
    · exact (deliverLooped_frame _ _ _).2.1
    · rfl
  rw [taken]
  rfl

/-- An own frame of the contest is no bid of another (R90). -/
theorem deliverLooped_ownContest {kind : FrameKind} {f : AirFrame} {u : State}
    (contest : kind ∈ [FrameKind.bid, .withdraw, .take, .release]) (own : f.header.source = u.own) :
    deliverLooped kind f u = u := by
  have bid (p : BidPayload) : hearBidFrame f.header.source p u = u := by
    unfold hearBidFrame
    split
    · exact if_pos (by simp [own])
    · rfl
  have withdraw (id : OfferId) : hearWithdraw f.header.source id u = u := by
    unfold hearWithdraw
    split
    · exact if_pos (by simp [own])
    · rfl
  have take (p : BidPayload) : hearTake f.header.source p u = u := by
    unfold hearTake
    split
    · exact if_pos own
    · rfl
  have release (id : OfferId) : hearRelease f.header.source id u = u := by
    unfold hearRelease
    split
    · exact if_pos own
    · rfl
  have delivers : deliver kind f u = u := by
    simp only [List.mem_cons, List.not_mem_nil, or_false] at contest
    rcases contest with rfl | rfl | rfl | rfl
    · unfold deliver
      dsimp only
      split
      · exact bid _
      · rfl
    · unfold deliver
      dsimp only
      split
      · exact withdraw _
      · rfl
    · unfold deliver
      dsimp only
      split
      · exact take _
      · rfl
    · unfold deliver
      dsimp only
      split
      · exact release _
      · rfl
  unfold deliverLooped
  split
  · simp at contest
  · simp at contest
  · rfl
  · rfl
  · rw [delivers, ite_self]

/-- A frame addressed to another station reaches no owner but the EMU. -/
theorem deliverLooped_elsewhere {kind : FrameKind} {f : AirFrame} {u : State} (alarm : kind ≠ .alarm)
    (clear : kind ≠ .alarmClear) (away : f.header.dest ≠ 0 ∧ f.header.dest ≠ u.own ∨ kind = .fare ∨ kind = .beacon) :
    deliverLooped kind f u = u := by
  unfold deliverLooped
  split
  · exact absurd rfl alarm
  · exact absurd rfl clear
  · rfl
  · rfl
  · rcases away with ⟨notAll, notOwn⟩ | rfl | rfl
    · exact if_neg (by simp [notAll, notOwn])
    · exact ite_self _
    · exact ite_self _

theorem deliverLooped_alarm {f : AirFrame} {p : AlarmPayload} (u : State) (parses : parseAlarm f.payload = some p) :
    deliverLooped .alarm f u = emuAlarm p u := by
  simp only [deliverLooped, parses]

theorem deliverLooped_clear {f : AirFrame} {p : AlarmPayload} (u : State) (parses : parseAlarm f.payload = some p) :
    deliverLooped .alarmClear f u = emuAlarmClear p u := by
  simp only [deliverLooped, parses]

end

end Sys2Proof.Machine
end

section
/-! PROOFS. The channel released at the last bit (R24, R29, R38, R42, R46, R58, R60, R62, R64, R81). -/

namespace Sys2Proof.Machine

open Sys2Proof

-- The kernel's checks run one after another: side by side they ask for more threads than there is room for.
set_option Elab.async false

/-! ## The last bit of a queued frame -/

theorem endSending_waits {r : InService} {e : QueueEntry} {s : State} (asks : e.req.ackReq = true) :
    endSending r e s = { released s with cau := { (released s).cau with
      inService := some { r with phase := .ackWait, since := s.now, endTime := some s.now } } } := by
  simp [endSending, asks, released, resumeReceive, reloadBeacon]

/-- What every last bit leaves, whatever the frame's outcome. -/
theorem endSending_releases (r : InService) (e : QueueEntry) (s : State) :
    (endSending r e s).fre = { s.fre with onAir := none, rx := .hunt, window := 0, gathering := none } ∧
      (endSending r e s).cau.beaconCount = beaconReload s ∧ (endSending r e s).cau.beaconLoaded = true := by
  cases asks : e.req.ackReq with
  | true =>
    rw [endSending_waits asks]
    exact ⟨rfl, rfl, rfl⟩
  | false =>
    rw [endSending_leaves asks]
    obtain ⟨count, loaded⟩ := (leaveService_keepsLists .sent e (released s)).beacon
    exact ⟨(leaveService_frame _ _ _).2.2.2.1, count, loaded⟩

theorem transmissionEnd_releases {r : InService} {e : QueueEntry} {s : State} (runs : s.running = true)
    (noAck : s.fre.ackTx = none) (service : s.cau.inService = some r) (entry : s.serviceEntry = some e)
    (phase : r.phase = .sending) (outside : s.stc.loopback = false) (below : e.number < s.cau.nextEntry) :
    ∃ t, exec .transmissionEnd s = .next t ∧ t.now = max s.now (r.since + airtimeNow s) ∧
      t.fre = { s.fre with onAir := none, rx := .hunt, window := 0, gathering := none } ∧
      t.txKey = false ∧ t.txd = true ∧ t.cau.beaconCount = beaconReload s ∧ t.cau.beaconLoaded = true ∧
      (e.req.ackReq = true →
        t.cau.inService = some { r with phase := .ackWait, since := t.now, endTime := some t.now } ∧
        t.cau.queue = s.cau.queue) ∧
      (e.req.ackReq = false →
        t.cau.inService = none ∧ ReturnedToDefer t ∧ (∀ q ∈ t.cau.queue, q.number ≠ e.number) ∧
        (∀ k, e.req.tag = .relay k.origin k.serial → e.req.kind = alarmFrameKind k.kind →
          t.nbt = { s.nbt with relays := s.nbt.relays.filter (·.key ≠ k) } ∧ t.emu = s.emu) ∧
        (∀ id, e.req.tag = .offer id → t.ocu = s.ocu) ∧
        (e.req.tag = .beacon →
          t.ocu = s.ocu ∧ t.mst = s.mst ∧ t.nbt = s.nbt ∧ t.tlu = s.tlu ∧ t.emu = s.emu) ∧
        (∀ q kind, e.req.tag = .ownAlarm → e.req.kind = .alarm → s.cau.held = some q →
          kind ∈ [FrameKind.alarm, .alarmClear] → q = ⟨kind, 0, 0, false, 0, .ownAlarm⟩ →
          s.cau.queue.length ≤ 16 →
          (∀ x ∈ s.cau.queue, x.number ≠ e.number → isOwnAlarm x.req = false) →
          t.cau.held = none ∧ ∃ x ∈ t.cau.queue, x.req = q ∧ x.enqueued = t.now)) ∧
      t.dtc = s.dtc ∧ t.fmr = s.fmr ∧ t.lines = s.lines := by
  have run := transmissionEnd_run runs noAck service entry phase outside
  let u : State := s.reach (r.since + airtimeNow s)
  let t : State := finish (endSending r e u)
  obtain ⟨fre, count, loaded⟩ := endSending_releases r e u
  have now : t.now = max s.now (r.since + airtimeNow s) := by simp [t, u, State.reach]
  have freT : t.fre = { s.fre with onAir := none, rx := .hunt, window := 0, gathering := none } := by
    simp only [t, finish_frame]
    exact fre
  have ackT : t.fre.ackTx = none := by
    rw [freT]
    exact noAck
  have waits : e.req.ackReq = true →
      t.cau.inService = some { r with phase := .ackWait, since := t.now, endTime := some t.now } ∧
      t.cau.queue = s.cau.queue := by
    intro asks
    have ends := endSending_waits (r := r) (s := u) asks
    have service : (endSending r e u).cau.inService =
        some { r with phase := .ackWait, since := u.now, endTime := some u.now } := by rw [ends]
    have queue : (endSending r e u).cau.queue = s.cau.queue := by
      rw [ends]
      rfl
    have nowU : t.now = u.now := now
    refine ⟨?_, ?_⟩
    · rw [nowU]
      simpa [t] using service
    · simpa [t] using queue
  have leaves : e.req.ackReq = false → t = finish (leaveService .sent e (released u)) := fun no =>
    congrArg finish (endSending_leaves no)
  have keyed : t.txKey = false := by
    cases asks : e.req.ackReq with
    | true => simp [State.txKey, ackT, (waits asks).1]
    | false =>
      refine txKey_none ackT ?_
      rw [leaves asks]
      exact (leaveService_returned .sent e (released u)).1
  refine ⟨t, run, now, freT, keyed, txd_idle (.inl keyed), ?_, ?_, waits, fun no => ?left, ?_, ?_, ?_⟩
  · have same : beaconReload u = beaconReload s := rfl
    rw [← same]
    simpa [t] using count
  · simpa [t] using loaded
  · rw [leaves no] at now ⊢
    obtain ⟨none_, returned⟩ := leaveService_returned .sent e (released u)
    refine ⟨none_, returned, ?_, fun k tag kind => ?_, fun id tag => ?_, fun tag => ?_,
      fun q kind tag alarm held own is full others => ?_⟩
    · have gone := leaveService_gone .sent (e := e) (s := released u) below
      simpa using gone
    · rw [leaveService_relay (released u) tag kind]
      simp only [finish_frame]
      exact ⟨rfl, rfl⟩
    · rw [leaveService_silent .sent (released u) (.inr ⟨id, tag⟩)]
      simp only [finish_frame]
      rfl
    · rw [leaveService_silent .sent (released u) (.inl tag)]
      simp only [finish_frame]
      exact ⟨rfl, rfl, rfl, rfl, rfl⟩
    · subst is
      simp only [List.mem_cons, List.not_mem_nil, or_false] at own
      obtain ⟨none_, x, mem, req, enqueued⟩ := leaveService_admits (s := released u) own tag alarm
        (serviceEntry_number service entry).1 held full others
      rw [now]
      exact ⟨by simpa using none_, x, by simpa using mem, req, enqueued⟩
  · simp only [t, finish_frame]
    cases asks : e.req.ackReq with
    | true =>
      rw [endSending_waits asks]
      rfl
    | false =>
      rw [endSending_leaves asks]
      exact (leaveService_frame _ _ _).2.2.1
  · simp [t, u, State.reach]
  · simp [t, u, State.reach]

/-! ## The last bit of an ACK (R38) -/

theorem transmissionEnd_ack {a : AckTx} {s : State} (runs : s.running = true) (acks : s.fre.ackTx = some a)
    (sent : a.sent = true) :
    exec .transmissionEnd s = .next (finish (endAck (s.reach (a.since + airtimeNow s)))) := by
  refine congrArg _ ((whenRunning_of_running _ runs).trans (congrArg finish ?_))
  simp only [lastBit, acks]
  exact if_pos sent

/-! ## A looped frame (R42) -/

section
variable {e : QueueEntry} {x : TxFrame} {s t : State}

/-- The end of a looped frame, from its owner's act. -/
theorem loopedAtOwner_of_leaves {o : Outcome} (outcome : o = if e.req.ackReq then .delivered else .sent)
    (free : AwaitsNoAck s) (is : t = finish (leaveService o e (loopedTaken x s))) : LoopedAtOwner e x s t := by
  have kept := leaveService_keepsLists o e (loopedTaken x s)
  have nbtTaken := (loopedTaken_leaves (x := x) free).2
  have alarmsT : t.emu.alarms = (loopedTaken x s).emu.alarms := by
    rw [is]
    simpa using kept.alarms
  have now : t.now = s.now := by
    rw [is]
    simp [loopedTaken, reloadBeacon]
  have ownT : (loopedCounted s).own = s.own := rfl
  have counted (p : AlarmPayload) : (loopedCounted s).alarmEntry p.origin = s.alarmEntry p.origin := rfl
  refine ⟨fun notSeen => ?tables, fun p kind parses accepted cab other => ?alarm,
    fun p a kind parses accepted cab other found => ?clear, fun p kind parses own => ?ownAlarm,
    fun id tag contest own => ?contest, fun n m y tag asks kind notAll notOwn mem number reply waits => ?reply,
    fun n tag asks kind flies => ?fare, fun k tag kind noAck contest => ?relay, fun kind tag => ?beacon⟩
  case tables =>
    have nbt := nbtTaken notSeen
    refine ⟨?_, ?_, ?_, fun r mem => ?_⟩
    · rw [is, ← nbt]
      simpa using kept.neighbours
    · rw [is, ← nbt]
      simpa using kept.dups
    · rw [is]
      simp [loopedTaken_fre]
    · rw [← nbt]
      refine kept.relays.subset ?_
      rw [is] at mem
      simpa using mem
  case alarm =>
    have wellFormed : payloadWellFormed x.kind x.frame.payload = true := by
      rw [kind]
      simp [payloadWellFormed, parses]
    have listed : listedOrigin p.origin (loopedCounted s) = true := listedOrigin_iff.mpr ⟨cab, other⟩
    have taken : (loopedTaken x s).emu = (emuAlarm p (loopedCounted s)).emu := by
      rw [loopedTaken_accepted wellFormed (by rw [kind, accepted]), kind, deliverLooped_alarm _ parses]
      rfl
    rw [alarmsT, taken, now]
    refine ⟨fun absent => ?_, fun a found => ?_⟩
    · rw [emuAlarm_new listed ((counted p).trans absent)]
      exact newAlarm_mem p (loopedCounted s)
    · rw [emuAlarm_known listed ((counted p).trans found)]
      exact refreshAlarm_mem a p (loopedCounted s)
  case clear =>
    have wellFormed : payloadWellFormed x.kind x.frame.payload = true := by
      rw [kind]
      simp [payloadWellFormed, parses]
    have listed : listedOrigin p.origin (loopedCounted s) = true := listedOrigin_iff.mpr ⟨cab, other⟩
    have taken : (loopedTaken x s).emu = (emuAlarmClear p (loopedCounted s)).emu := by
      rw [loopedTaken_accepted wellFormed (by rw [kind, accepted]), kind, deliverLooped_clear _ parses]
      rfl
    rw [alarmsT, taken]
    cases newer : newerSerial p.serial a.lastSerial with
    | true =>
      rw [emuAlarmClear_newer listed ((counted p).trans found) newer, dropAlarm_alarms]
      rfl
    | false =>
      rw [emuAlarmClear_older ((counted p).trans found) newer]
      rfl
  case ownAlarm =>
    have unlisted : listedOrigin p.origin (loopedCounted s) = false := by
      rw [Bool.eq_false_iff]
      exact fun listed => (listedOrigin_iff.mp listed).2 own
    have quiet : deliverLooped x.kind x.frame (loopedCounted s) = loopedCounted s := by
      rcases kind with kind | kind
      · rw [kind, deliverLooped_alarm _ parses, emuAlarm_unlisted unlisted]
      · rw [kind, deliverLooped_clear _ parses, emuAlarmClear_unlisted unlisted]
    rw [alarmsT, loopedTaken_quiet quiet]
    rfl
  case contest =>
    have quiet := deliverLooped_ownContest (u := loopedCounted s) contest own
    rw [is, loopedTaken_quiet quiet, leaveService_silent o _ (.inr ⟨id, tag⟩)]
    simp only [finish_frame]
    exact ⟨rfl, rfl, rfl⟩
  case reply =>
    have quiet := deliverLooped_elsewhere (u := loopedCounted s) (f := x.frame) (kind := x.kind) (by rw [kind]; nofun)
      (by rw [kind]; nofun) (.inl ⟨notAll, notOwn⟩)
    have delivered : ∀ u, told o e.req u = replyNotice n .delivered u := fun u => by
      simp [outcome, asks, told, toldDelivered, tag]
    have becomes := leaveService_reply (s := loopedTaken x s) delivered tag
      (by rw [loopedTaken_quiet quiet]; exact mem) number reply waits
    rw [is]
    simpa using becomes
  case fare =>
    have quiet := deliverLooped_elsewhere (u := loopedCounted s) (f := x.frame) (kind := x.kind) (by rw [kind]; nofun)
      (by rw [kind]; nofun) (.inr (.inl kind))
    have delivered : o = .delivered := by rw [outcome, asks]; rfl
    have reported := leaveService_delivered_fare (s := loopedTaken x s) tag (by rw [loopedTaken_quiet quiet]; exact flies)
    rw [is, delivered]
    simpa using reported
  case relay =>
    have sent : o = .sent := by rw [outcome, noAck]; rfl
    have notSeen : x.kind ≠ .alarmSeen := by
      intro seen
      simp [seen] at contest
    rw [is, sent, leaveService_relay _ tag kind, ← nbtTaken notSeen]
    simp only [finish_frame]
    rfl
  case beacon =>
    have quiet := deliverLooped_elsewhere (u := loopedCounted s) (f := x.frame) (kind := x.kind) (by rw [kind]; nofun)
      (by rw [kind]; nofun) (.inr (.inr kind))
    rw [is, loopedTaken_quiet quiet, leaveService_silent o _ (.inl tag)]
    simp only [finish_frame]
    exact ⟨rfl, rfl, rfl, rfl, rfl⟩

end

/-- Settles O47: the last bit by the frame on the air, and a looped frame from its owner's act. -/
theorem lastBitReleasesTheChannel : Obligations.LastBitReleasesTheChannel := by
  refine ⟨fun s => txd_idle, fun s runs => ⟨fun r e => transmissionEnd_releases runs, fun a acks sent => ?ack,
    fun r e x service entry onAir phase looped below => ?looped⟩⟩
  case ack =>
    have run := transmissionEnd_ack runs acks sent
    have count : (endAck (s.reach (a.since + airtimeNow s))).cau.beaconCount = beaconReload s := rfl
    refine ⟨_, run, ?_, ?_, by simpa using count, ?_, ?_, ?_, ?_, ?_, ?_⟩
    all_goals simp [endAck, reloadBeacon, resumeReceive, State.reach]
  case looped =>
    have run := loopedFrameEnd_run runs service entry onAir phase looped
    let u : State := s.reach (r.since + airtimeNow s)
    let o : Outcome := if e.req.ackReq then .delivered else .sent
    let t : State := finish (leaveService o e (loopedTaken x u))
    have free : AwaitsNoAck u := by
      intro r' same
      have is : r = r' := Option.some.inj (service.symm.trans same)
      rw [← is, phase]
      nofun
    have removes := (loopedTaken_leaves (x := x) free).1
    have next : (loopedTaken x u).cau.nextEntry = s.cau.nextEntry := removes.nextEntry
    have fre : t.fre = (loopedTaken x u).fre := by
      simp only [t, finish_frame]
      exact (leaveService_frame _ _ _).2.2.2.1
    obtain ⟨none_, returned⟩ := leaveService_returned o e (loopedTaken x u)
    refine ⟨t, run, ?_, ?_, ?_, none_, returned, ?_, ?_, ?_, ?_, ?_⟩
    · simp [t, loopedTaken, reloadBeacon, u, State.reach]
    · rw [fre, loopedTaken_fre]
    · rw [fre, loopedTaken_fre]
      rfl
    · have gone := leaveService_gone o (e := e) (s := loopedTaken x u) (by rw [next]; exact below)
      simpa [t] using gone
    · have count := (leaveService_keepsLists o e (loopedTaken x u)).beacon.1
      have reload : (loopedTaken x u).cau.beaconCount = beaconReload s := removes.beaconReload
      simpa [t, reload] using count
    · have owner : LoopedAtOwner e x u t := loopedAtOwner_of_leaves rfl free rfl
      exact owner
    · simp [t, loopedTaken, reloadBeacon, u, State.reach]
    · simp [t, loopedTaken, reloadBeacon, u, State.reach]

end Sys2Proof.Machine
end

section
/-! PROOFS. The frames of the contests that are abandoned (R47, R49, R102). -/

namespace Sys2Proof.Machine

open Sys2Proof

-- The kernel's checks run one after another: side by side they ask for more threads than there is room for.
set_option Elab.async false

/-! ## What abandoned contests leave of the queue -/

/-- A BID of an offer. -/
def isBidOf (id : OfferId) (x : QueueEntry) : Bool := x.req.kind = .bid && x.req.tag = .offer id

theorem isBidOf_iff {id : OfferId} {x : QueueEntry} : isBidOf id x = true ↔ x.req.kind = .bid ∧ x.req.tag = .offer id := by
  simp [isBidOf]

/-- The frame in service marked for removal. -/
def deferService (r : InService) : InService := { r with deferred := true }

/-- What the abandoning of contests leaves of the queue: waiting BIDs of theirs may leave it, WITHDRAWs enter it
with new numbers, one a contest, and the frame in service may be marked for removal. -/
structure ContestFrames (ids : List OfferId) (u v : State) : Prop where
  gone : ∀ x ∈ u.cau.queue, x ∉ v.cau.queue → (∃ id ∈ ids, isBidOf id x = true) ∧ u.isInService x = false
  new : ∀ x ∈ v.cau.queue, x ∈ u.cau.queue ∨ x.req.kind = .withdraw ∧ u.cau.nextEntry ≤ x.number
  next : u.cau.nextEntry ≤ v.cau.nextEntry
  once : NumbersOnce v
  length : v.cau.queue.length ≤ u.cau.queue.length + ids.length
  service : v.cau.inService = u.cau.inService ∨ v.cau.inService = u.cau.inService.map deferService
  find : ∀ id, id ∉ ids → v.cau.queue.find? (isBidOf id) = u.cau.queue.find? (isBidOf id)

section
variable {u v w : State}

theorem isInService_congr (service : v.cau.inService = u.cau.inService ∨ v.cau.inService = u.cau.inService.map deferService)
    (x : QueueEntry) : v.isInService x = u.isInService x := by
  unfold State.isInService
  rcases service with same | deferred
  · rw [same]
  · rw [deferred]
    cases u.cau.inService <;> rfl

theorem ContestFrames.refl (once : NumbersOnce u) (ids : List OfferId) : ContestFrames ids u u :=
  ⟨fun _ mem gone => absurd mem gone, fun _ mem => .inl mem, Nat.le_refl _, once, Nat.le_add_right _ _, .inl rfl,
    fun _ _ => rfl⟩

theorem deferService_twice (r : Option InService) : (r.map deferService).map deferService = r.map deferService := by
  cases r <;> rfl

theorem ContestFrames.trans {a b : List OfferId} (h : ContestFrames a u v) (k : ContestFrames b v w) :
    ContestFrames (a ++ b) u w where
  gone := by
    intro x mem gone
    by_cases between : x ∈ v.cau.queue
    · obtain ⟨⟨id, hid, is⟩, waits⟩ := k.gone x between gone
      exact ⟨⟨id, List.mem_append_right a hid, is⟩, (isInService_congr h.service x).symm.trans waits⟩
    · obtain ⟨⟨id, hid, is⟩, waits⟩ := h.gone x mem between
      exact ⟨⟨id, List.mem_append_left b hid, is⟩, waits⟩
  new := by
    intro x mem
    rcases k.new x mem with old | ⟨kind, number⟩
    · exact h.new x old
    · exact .inr ⟨kind, h.next.trans number⟩
  next := h.next.trans k.next
  once := k.once
  length := by
    have first := h.length
    have second := k.length
    rw [List.length_append]
    omega
  service := by
    rcases k.service with same | deferred
    · rw [same]
      exact h.service
    · refine .inr ?_
      rw [deferred]
      rcases h.service with same | twice
      · rw [same]
      · rw [twice, deferService_twice]
  find := fun id other =>
    (k.find id fun mem => other (List.mem_append_right a mem)).trans
      (h.find id fun mem => other (List.mem_append_left b mem))

/-- The queue before a change of the rest of the state. -/
theorem ContestFrames.before {ids : List OfferId} (h : ContestFrames ids u w) (cau : u.cau = v.cau) : ContestFrames ids v w := by
  obtain ⟨gone, new, next, once, length, service, find⟩ := h
  unfold State.isInService at gone
  rw [cau] at gone new next length service find
  exact ⟨gone, new, next, once, length, service, find⟩

end

/-! ## A frame of one contest (R47, R49) -/

theorem insertEntry_perm (e : QueueEntry) (l : List QueueEntry) : (insertEntry e l).Perm (e :: l) := by
  induction l with
  | nil => exact List.Perm.refl _
  | cons a l ih =>
    unfold insertEntry
    split
    · exact List.Perm.refl _
    · exact (ih.cons a).trans (List.Perm.swap e a l)

/-- A frame just admitted has a number of its own. -/
theorem admitEntry_numbersOnce (q : Request) {s : State} (once : NumbersOnce s) : NumbersOnce (admitEntry q s) := by
  refine ⟨?_, fun x mem => ?_⟩
  · refine ((insertEntry_perm (admitted q s) s.cau.queue).map _).nodup_iff.mpr (List.nodup_cons.mpr ⟨fun mem => ?_, once.1⟩)
    obtain ⟨x, inQueue, number⟩ := List.mem_map.mp mem
    exact absurd number (once.2 x inQueue).ne
  · rcases mem_insertEntry.mp mem with rfl | old
    · exact Nat.lt_succ_self _
    · exact (once.2 x old).trans (Nat.lt_succ_self _)

section
variable {id : OfferId} {u : State} (once : NumbersOnce u)
include once

theorem dequeueBid_frames {b : QueueEntry} (mem : b ∈ u.cau.queue) (is : isBidOf id b = true)
    (waits : u.isInService b = false) : ContestFrames [id] u (dequeue b.number u) where
  gone := by
    intro x inQueue gone
    have number : x.number = b.number := by
      by_contra other
      exact gone (List.mem_filter.mpr ⟨inQueue, by simpa using other⟩)
    rw [(once.standsAlone mem).2 x inQueue number]
    exact ⟨⟨id, List.mem_singleton.mpr rfl, is⟩, waits⟩
  new := fun x inQueue => .inl (List.mem_filter.mp inQueue).1
  next := Nat.le_refl _
  once := ⟨once.1.sublist (List.filter_sublist.map _), fun x inQueue => once.2 x (List.mem_filter.mp inQueue).1⟩
  length := (List.length_filter_le _ _).trans (Nat.le_add_right _ _)
  service := .inl rfl
  find := by
    intro other notId
    show (u.cau.queue.filter _).find? _ = _
    rw [List.find?_filter]
    refine List.find?_congr fun x inQueue => ?_
    by_cases number : x.number = b.number
    · rw [(once.standsAlone mem).2 x inQueue number]
      have notOther : isBidOf other b = false := by
        rw [Bool.eq_false_iff]
        intro isOther
        have same := (isBidOf_iff.mp is).2.symm.trans (isBidOf_iff.mp isOther).2
        injection same with same
        exact notId (List.mem_singleton.mpr same.symm)
      simp [notOther]
    · simp [number]

theorem admitWithdraw_frames (room : u.cau.queue.length < 16) :
    ContestFrames [id] u (admitEntry (contestFrame .withdraw id) u) where
  gone := fun x mem gone => absurd (mem_insertEntry.mpr (.inr mem)) gone
  new := by
    intro x mem
    rcases mem_insertEntry.mp mem with rfl | old
    · exact .inr ⟨rfl, Nat.le_refl _⟩
    · exact .inl old
  next := Nat.le_succ _
  once := admitEntry_numbersOnce _ once
  length := (length_insertEntry (admitted (contestFrame .withdraw id) u) u.cau.queue).le
  service := .inl rfl
  find := fun other _ => find?_insertEntry (e := admitted (contestFrame .withdraw id) u) rfl u.cau.queue

/-- A WITHDRAW asked for in a queue with room. -/
theorem askWithdraw_frames (room : u.cau.queue.length < 16) : ContestFrames [id] u (askContest .withdraw id u) := by
  show ContestFrames [id] u (requestFrame (contestFrame .withdraw id) u).1
  have general : requestFrame (contestFrame .withdraw id) u = requestGeneral (contestFrame .withdraw id) u := rfl
  rw [general]
  unfold requestGeneral
  split
  · exact .refl once _
  · rw [withdrawCancels_eq]
    split
    · rename_i b found
      have is := List.find?_some found
      simp only [Bool.and_eq_true, decide_eq_true_eq, Bool.not_eq_true'] at is
      exact dequeueBid_frames once (List.mem_of_find?_eq_some found) (isBidOf_iff.mpr ⟨is.1.2, is.1.1⟩) is.2
    · rw [placeRequest_room _ room]
      exact admitWithdraw_frames once room

/-- With the BIDs of its contest in service a WITHDRAW stands in a queue with room. -/
theorem askWithdraw_stands (served : ∀ b ∈ u.cau.queue, isBidOf id b = true → u.isInService b = true)
    (room : u.cau.queue.length < 16) :
    ∃ x ∈ (askContest .withdraw id u).cau.queue, x.req.kind = .withdraw ∧ x.req.tag = .offer id := by
  have asks : askContest .withdraw id u = (requestFrame (contestFrame .withdraw id) u).1 := rfl
  by_cases stands : ∃ x ∈ u.cau.queue, x.req.tag = .offer id ∧ x.req.kind = .withdraw
  · obtain ⟨x, mem, tag, kind⟩ := stands
    have stays : x ∈ (askContest .withdraw id u).cau.queue := by
      by_contra gone
      obtain ⟨⟨other, -, is⟩, -⟩ := (askWithdraw_frames once room).gone x mem gone
      rw [(isBidOf_iff.mp is).1] at kind
      cases kind
    exact ⟨x, stays, kind, tag⟩
  · have fresh : ∀ x ∈ u.cau.queue, x.req.tag = .offer id → x.req.kind ≠ .withdraw := fun x mem tag kind =>
      stands ⟨x, mem, tag, kind⟩
    rw [asks, requestWithdraw_queues fresh (fun b mem tag kind => served b mem (isBidOf_iff.mpr ⟨kind, tag⟩)) room]
    exact ⟨_, admitted_mem _ u, rfl, rfl⟩

/-! A BID removed (R49). -/

/-- A held request that is withdrawn stands in no queue. -/
def dropHeld (kind : FrameKind) (tag : Tag) (s : State) : State :=
  match s.cau.held with
  | some q => if q.kind = kind && q.tag = tag then { s with cau := { s.cau with held := none } } else s
  | none => s

omit once in
theorem dropHeld_eq (kind : FrameKind) (tag : Tag) (s : State) :
    ∃ held, dropHeld kind tag s = { s with cau := { s.cau with held := held } } := by
  unfold dropHeld
  split
  · split
    · exact ⟨_, rfl⟩
    · exact ⟨_, rfl⟩
  · exact ⟨_, rfl⟩

/-- A waiting frame leaves the queue, and one in service is marked. -/
def removeQueued (kind : FrameKind) (tag : Tag) (s : State) : State :=
  match s.cau.queue.find? (fun e => e.req.kind = kind && e.req.tag = tag) with
  | none => s
  | some e =>
    match s.cau.inService with
    | some r =>
      if r.entry = e.number then { s with cau := { s.cau with inService := some { r with deferred := true } } }
      else dequeue e.number s
    | none => dequeue e.number s

omit once in
theorem removeFrame_eq (kind : FrameKind) (tag : Tag) (s : State) :
    removeFrame kind tag s = removeQueued kind tag (dropHeld kind tag s) := rfl

section
omit once
variable {b : QueueEntry} {kind : FrameKind} {tag : Tag}

theorem removeQueued_absent (absent : u.cau.queue.find? (fun e => e.req.kind = kind && e.req.tag = tag) = none) :
    removeQueued kind tag u = u := by
  simp only [removeQueued, absent]

theorem removeQueued_served (found : u.cau.queue.find? (fun e => e.req.kind = kind && e.req.tag = tag) = some b)
    (served : u.isInService b = true) :
    removeQueued kind tag u = { u with cau := { u.cau with inService := u.cau.inService.map deferService } } := by
  cases service : u.cau.inService with
  | none => simp [State.isInService, service] at served
  | some r =>
    have number : r.entry = b.number := by simpa [State.isInService, service] using served
    simp only [removeQueued, found, service]
    exact if_pos number

theorem removeQueued_waits (found : u.cau.queue.find? (fun e => e.req.kind = kind && e.req.tag = tag) = some b)
    (waits : u.isInService b = false) : removeQueued kind tag u = dequeue b.number u := by
  cases service : u.cau.inService with
  | none => simp only [removeQueued, found, service]
  | some r =>
    have number : r.entry ≠ b.number := by simpa [State.isInService, service] using waits
    simp only [removeQueued, found, service]
    exact if_neg number

/-- A removal of a contest's BID, by the first one in the queue. -/
theorem removeBid_cases (id : OfferId) (u : State) :
    ∃ held, (u.cau.queue.find? (isBidOf id) = none →
        removeFrame .bid (.offer id) u = { u with cau := { u.cau with held := held } }) ∧
      ∀ b, u.cau.queue.find? (isBidOf id) = some b →
        (u.isInService b = true → removeFrame .bid (.offer id) u =
          { u with cau := { u.cau with held := held, inService := u.cau.inService.map deferService } }) ∧
        (u.isInService b = false → removeFrame .bid (.offer id) u =
          dequeue b.number { u with cau := { u.cau with held := held } }) := by
  obtain ⟨held, eq⟩ := dropHeld_eq .bid (.offer id) u
  have removes : removeFrame .bid (.offer id) u =
      removeQueued .bid (.offer id) { u with cau := { u.cau with held := held } } := by
    rw [removeFrame_eq, eq]
  refine ⟨held, fun absent => ?_, fun b found => ⟨fun served => ?_, fun waits => ?_⟩⟩
  · exact removes.trans (removeQueued_absent absent)
  · exact removes.trans (removeQueued_served (u := { u with cau := { u.cau with held := held } }) found served)
  · exact removes.trans (removeQueued_waits (u := { u with cau := { u.cau with held := held } }) found waits)

end

theorem removeBid_frames : ContestFrames [id] u (removeFrame .bid (.offer id) u) := by
  obtain ⟨held, absent, found⟩ := removeBid_cases id u
  have same (service : Option InService) (is : service = u.cau.inService ∨ service = u.cau.inService.map deferService) :
      ContestFrames [id] u { u with cau := { u.cau with held := held, inService := service } } :=
    ⟨fun _ mem gone => absurd mem gone, fun _ mem => .inl mem, Nat.le_refl _, once, Nat.le_add_right _ _, is, fun _ _ => rfl⟩
  cases first : u.cau.queue.find? (isBidOf id) with
  | none =>
    rw [absent first]
    exact same u.cau.inService (.inl rfl)
  | some b =>
    obtain ⟨served, waits⟩ := found b first
    cases service : u.isInService b with
    | true =>
      rw [served service]
      exact same _ (.inr rfl)
    | false =>
      rw [waits service]
      have leaves := dequeueBid_frames (id := id) (u := { u with cau := { u.cau with held := held } }) once
        (List.mem_of_find?_eq_some first) (List.find?_some first) service
      exact ⟨leaves.gone, leaves.new, leaves.next, leaves.once, leaves.length, leaves.service, leaves.find⟩

/-! ## One contest abandoned, and all (R102) -/

omit once in
/-- The entry put to PASSED, before its frame. -/
theorem abandonOffer_of_running {e : OfferEntry} (running : e.state.running = true) :
    abandonOffer e u = abandonFrame e (u.updOffer e.id OfferEntry.abandoned) := if_pos running

theorem abandonOffer_frames (e : OfferEntry) (room : u.cau.queue.length < 16) : ContestFrames [e.id] u (abandonOffer e u) := by
  let v : State := u.updOffer e.id OfferEntry.abandoned
  unfold abandonOffer
  split
  · refine ContestFrames.before (u := v) ?_ rfl
    unfold abandonFrame
    split
    · exact ContestFrames.refl (u := v) once _
    · exact removeBid_frames (u := v) once
    · exact askWithdraw_frames (u := v) once room
  · exact .refl once _

theorem foldl_abandonOffer_frames (l : List OfferEntry) (room : u.cau.queue.length + l.length ≤ 16) :
    ContestFrames (l.map (·.id)) u (l.foldl (fun s e => abandonOffer e s) u) := by
  induction l generalizing u with
  | nil => exact .refl once _
  | cons e l ih =>
    have first := abandonOffer_frames once e (by rw [List.length_cons] at room; omega)
    have length := first.length
    have rest := ih first.once (by simp only [List.length_cons, List.length_nil] at room length; omega)
    exact first.trans rest

end

end Sys2Proof.Machine
end

section
/-! PROOFS. QUIET (R52, R59, R65, R102, R197). -/

namespace Sys2Proof.Machine

open Sys2Proof

-- The kernel's checks run one after another: side by side they ask for more threads than there is room for.
set_option Elab.async false

/-! ## The entries of the contests that are abandoned (R102) -/

/-- An offer's contest is over: PASSED, with no deadline. -/
def ContestOver (id : OfferId) (s : State) : Prop :=
  ∃ f, s.offer? id = some f ∧ f.state = .passed ∧ f.delayDeadline = none

theorem abandonOffer_contest {a x : OfferEntry} {s : State} {id : OfferId} (found : s.offer? id = some x) :
    (ContestOver id s → ContestOver id (abandonOffer a s)) ∧
      (a.id = id → a.state.running = true → ContestOver id (abandonOffer a s)) ∧
      ∃ y, (abandonOffer a s).offer? id = some y := by
  by_cases running : a.state.running = true
  · rw [abandonOffer_of_running running]
    have asked := abandonFrame_asked a (s.updOffer a.id OfferEntry.abandoned)
    by_cases same : a.id = id
    · subst same
      have over_ : (s.updOffer a.id OfferEntry.abandoned).offer? a.id = some x.abandoned :=
        offer?_updOffer (by intro _; rfl) found
      obtain ⟨b, after⟩ := asked.offer?_some over_
      exact ⟨fun _ => ⟨_, after, rfl, rfl⟩, fun _ _ => ⟨_, after, rfl, rfl⟩, _, after⟩
    · have kept : (s.updOffer a.id OfferEntry.abandoned).offer? id = some x :=
        (offer?_updOffer_other (f := OfferEntry.abandoned) (fun _ => rfl) same).trans found
      obtain ⟨b, after⟩ := asked.offer?_some kept
      refine ⟨?_, fun is => absurd is same, _, after⟩
      rintro ⟨f, foundF, passed, none_⟩
      rw [found] at foundF
      rw [← Option.some.inj foundF] at passed none_
      exact ⟨_, after, passed, none_⟩
  · have same : abandonOffer a s = s := if_neg running
    rw [same]
    exact ⟨fun over_ => over_, fun _ runs => absurd runs running, x, found⟩

theorem foldl_abandonOffer_over {l : List OfferEntry} {s : State} {id : OfferId} {x : OfferEntry} (found : s.offer? id = some x)
    (over_ : ContestOver id s ∨ ∃ a ∈ l, a.id = id ∧ a.state.running = true) :
    ContestOver id (l.foldl (fun s e => abandonOffer e s) s) := by
  induction l generalizing s x with
  | nil => exact over_.resolve_right (by simp)
  | cons a l ih =>
    obtain ⟨keeps, ends, y, after⟩ := abandonOffer_contest (a := a) found
    refine ih after ?_
    rcases over_ with now | ⟨e, mem, same, running⟩
    · exact .inl (keeps now)
    · rcases List.mem_cons.mp mem with rfl | rest
      · exact .inl (ends same running)
      · exact .inr ⟨e, rest, same, running⟩

theorem offer?_of_mem {s : State} (ids : (s.ocu.offers.map (·.id)).Nodup) {e : OfferEntry} (mem : e ∈ s.ocu.offers) :
    s.offer? e.id = some e := by
  cases found : s.offer? e.id with
  | none =>
    have other := List.find?_eq_none.mp found e mem
    simp at other
  | some x =>
    obtain ⟨memX, same⟩ := offer?_mem found
    rw [List.inj_on_of_nodup_map ids memX mem same]

/-! ## The frames of one contest among those abandoned -/

section
variable {s : State} {e : OfferEntry} (wf : QueueWf s) (room : s.cau.queue.length + s.ocu.offers.length ≤ 16)
  (ids : (s.ocu.offers.map (·.id)).Nodup) (mem : e ∈ s.ocu.offers) (running : e.state.running = true)
include wf room ids mem running

/-- What stands before an entry's turn and after it. -/
theorem abandonContests_turn :
    ∃ before after u, e.id ∉ before ∧ ContestFrames before s u ∧ NumbersOnce u ∧ u.cau.queue.length < 16 ∧
      ContestFrames after (abandonFrame e (u.updOffer e.id OfferEntry.abandoned)) (abandonContests s) := by
  obtain ⟨pre, post, split⟩ := List.append_of_mem mem
  have length : s.ocu.offers.length = pre.length + (post.length + 1) := by simp [split]
  let u : State := pre.foldl (fun s e => abandonOffer e s) s
  have first : ContestFrames (pre.map (·.id)) s u := foldl_abandonOffer_frames wf.numbers pre (by omega)
  have short := first.length
  rw [List.length_map] at short
  have turn := abandonOffer_frames first.once e (by omega)
  have shortTurn := turn.length
  have rest := foldl_abandonOffer_frames turn.once post (by simp only [List.length_cons, List.length_nil] at shortTurn; omega)
  refine ⟨pre.map (·.id), post.map (·.id), u, fun inPre => ?_, first, first.once, by omega, ?_⟩
  · rw [split, List.map_append, List.nodup_append] at ids
    exact ids.2.2 _ inPre _ List.mem_cons_self rfl
  · rw [← abandonOffer_of_running running]
    have whole : abandonContests s = post.foldl (fun s e => abandonOffer e s) (abandonOffer e u) := by
      unfold abandonContests
      rw [split, List.foldl_append]
      rfl
    rw [whole]
    exact rest

theorem abandonContests_withdraws (sent : e.bidFrame = .sent)
    (served : ∀ q ∈ s.cau.queue, q.req.kind = .bid → q.req.tag = .offer e.id → s.isInService q = true) :
    ∃ q ∈ (abandonContests s).cau.queue, q.req.kind = .withdraw ∧ q.req.tag = .offer e.id := by
  obtain ⟨before, after, u, -, first, once, short, rest⟩ := abandonContests_turn wf room ids mem running
  have asks : abandonFrame e (u.updOffer e.id OfferEntry.abandoned) =
      askContest .withdraw e.id (u.updOffer e.id OfferEntry.abandoned) := by
    simp only [abandonFrame, sent]
  rw [asks] at rest
  have servedU : ∀ b ∈ u.cau.queue, isBidOf e.id b = true → u.isInService b = true := by
    intro b inQueue is
    obtain ⟨kind, tag⟩ := isBidOf_iff.mp is
    rcases first.new b inQueue with old | ⟨withdraw, -⟩
    · exact (isInService_congr first.service b).trans (served b old kind tag)
    · rw [kind] at withdraw
      cases withdraw
  obtain ⟨x, inQueue, kind, tag⟩ := askWithdraw_stands (u := u.updOffer e.id OfferEntry.abandoned) once servedU short
  refine ⟨x, ?_, kind, tag⟩
  by_contra gone
  obtain ⟨⟨id, -, is⟩, -⟩ := rest.gone x inQueue gone
  rw [(isBidOf_iff.mp is).1] at kind
  cases kind

theorem abandonContests_removes {q : QueueEntry} (queued : e.bidFrame = .inQueue)
    (found : s.cau.queue.find? (isBidOf e.id) = some q) :
    (s.isInService q = false → ∀ x ∈ (abandonContests s).cau.queue, x.number ≠ q.number) ∧
      (s.isInService q = true → q ∈ (abandonContests s).cau.queue ∧
        (abandonContests s).cau.inService = s.cau.inService.map deferService) := by
  obtain ⟨before, after, u, notBefore, first, once, short, rest⟩ := abandonContests_turn wf room ids mem running
  have removes : abandonFrame e (u.updOffer e.id OfferEntry.abandoned) =
      removeFrame .bid (.offer e.id) (u.updOffer e.id OfferEntry.abandoned) := by
    simp only [abandonFrame, queued]
  rw [removes] at rest
  obtain ⟨held, -, one⟩ := removeBid_cases e.id (u.updOffer e.id OfferEntry.abandoned)
  obtain ⟨served, waits⟩ := one q ((first.find e.id notBefore).trans found)
  have serviceU := isInService_congr first.service q
  refine ⟨fun waiting => ?_, fun serving => ?_⟩
  · rw [waits (serviceU.trans waiting)] at rest
    intro x inQueue
    have below : q.number < s.cau.nextEntry := (wf.numbers.2 q (List.mem_of_find?_eq_some found))
    rcases rest.new x inQueue with old | ⟨-, number⟩
    · simpa using (List.mem_filter.mp old).2
    · exact (below.trans_le (first.next.trans number)).ne'
  · rw [served (serviceU.trans serving)] at rest
    refine ⟨?_, ?_⟩
    · by_contra gone
      have inU : q ∈ u.cau.queue := by
        by_contra goneU
        have waiting := (first.gone q (List.mem_of_find?_eq_some found) goneU).2
        rw [serving] at waiting
        cases waiting
      have waiting := (rest.gone q inU gone).2
      have same := isInService_congr (u := u) (v := { u with cau := { u.cau with held := held, inService := u.cau.inService.map deferService } }) (.inr rfl) q
      rw [serviceU, serving] at same
      have contra : true = false := same.symm.trans waiting
      cases contra
    · have marked : u.cau.inService.map deferService = s.cau.inService.map deferService := by
        rcases first.service with same | deferred
        · rw [same]
        · rw [deferred, deferService_twice]
      rcases rest.service with same | deferred
      · exact same.trans marked
      · refine deferred.trans ?_
        show (u.cau.inService.map deferService).map deferService = _
        rw [deferService_twice, marked]

end

/-! ## The access procedure under an inhibit (R52, R59) -/

theorem finish_inhibited {s : State} (service : s.cau.inService = none) (inhibited : s.inhibited = true)
    (waits : s.cau.access.phase ≠ .idle ∨ bestEntry s ≠ none) :
    accessState (finish s) = .inhibited ∧ (finish s).cau.access.candidate = (bestEntry (finish s)).map (·.number) := by
  have best : bestEntry (finish s) = bestEntry s := by simp [bestEntry]
  have settled : settledAccess s = ⟨.inhibited, (bestEntry s).map (·.number), s.cau.access.since⟩ := by
    unfold settledAccess
    cases found : bestEntry s with
    | none =>
      have busy := waits.resolve_right (by simp [found])
      simp [service, inhibited, busy]
    | some e => simp [service, inhibited]
  rw [best, finish_access, settled]
  refine ⟨?_, rfl⟩
  unfold accessState
  simp [service, settled]

/-- A frame in service goes on, marked for removal or not. -/
theorem finish_serving {s t : State} (service : t.cau.inService.map (fun r => { r with deferred := false }) =
    s.cau.inService.map fun r => { r with deferred := false }) (serves : s.cau.inService ≠ none) :
    accessState (finish t) = accessState s := by
  obtain ⟨r, is⟩ := Option.ne_none_iff_exists'.mp serves
  rw [is, Option.map_some] at service
  obtain ⟨x, isX, same⟩ := Option.map_eq_some_iff.mp service
  have phase : x.phase = r.phase := (InService.mk.inj same).2.1
  unfold accessState
  simp [is, isX, phase]

/-! ## The lines (R197) -/

/-- The state with the QUIET line at a level. -/
def withQuiet (b : Bool) (s : State) : State := { s with lines := { s.lines with quiet := b } }

theorem quietAsserted_run {s : State} (runs : s.running = true) (released : s.lines.quiet = false) :
    exec .quietAsserted s = .next (finish (abandonContests (withQuiet true s))) := by
  refine (congrArg Host.Outcome.next (if_neg (by simp [released]))).trans (congrArg Host.Outcome.next ?_)
  exact whenRunning_of_running _ runs

theorem quietReleased_run {s : State} (runs : s.running = true) (asserted : s.lines.quiet = true) :
    exec .quietReleased s = .next (finish (startBeacon (withQuiet false s))) := by
  refine (congrArg Host.Outcome.next (if_pos asserted)).trans (congrArg Host.Outcome.next ?_)
  exact whenRunning_of_running _ runs

/-- Settles O12: each contest as its frames are taken one after another, and the procedure as its inhibit comes and goes. -/
theorem quietAbandonsContestsAndReloadsBeacon : Obligations.QuietAbandonsContestsAndReloadsBeacon := by
  intro s runs ids
  refine ⟨fun released => ?asserted, fun asserted => ?released⟩
  case asserted =>
    let u : State := withQuiet true s
    have run := quietAsserted_run runs released
    have asked : Asked { u with ocu := (abandonContests u).ocu } (abandonContests u) := abandonContests_asked u
    have cau : (abandonContests u).cau.access = s.cau.access ∧ (abandonContests u).cau.beaconCount = s.cau.beaconCount := by
      rw [asked.cau]
      exact ⟨rfl, rfl⟩
    have service : (abandonContests u).cau.inService.map (fun r => { r with deferred := false }) =
        s.cau.inService.map fun r => { r with deferred := false } := asked.service
    refine ⟨_, run, ?_, ?_, fun e mem idle => ?_, fun e mem running => ⟨?_, fun wf room => ⟨fun sent served => ?_,
      fun q queued found => ?_⟩⟩, fun serves => ?_, fun free waits => ?_, ?_, ?_, ?_, ?_, ?_⟩
    · simp [withQuiet]
    · have none_ := abandonContests_noContestRuns u
      intro e mem
      exact none_ e (by simpa using mem)
    · have idle' : ∀ x ∈ u.ocu.offers, x.id = e.id → x.state.running = false := by
        intro x memX same
        rw [List.inj_on_of_nodup_map ids memX mem same]
        exact idle
      obtain ⟨b, stays⟩ := abandonContests_offer? (s := u) (offer?_of_mem ids mem) idle'
      obtain ⟨memT, sameId⟩ := offer?_mem stays
      exact ⟨{ e with bidFrame := b }, by simpa using memT, rfl, rfl⟩
    · have over_ : ContestOver e.id (abandonContests u) :=
        foldl_abandonOffer_over (s := u) (offer?_of_mem ids mem) (.inr ⟨e, mem, rfl, running⟩)
      obtain ⟨f, found, passed, none_⟩ := over_
      obtain ⟨memT, sameId⟩ := offer?_mem found
      exact ⟨f, by simpa using memT, sameId, passed, none_⟩
    · have withdraws := abandonContests_withdraws (s := u) wf room ids mem running sent served
      simpa using withdraws
    · obtain ⟨leaves, marks⟩ := abandonContests_removes (s := u) wf room ids mem running queued found
      refine ⟨fun waiting => ?_, fun serving => ?_⟩
      · have gone := leaves waiting
        simpa using gone
      · obtain ⟨stays, deferred⟩ := marks serving
        refine ⟨by simpa using stays, ?_⟩
        simp only [finish_fields]
        exact deferred
    · exact finish_serving service serves
    · have inhibited : (abandonContests u).inhibited = true := by simp [State.inhibited, u, withQuiet]
      have best : bestEntry (finish (abandonContests u)) = bestEntry (abandonContests u) := by simp [bestEntry]
      refine finish_inhibited ?_ inhibited ?_
      · simpa [free] using service
      · rw [cau.1, ← best]
        exact waits
    · simp only [finish_frame]
      exact asked.dtc
    · simp only [finish_frame]
      exact asked.fre
    · simp only [finish_frame]
      exact asked.fmr
    · have cns : (abandonContests u).cns = s.cns := asked.cns
      have view : (abandonContests u).cns.view = s.cns.view := by rw [cns]
      simpa only [finish_fields] using view
    · simpa using cau.2
  case released =>
    refine ⟨_, quietReleased_run runs asserted, fun free inhibited => ?_, ?_⟩
    · refine finish_returnedToDefer ?_ (.inr ?_)
      · unfold startBeacon
        split <;> exact free
      · unfold startBeacon
        split <;> exact inhibited
    · have settled := finish_settled (startBeacon (withQuiet false s))
      cases fault : s.stc.fault with
      | true =>
        have same : startBeacon (withQuiet false s) = withQuiet false s := if_pos (by simp [withQuiet, fault])
        rw [same] at settled ⊢
        exact settled
      | false =>
        have same : startBeacon (withQuiet false s) = reloadBeacon (withQuiet false s) := if_neg (by simp [withQuiet, fault])
        rw [same] at settled ⊢
        exact settled

end Sys2Proof.Machine
end

section
/-! PROOFS. The entry into service of a BID whose contest has been given up (R50, R92): where a WITHDRAW of its offer
stands in the queue under the BID's own number, it takes the new one in (R45). -/

namespace Sys2Proof.Machine

open Sys2Proof

-- The kernel's checks run one after another: side by side they ask for more threads than there is room for.
set_option Elab.async false

/-- An offer whose contest has been given up. -/
def passedOffer : OfferEntry :=
  { id := ⟨1, 1⟩, arrival := 0, pickup := ⟨0, 0⟩, radius := 0, text := [], windowEnd := 0, state := .passed,
    ownScore := none, ownVacant := none, delayDeadline := none, bidFrame := .inQueue, jobTimer := none, heard := [],
    windowTaken := false }

/-- Its BID, one clear slot before it is keyed. -/
def lastSlotBid : QueueEntry := ⟨0, contestFrame .bid ⟨1, 1⟩, 0, 0, some 1, none⟩

/-- A WITHDRAW of the offer under the BID's number, of another hop than one asked for now. -/
def sameNumberWithdraw : QueueEntry := ⟨0, { contestFrame .withdraw ⟨1, 1⟩ with hop := 1 }, 0, 0, none, none⟩

/-- A running 4120 in the last slot of the BID's backoff, the two frames under one number in its queue. -/
def bidInLastSlot : State :=
  { State.reset with
    stc := { Stc.reset with phase := .running, fault := false }
    cau := { Cau.reset with
      queue := [lastSlotBid, sameNumberWithdraw], access := ⟨.backoff, some 0, 0⟩, nextEntry := 1 }
    ocu := { Ocu.reset with offers := [passedOffer] } }

/-- The slot's end keys the BID, and the queue holds no frame that it did not hold. -/
theorem bidInLastSlot_ends :
    ∃ u, exec .backoffSlotEnd bidInLastSlot = .next (finish u) ∧
      u.cau.queue.map (·.req) = [contestFrame .bid ⟨1, 1⟩, { contestFrame .withdraw ⟨1, 1⟩ with hop := 1 }] :=
  ⟨_, rfl, rfl⟩

/-- Refutes O45: the frames beside the BID are told apart from it by their numbers, and a WITHDRAW under the BID's
number is not asked for again. The statement's hypotheses leave two frames one number, as `QueueWf` does not. -/
theorem not_carrierGapAndBackoffLeadToService : ¬ Obligations.CarrierGapAndBackoffLeadToService := by
  intro h
  obtain ⟨-, -, ends⟩ := h lastSlotBid bidInLastSlot rfl rfl rfl rfl
  obtain ⟨⟨t, run, -, -, -, -, -, told, -⟩, -⟩ :=
    ends .backoff .backoffSlotEnd 0 20 (.inr ⟨rfl, rfl, rfl, rfl⟩) rfl rfl rfl rfl
  obtain ⟨bid, -⟩ := (told rfl).1 rfl
  obtain ⟨-, withdraws, -⟩ := bid ⟨1, 1⟩ passedOffer rfl rfl rfl
  obtain ⟨q, mem, req⟩ := withdraws rfl (by decide) (by decide)
  obtain ⟨u, run', reqs⟩ := bidInLastSlot_ends
  have same : t = finish u := by
    rw [run] at run'
    exact Host.Outcome.next.inj run'
  rw [same] at mem
  have mem' : q.req ∈ u.cau.queue.map (·.req) := List.mem_map_of_mem (by simpa using mem)
  rw [reqs, req] at mem'
  exact absurd mem' (by decide)

end Sys2Proof.Machine
end

section
/-! PROOFS. The frame built at its first bit: its payload and its bits (R24, R25, R28, R79, R91, R97, R135, R154,
R182). -/

namespace Sys2Proof.Machine

open Sys2Proof

-- The kernel's checks run one after another: side by side they ask for more threads than there is room for.
set_option Elab.async false

/-! ## The bits (R24, R25) -/

theorem sentOnTxd_txFrame (kind : FrameKind) (f : AirFrame) {s u : State} (same : u.stc.loopback = s.stc.loopback) :
    SentOnTxd (txFrame kind f u) s := by
  unfold SentOnTxd txFrame
  dsimp only
  rw [same]
  cases s.stc.loopback with
  | true => rfl
  | false =>
    refine ⟨?_, fun j i b byte small => ?_⟩
    · simp only [Bool.false_eq_true, if_false]
      rw [airBits_length, airtimeBits, Nat.mul_comm]
    · simp only [Bool.false_eq_true, if_false]
      rw [airBits_getElem _ _ _ _ small]
      have bytes : (frameLead ++ frameBytes (kindCode kind) f)[j]? = some b := by
        rw [← byte, frameBytes, ← List.append_assoc]
        rfl
      rw [bytes]
      rfl

/-! ## Fare reports (R135) -/

theorem flagBit_eq_weight (b : Bool) (n : Nat) : flagBit b n = weight b (2 ^ n) := rfl

theorem encodeMinute_length (record offset : Nat) (m : Option Nat) : (encodeMinute record offset m).length = 2 := by
  cases m <;> rfl

theorem encodeMinute_some {record offset : Nat} {m : Option Nat} {n : Nat} (is : m = some n) :
    encodeMinute record offset m = be16 n := by
  rw [is]
  rfl

/-- The job's three bytes in a report of a hire. -/
def encodeJob (record : Nat) : Option OfferId → List Byte
  | some i => encodeOfferId i
  | none => absentBytes record 9 3

theorem encodeJob_length (record : Nat) (i : Option OfferId) : (encodeJob record i).length = 3 := by
  cases i <;> rfl

theorem encodeHireReport_eq (n : Nat) (r : HireReport) :
    encodeHireReport n r = [0x01#8] ++ be16 r.hireNumber ++
      [byte (weight r.flags.cap 128 + weight r.flags.implausible 64 + weight r.flags.powerGap 32 +
        weight r.flags.conflict 16 + weight r.offerId.isSome 8 + weight r.startMinute.isSome 4 +
        weight r.endMinute.isSome 2)] ++
      encodeMinute n 4 r.startMinute ++ encodeMinute n 6 r.endMinute ++
      [byte (16 * r.segments.length + r.extras.length)] ++ encodeJob n r.offerId ++
      be24 r.totalMetres ++ be24 r.paidMetres ++ be24 r.waiting ++ be24 r.fare ++ be24 r.payable ++
      (r.segments.map fun g => [byte g.tariffId] ++ be24 g.nd ++ be24 g.nt).flatten ++
      r.extras.map fun x => byte (16 * x.id + x.count) := by
  unfold encodeHireReport encodeJob
  simp only [flagBit_eq_weight, Nat.mul_comm _ 16, List.flatMap]
  rfl

theorem encodeFare_byRule (r : LogRecord) : FareByRule r.body (encodeFare r) := by
  unfold encodeFare
  cases r.body with
  | hire h =>
    refine ⟨encodeMinute r.number 4 h.startMinute, encodeMinute r.number 6 h.endMinute, encodeJob r.number h.offerId,
      encodeMinute_length _ _ _, encodeMinute_length _ _ _, encodeJob_length _ _, fun m => encodeMinute_some,
      fun m => encodeMinute_some, fun i is => ?_, encodeHireReport_eq _ h⟩
    rw [is]
    rfl
  | shift h =>
    exact ⟨encodeMinute r.number 2 h.startMinute, encodeMinute r.number 4 h.endMinute, absentBytes r.number 9 3,
      encodeMinute_length _ _ _, encodeMinute_length _ _ _, rfl, fun m => encodeMinute_some, fun m => encodeMinute_some, rfl⟩

/-! ## Own alarms and relays (R79, R182) -/

theorem encodeAlarm_own (serial : Serial) (s : State) :
    encodeAlarm (ownAlarmFields serial s) = be16 s.own ++
      [serial,
        byte (weight s.emu.duress 128 + weight s.emu.seen 64 + weight s.dtc.fixValid 32 +
          weight s.dtc.job.isSome 16),
        byte (dutyCode s.dtc.duty)] ++
      be16 s.emu.elapsed ++ be16 (if s.dtc.fixValid then s.dtc.pos.east else 0) ++
      be16 (if s.dtc.fixValid then s.dtc.pos.north else 0) ++
      match s.dtc.job with
      | some j => be16 j.id.dispatch ++ [j.id.serial]
      | none => [] := by
  unfold encodeAlarm ownAlarmFields jobId State.position
  dsimp only
  cases s.dtc.fixValid <;> cases s.dtc.job <;> rfl

theorem markSeen_eq (seen : Bool) (l : List Byte) :
    markSeen seen l = if seen then l.modify 3 (· ||| 0x40#8) else l := by
  cases seen with
  | false =>
    unfold markSeen
    split <;> rfl
  | true =>
    unfold markSeen
    split
    · rfl
    · rename_i short
      rcases l with _ | ⟨a, _ | ⟨b, _ | ⟨c, _ | ⟨d, l⟩⟩⟩⟩
      · rfl
      · rfl
      · rfl
      · rfl
      · exact absurd rfl (short a b c d l)

/-- A relay's payload is marked where its origin has been seen, by its key or by its entry. -/
theorem relayPayload_eq {k : RelayKey} {r : Relay} {s : State} (found : s.relay? k = some r)
    [Decidable ((∃ d ∈ s.nbt.dups, d.name = ⟨k.origin, .alarmSeen, k.serial⟩) ∨
      (∃ a ∈ s.alarmEntry k.origin, a.seen = true))] :
    relayPayload k s =
      if (∃ d ∈ s.nbt.dups, d.name = ⟨k.origin, .alarmSeen, k.serial⟩) ∨ (∃ a ∈ s.alarmEntry k.origin, a.seen = true) then
        r.payload.modify 3 (· ||| 0x40#8)
      else r.payload := by
  unfold relayPayload
  rw [found]
  dsimp only
  rw [markSeen_eq]
  refine if_congr ?_ rfl rfl
  rw [Bool.or_eq_true]
  refine or_congr ?_ ?_
  · simp [hasKey]
  · cases s.alarmEntry k.origin with
    | none => simp
    | some a => simp

/-! ## The payload by its originator's rule (R28) -/

theorem payloadOf_byRule (q : Request) (s : State) : PayloadByRule q s (payloadOf q s).1 := by
  refine ⟨fun id o score tag kind found own => ?bid, fun id tag kind => ?withdraw,
    fun n m y source number text tag found name reply phrase atLeast => ?reply, fun n r tag found => ?fare, fun tag => ?alarm,
    fun k r tag kind found => ?relay, fun tag => ?beacon⟩
  case bid =>
    have isBid : (q.kind = .bid || q.kind = .take) = true := by simpa using kind
    simp only [payloadOf, tag]
    rw [if_pos isBid, bidPayload]
    simp only [found, Option.bind_some, own]
    rfl
  case withdraw =>
    have notBid : ¬(q.kind = .bid || q.kind = .take) = true := by
      rcases kind with kind | kind <;> simp [kind]
    simp only [payloadOf, tag]
    rw [if_neg notBid]
    rfl
  case reply =>
    obtain ⟨k, is⟩ := Nat.exists_eq_add_of_le' atLeast
    have phraseIs : phraseText s y.phrase = text := by
      rw [is] at phrase ⊢
      rw [Nat.add_sub_cancel] at phrase
      exact List.getD_eq_getElem?_getD.trans (by rw [phrase]; rfl)
    simp only [payloadOf, tag, replyBytes, found, reply, phraseIs, name]
    simp [replyPayload, encodeMsg, MsgName.number, be16, byte, flagBit]
  case fare =>
    simp only [payloadOf, tag, fareBytes, found]
    exact encodeFare_byRule r
  case alarm =>
    simp only [payloadOf, tag]
    exact encodeAlarm_own _ s
  case relay =>
    simp only [payloadOf, tag]
    rw [relayKey_eq kind]
    exact relayPayload_eq found
  case beacon => simp only [payloadOf, tag]

/-! ## What the payload is built from, and what it leaves -/

/-- A payload is built from neither the clock nor the FRE. -/
theorem payloadOf_apart (q : Request) (s : State) (now : Moment) (fre : Fre) :
    (payloadOf q { s with now := now, fre := fre }).1 = (payloadOf q s).1 := by
  unfold payloadOf
  split
  · rename_i id _
    split
    · have same : ({ s with now := now, fre := fre } : State).offer? id = s.offer? id := rfl
      unfold bidPayload
      dsimp only
      rw [same]
      cases (s.offer? id).bind (·.ownScore) <;> rfl
    · rfl
  · rename_i n _
    have same : ({ s with now := now, fre := fre } : State).msg? n = s.msg? n := rfl
    unfold replyBytes
    rw [same]
    cases s.msg? n with
    | none => rfl
    | some e =>
      dsimp only
      cases e.reply <;> rfl
  all_goals rfl

theorem payloadOf_emu_own {q : Request} (tag : q.tag = .ownAlarm) (s : State) :
    (payloadOf q s).2.emu = { s.emu with
      ownSerial := s.emu.ownSerial + 1
      firstSerial := if q.kind = .alarm ∧ s.emu.firstSerial = none then some (s.emu.ownSerial + 1)
        else s.emu.firstSerial } := by
  simp only [payloadOf, tag, ownAlarmBytes, updEmu]
  congr 1
  simp

theorem payloadOf_emu_other {q : Request} (other : q.tag ≠ .ownAlarm) (s : State) : (payloadOf q s).2.emu = s.emu := by
  unfold payloadOf
  split
  · split
    · simp
    · rfl
  · simp
  · rfl
  · rename_i own
    exact absurd own other
  · rfl
  · rfl

/-- A BID records the vacant minutes it carries (R91). -/
theorem payloadOf_bid {q : Request} {id : OfferId} {o : OfferEntry} {s : State} (tag : q.tag = .offer id)
    (kind : q.kind = .bid) (found : s.offer? id = some o) (own : o.ownScore.isSome = true) :
    (payloadOf q s).2.offer? id = some { o with ownVacant := some (s.dtc.vacantSeconds / 60) } := by
  obtain ⟨score, is⟩ := Option.isSome_iff_exists.mp own
  have left : (payloadOf q s).2 = s.updOffer id fun e => { e with ownVacant := some s.vacantMinutes } := by
    simp only [payloadOf, tag, kind, bidPayload, found, Option.bind_some, is]
    rfl
  rw [left]
  exact offer?_updOffer (by intro _; rfl) found

end Sys2Proof.Machine
end

section
/-! PROOFS. The first bit of a frame (R22, R24, R25, R27, R28, R38, R40, R58, R173). -/

namespace Sys2Proof.Machine

open Sys2Proof

-- The kernel's checks run one after another: side by side they ask for more threads than there is room for.
set_option Elab.async false

/-! ## The frame in service at its first bit -/

/-- The state with its sequence number taken. -/
def numbered (old : Option Serial) (s : State) : State :=
  { s with fre := { s.fre with seq := if old.isSome then s.fre.seq else s.fre.seq + 1 } }

theorem takeSeq_eq (old : Option Serial) (s : State) : takeSeq old s = (old.getD (s.fre.seq + 1), numbered old s) := by
  cases old <;> rfl

/-- The frame built from the state of this moment. -/
def sentFrame (e : QueueEntry) (s : State) : AirFrame :=
  { header := headerOf e.req (e.seq.getD (s.fre.seq + 1)) s, payload := (payloadOf e.req s).1 }

section
variable (r : InService) (e : QueueEntry) (s : State)

/-- The state that the payload's originator leaves. -/
def originated : State := (payloadOf e.req (numbered e.seq s)).2

theorem originated_frame :
    (originated e s).stc = s.stc ∧ (originated e s).fre = (numbered e.seq s).fre ∧ (originated e s).cau = s.cau ∧
      (originated e s).now = s.now := by
  obtain ⟨-, stc, -, fre, cau, -, -, -, -, -, now, -⟩ := payloadOf_frame e.req (numbered e.seq s)
  exact ⟨stc, fre, cau, now⟩

/-- The state in which the transmission of the frame begins. -/
def sending : State :=
  { (originated e s).updEntry e.number (fun x => { x with seq := some (e.seq.getD (s.fre.seq + 1)) }) with
    cau := { ((originated e s).updEntry e.number fun x => { x with seq := some (e.seq.getD (s.fre.seq + 1)) }).cau with
      inService := some { r with phase := .sending, since := s.now } } }

theorem txFrame_congr (kind : FrameKind) (f : AirFrame) {t u : State} (same : t.stc = u.stc) :
    txFrame kind f t = txFrame kind f u := by
  unfold txFrame
  rw [same]

theorem sendEntry_eq :
    sendEntry r e s = beginTransmission (txFrame e.req.kind (sentFrame e s) s) (sending r e s) := by
  have payload : (payloadOf e.req (numbered e.seq s)).1 = (payloadOf e.req s).1 := payloadOf_apart e.req s s.now _
  obtain ⟨stc, -, -, now⟩ := originated_frame e s
  have frame : txFrame e.req.kind (sentFrame e s) (sending r e s) = txFrame e.req.kind (sentFrame e s) s :=
    txFrame_congr _ _ (show (originated e s).stc = s.stc from stc)
  rw [← frame]
  unfold sending sentFrame
  rw [← payload, ← now]
  unfold sendEntry
  rw [takeSeq_eq]
  rfl

theorem sendEntry_fre :
    (sendEntry r e s).fre = { s.fre with
      seq := if e.seq.isSome then s.fre.seq else s.fre.seq + 1
      onAir := some (txFrame e.req.kind (sentFrame e s) s)
      counters := { s.fre.counters with
        transmissions := if 9999 ≤ s.fre.counters.transmissions then 0 else s.fre.counters.transmissions + 1 } } := by
  obtain ⟨-, fre, -⟩ := originated_frame e s
  have kept : (originated e s).fre = { s.fre with seq := if e.seq.isSome then s.fre.seq else s.fre.seq + 1 } := fre
  rw [sendEntry_eq]
  simp only [beginTransmission, signalActivity, sending, State.updEntry_frame, kept]
  rfl

theorem sendEntry_cau :
    (sendEntry r e s).cau = { s.cau with
      queue := updateWhere (·.number = e.number) (fun x => { x with seq := some (e.seq.getD (s.fre.seq + 1)) }) s.cau.queue
      inService := some { r with phase := .sending, since := s.now } } := by
  obtain ⟨-, -, cau, -⟩ := originated_frame e s
  rw [sendEntry_eq]
  simp only [beginTransmission, signalActivity, sending, State.updEntry, cau]

theorem sendEntry_ocu : (sendEntry r e s).ocu = (originated e s).ocu := by
  rw [sendEntry_eq]
  rfl

theorem sendEntry_emu : (sendEntry r e s).emu = (originated e s).emu := by
  rw [sendEntry_eq]
  rfl

theorem sendEntry_handsOver : (sendEntry r e s).stc.pendingCause = none ∧ (sendEntry r e s).stc.loopback = s.stc.loopback ∧
    (sendEntry r e s).cns.stretchSince = some s.now := by
  obtain ⟨stc, -, -, now⟩ := originated_frame e s
  rw [sendEntry_eq]
  refine ⟨rfl, ?_, ?_⟩
  · show (originated e s).stc.loopback = _
    rw [stc]
  · show some (originated e s).now = _
    rw [now]

end

theorem keyupEnd_run {r : InService} {e : QueueEntry} {s : State} (runs : s.running = true) (noAck : s.fre.ackTx = none)
    (service : s.cau.inService = some r) (entry : s.serviceEntry = some e) (phase : r.phase = .keyup) :
    exec .keyupEnd s = .next (finish (sendEntry r e (s.reach (r.since + 5)))) := by
  refine congrArg _ ((whenRunning_of_running _ runs).trans (congrArg finish ?_))
  simp only [firstBit, noAck, service, entry]
  exact if_pos phase

/-! ## An ACK at its first bit (R38) -/

/-- The frame of an ACK. -/
def ackFrame (a : AckTx) (s : State) : AirFrame :=
  { header := headerOf (ackRequest a.record) (s.fre.seq + 1) s
    payload := encodeAck { kind := kindCode a.record.kind, seq := a.record.seq } }

theorem sendAck_eq (a : AckTx) (s : State) :
    sendAck a s = beginTransmission (txFrame .ack (ackFrame a s) s)
      { s with fre := { s.fre with seq := s.fre.seq + 1, ackTx := some { a with sent := true, since := s.now } } } := rfl

theorem keyupEnd_ack {a : AckTx} {s : State} (runs : s.running = true) (acks : s.fre.ackTx = some a)
    (waits : a.sent = false) : exec .keyupEnd s = .next (finish (sendAck a (s.reach (a.since + 5)))) := by
  refine congrArg _ ((whenRunning_of_running _ runs).trans (congrArg finish ?_))
  simp only [firstBit, acks]
  exact if_neg (by simp [waits])

/-- Outside loopback TXD gives the bits of a frame on the air from the moment of its first one. -/
theorem txd_sending {t : State} {x : TxFrame} {r : InService} (ack : t.fre.ackTx = none) (onAir : t.fre.onAir = some x)
    (service : t.cau.inService = some r) (sending : r.phase = .sending) (since : r.since = t.now)
    (outside : t.stc.loopback = false) (d : Nat) :
    ({ t with now := t.now + d } : State).txd = (x.txd[d * 9600 / 1000]?).getD true := by
  have keyed : ({ t with now := t.now + d } : State).txKey = true := by
    simp [State.txKey, ack, service, sending, outside]
  have bits : ({ t with now := t.now + d } : State).bitsSince = t.now := by
    simp [State.bitsSince, ack, service, since]
  unfold State.txd
  rw [if_pos keyed, bits]
  simp only [onAir]
  rw [Nat.add_sub_cancel_left, List.getD_eq_getElem?_getD]

/-- Settles O46: the frame from the state of its first bit, and an ACK likewise. -/
theorem keyupEndBuildsTheFrame : Obligations.KeyupEndBuildsTheFrame := by
  intro s runs
  refine ⟨fun r e noAck service entry phase => ?frame, fun a acks waits => ?ack⟩
  case frame =>
    let u : State := s.reach (r.since + 5)
    let f : AirFrame := sentFrame e u
    let x : TxFrame := txFrame e.req.kind f u
    let t : State := finish (sendEntry r e u)
    have run := keyupEnd_run runs noAck service entry phase
    have fre : t.fre = (sendEntry r e u).fre := by simp [t]
    have freU := fre.trans (sendEntry_fre r e u)
    have cau := sendEntry_cau r e u
    have serviceT : t.cau.inService = some { r with phase := .sending, since := u.now } := by simp [t, cau]
    have onAir : t.fre.onAir = some x := by rw [freU]
    have now : t.now = u.now := by simp [t]
    have emu : t.emu = (originated e u).emu := by
      simp only [t, finish_frame]
      exact sendEntry_emu r e u
    have emuU : u.emu = s.emu := rfl
    obtain ⟨cause, loopback, stretch⟩ := sendEntry_handsOver r e u
    have payload : f.payload = (payloadOf e.req s).1 := payloadOf_apart e.req s u.now s.fre
    refine ⟨t, x, run, onAir, rfl, rfl, payload, ?_, sentOnTxd_txFrame _ _ rfl, fun outside d => ?_,
      fun id o tag kind found own => ?_, ?_, ?_, ?_, fun tag => ?_, fun other => ?_, ?_, ?_, ?_, now, ?_, ?_, ?_, ?_, ?_, ?_⟩
    · rw [show x.frame.payload = (payloadOf e.req s).1 from payload]
      exact payloadOf_byRule e.req s
    · refine txd_sending ?_ onAir serviceT rfl now.symm ?_ d
      · rw [freU]
        exact noAck
      · have kept : t.stc.loopback = u.stc.loopback := by
          simp only [t, finish_fields]
          exact loopback
        exact kept.trans outside
    · have bids := payloadOf_bid (s := numbered e.seq u) tag kind found own
      refine (offer?_congr ?_ id).trans bids
      simp only [t, finish_frame]
      exact sendEntry_ocu r e u
    · rw [freU]
      rfl
    · rw [serviceT, now]
    · refine ⟨{ e with seq := some (e.seq.getD (u.fre.seq + 1)) }, ?_, rfl, rfl⟩
      have mem : { e with seq := some (e.seq.getD (u.fre.seq + 1)) } ∈ (sendEntry r e u).cau.queue := by
        rw [cau]
        exact mem_updateWhere.mpr ⟨e, (serviceEntry_number service entry).1, by simp⟩
      simpa [t] using mem
    · rw [emu]
      exact payloadOf_emu_own tag (numbered e.seq u)
    · rw [emu]
      exact payloadOf_emu_other other (numbered e.seq u)
    · rw [freU]
      rfl
    · simpa [t] using cause
    · rw [now]
      simpa [t] using stretch
    all_goals simp [t, u]
  case ack =>
    let u : State := s.reach (a.since + 5)
    have run := keyupEnd_ack runs acks waits
    rw [sendAck_eq] at run
    refine ⟨_, txFrame .ack (ackFrame a u) u, run, ?_, rfl, rfl, rfl, rfl, rfl, rfl, rfl, sentOnTxd_txFrame _ _ rfl,
      ?_, ?_, ?_, ?_, ?_, ?_, ?_, ?_, ?_, ?_, ?_, ?_⟩
    all_goals simp [beginTransmission, signalActivity, State.reach, u]

end Sys2Proof.Machine
end

section
/-! PROOFS. Encodings that decode to what was encoded (sections 2.7.1, 2.7.2, 2.7.3, R25, R26). -/

namespace Sys2Proof.Machine

open Sys2Proof

-- The kernel's checks run one after another: side by side they ask for more threads than there is room for.
set_option Elab.async false

/-! ## Bytes, pairs and flags -/

theorem byte_toNat (n : Nat) : (byte n).toNat = n % 256 := BitVec.toNat_ofNat n 8

theorem byte_toNat_of_le {n : Nat} (small : n ≤ 255) : (byte n).toNat = n := by
  rw [byte_toNat]
  exact Nat.mod_eq_of_lt (by omega)

theorem num16_byte {n : Nat} (small : n ≤ 65535) : num16 (byte (n / 256)) (byte n) = n := by
  rw [num16, byte_toNat, byte_toNat]
  omega

theorem num12_byte {n : Nat} (small : n ≤ 4095) : num12 (byte (n / 256)) (byte n) = n := by
  rw [num12, byte_toNat, byte_toNat]
  omega

theorem flagBit_eq_toNat (b : Bool) (n : Nat) : flagBit b n = b.toNat * 2 ^ n := by
  cases b <;> simp [flagBit]

/-- A flag is read back at its bit, below what stands above it and above what stands below it. -/
theorem bitOf_flag {b : Bool} {n above below : Nat} (fits : above * 2 ^ (n + 1) + flagBit b n + below ≤ 255)
    (under : below < 2 ^ n) : bitOf (byte (above * 2 ^ (n + 1) + flagBit b n + below)) n = b := by
  have quotient : (above * 2 ^ (n + 1) + flagBit b n + below) / 2 ^ n = above * 2 + b.toNat := by
    have whole : above * 2 ^ (n + 1) + flagBit b n + below = below + (above * 2 + b.toNat) * 2 ^ n := by
      rw [flagBit_eq_toNat]
      ring
    rw [whole, Nat.add_mul_div_right _ _ (Nat.two_pow_pos n), Nat.div_eq_of_lt under, Nat.zero_add]
  rw [bitOf, byte_toNat_of_le fits, quotient, Nat.mul_add_mod_self_right]
  cases b <;> rfl

/-! ## The header (section 2.7.1) -/

/-- Two station numbers packed in three bytes. -/
theorem stationPair_back {source dest : Nat} (sourceSmall : source ≤ 4095) (destSmall : dest ≤ 4095) :
    (byte (source / 16)).toNat * 16 + (byte (source % 16 * 16 + dest / 256)).toNat / 16 = source ∧
      (byte (source % 16 * 16 + dest / 256)).toNat % 16 * 256 + (byte dest).toNat = dest := by
  have middle : (byte (source % 16 * 16 + dest / 256)).toNat = source % 16 * 16 + dest / 256 :=
    byte_toNat_of_le (by omega)
  have high : (byte (source / 16)).toNat = source / 16 := byte_toNat_of_le (by omega)
  rw [middle, high, byte_toNat]
  omega

theorem decode_encodeHeader {kind length : Nat} {h : Header} (kindSmall : kind ≤ 15) (lengthSmall : length ≤ 255)
    (wf : h.wf = true) : decodeHeader (encodeHeader kind h length) = some (kind, h, length) := by
  obtain ⟨fleet, hop, ackReq, source, dest, seq, duty, emergency, fixValid, cause, ⟨east, north⟩⟩ := h
  simp only [Header.wf, Station.wf, Position.wf, Bool.and_eq_true, decide_eq_true_eq] at wf
  obtain ⟨⟨⟨⟨⟨⟨⟨-, fleetSmall⟩, hopSmall⟩, sourceSmall⟩, destSmall⟩, dutySmall⟩, causeSmall⟩, eastSmall, northSmall⟩ := wf
  have ack := flagBit_eq_toNat ackReq 1
  have emer := flagBit_eq_toNat emergency 4
  have fix := flagBit_eq_toNat fixValid 3
  have ackBit := ackReq.toNat_le
  have emerBit := emergency.toNat_le
  have fixBit := fixValid.toNat_le
  have kindByte : (byte (kind * 16 + hop * 4 + flagBit ackReq 1)).toNat = kind * 16 + hop * 4 + flagBit ackReq 1 :=
    byte_toNat_of_le (by omega)
  have stateByte : (byte (duty * 32 + flagBit emergency 4 + flagBit fixValid 3 + cause * 2)).toNat =
      duty * 32 + flagBit emergency 4 + flagBit fixValid 3 + cause * 2 := byte_toNat_of_le (by omega)
  have ackBack : bitOf (byte (kind * 16 + hop * 4 + flagBit ackReq 1)) 1 = ackReq := by
    have at1 := bitOf_flag (b := ackReq) (n := 1) (above := kind * 4 + hop) (below := 0) (by omega) (by decide)
    rwa [show (kind * 4 + hop) * 2 ^ (1 + 1) + flagBit ackReq 1 + 0 = kind * 16 + hop * 4 + flagBit ackReq 1 by omega]
      at at1
  have emerBack : bitOf (byte (duty * 32 + flagBit emergency 4 + flagBit fixValid 3 + cause * 2)) 4 = emergency := by
    have at4 := bitOf_flag (b := emergency) (n := 4) (above := duty) (below := flagBit fixValid 3 + cause * 2)
      (by omega) (by omega)
    rwa [← Nat.add_assoc] at at4
  have fixBack : bitOf (byte (duty * 32 + flagBit emergency 4 + flagBit fixValid 3 + cause * 2)) 3 = fixValid := by
    have whole : ∃ above, duty * 32 + flagBit emergency 4 = above * 2 ^ (3 + 1) :=
      ⟨duty * 2 + emergency.toNat, by omega⟩
    obtain ⟨above, is⟩ := whole
    rw [is] at stateByte ⊢
    exact bitOf_flag (by omega) (by omega)
  have hopBack : (kind * 16 + hop * 4 + flagBit ackReq 1) / 4 % 4 = hop := by omega
  have kindBack : (kind * 16 + hop * 4 + flagBit ackReq 1) / 16 = kind := by omega
  have dutyBack : (duty * 32 + flagBit emergency 4 + flagBit fixValid 3 + cause * 2) / 32 = duty := by omega
  have causeBack : (duty * 32 + flagBit emergency 4 + flagBit fixValid 3 + cause * 2) / 2 % 4 = cause := by omega
  obtain ⟨sourceBack, destBack⟩ := stationPair_back sourceSmall destSmall
  show some _ = some _
  rw [kindByte, stateByte, ackBack, emerBack, fixBack, hopBack, kindBack, dutyBack, causeBack, sourceBack, destBack,
    num16_byte fleetSmall, num16_byte eastSmall, num16_byte northSmall, byte_toNat_of_le lengthSmall]

theorem kindOfCode_kindCode (k : FrameKind) : kindOfCode (kindCode k) = some k := by
  cases k <;> rfl

theorem kindCode_le (k : FrameKind) : kindCode k ≤ 13 := by
  cases k <;> decide

/-! ## The payloads sent and received (section 2.7.2) -/

theorem parse_encodeOfferId {i : OfferId} (dispatch : i.dispatch ≤ 4095) : parseOfferId (encodeOfferId i) = some i := by
  show some (OfferId.mk _ _) = some i
  rw [num12_byte dispatch]

theorem parse_encodeBid {p : BidPayload} (dispatch : p.id.dispatch ≤ 4095) (score : p.score ≤ 32767)
    (vacant : p.vacant ≤ 255) : parseBid (encodeBid p) = some p := by
  show some (BidPayload.mk ⟨num12 _ _, _⟩ (num16 _ _ % 32768) (byte p.vacant).toNat) = some p
  rw [num12_byte dispatch, num16_byte (by omega), byte_toNat_of_le vacant, Nat.mod_eq_of_lt (by omega)]

theorem parse_encodeMsg {p : MsgPayload} (index : 1 ≤ p.index) (within : p.index ≤ p.count) (count : p.count ≤ 8)
    (validity : p.validity ≤ 65535) (phrase : p.phrase ≤ 255) (text : p.text.length ≤ 40) :
    parseMsg (encodeMsg p) = some p := by
  obtain ⟨number, i, n, pin, wanted, reply, valid, replyTo, ph, txt⟩ := p
  dsimp only at index within count validity phrase text
  have length : (byte txt.length).toNat = txt.length := byte_toNat_of_le (by omega)
  have pair : (byte (i * 16 + n)).toNat = i * 16 + n := byte_toNat_of_le (by omega)
  have indexBack : (i * 16 + n) / 16 = i := by omega
  have countBack : (i * 16 + n) % 16 = n := by omega
  have pinBack : bitOf (byte (flagBit pin 7 + flagBit wanted 6 + flagBit reply 5)) 7 = pin := by
    cases pin <;> cases wanted <;> cases reply <;> decide
  have wantedBack : bitOf (byte (flagBit pin 7 + flagBit wanted 6 + flagBit reply 5)) 6 = wanted := by
    cases pin <;> cases wanted <;> cases reply <;> decide
  have replyBack : bitOf (byte (flagBit pin 7 + flagBit wanted 6 + flagBit reply 5)) 5 = reply := by
    cases pin <;> cases wanted <;> cases reply <;> decide
  simp only [encodeMsg, be16, List.cons_append, List.nil_append, parseMsg, length, pair, indexBack, countBack, pinBack,
    wantedBack, replyBack, num16_byte validity, byte_toNat_of_le phrase]
  exact if_pos ⟨text, trivial, by omega, count, index, within⟩

theorem parse_encodeAck {p : AckPayload} (kind : p.kind ≤ 15) : parseAck (encodeAck p) = some p := by
  show some (AckPayload.mk ((byte p.kind).toNat % 16) p.seq) = some p
  rw [byte_toNat_of_le (by omega), Nat.mod_eq_of_lt (by omega)]

theorem alarmFlags_back (duress seen fix job : Bool) :
    bitOf (byte (flagBit duress 7 + flagBit seen 6 + flagBit fix 5 + flagBit job 4)) 7 = duress ∧
      bitOf (byte (flagBit duress 7 + flagBit seen 6 + flagBit fix 5 + flagBit job 4)) 6 = seen ∧
      bitOf (byte (flagBit duress 7 + flagBit seen 6 + flagBit fix 5 + flagBit job 4)) 5 = fix ∧
      bitOf (byte (flagBit duress 7 + flagBit seen 6 + flagBit fix 5 + flagBit job 4)) 4 = job := by
  revert duress seen fix job
  decide

theorem parse_encodeAlarm {p : AlarmPayload} (origin : p.origin ≤ 4095) (duty : p.duty ≤ 7) (elapsed : p.elapsed ≤ 65535)
    (position : p.position.wf = true) (job : ∀ i, p.job = some i → i.dispatch ≤ 4095) :
    parseAlarm (encodeAlarm p) = some p := by
  obtain ⟨o, serial, duress, seen, fix, du, el, ⟨east, north⟩, j⟩ := p
  simp only [Position.wf, Bool.and_eq_true, decide_eq_true_eq] at position
  obtain ⟨eastSmall, northSmall⟩ := position
  dsimp only at origin duty elapsed job
  have dutyBack : (byte du).toNat % 8 = du := by
    rw [byte_toNat_of_le (by omega)]
    exact Nat.mod_eq_of_lt (by omega)
  obtain ⟨duressBack, seenBack, fixBack, jobBack⟩ := alarmFlags_back duress seen fix j.isSome
  cases j with
  | none =>
    simp only [encodeAlarm, be16, List.cons_append, List.nil_append, parseAlarm, duressBack, seenBack, fixBack, jobBack,
      dutyBack, num12_byte origin, num16_byte elapsed, num16_byte eastSmall, num16_byte northSmall]
    rfl
  | some i =>
    simp only [encodeAlarm, encodeOfferId, be16, List.cons_append, List.nil_append, parseAlarm, duressBack, seenBack,
      fixBack, jobBack, dutyBack, num12_byte origin, num16_byte elapsed, num16_byte eastSmall, num16_byte northSmall]
    show some (AlarmPayload.mk _ _ _ _ _ _ _ _ (some ⟨num12 (byte (i.dispatch / 256)) (byte i.dispatch), _⟩)) = _
    rw [num12_byte (job i rfl)]

/-! ## Fare reports (section 2.7.3) -/

theorem segmentBytes_length (l : List SegmentCount) :
    (l.map fun g => [byte g.tariffId] ++ (be24 g.nd ++ be24 g.nt)).flatten.length = 7 * l.length := by
  induction l with
  | nil => rfl
  | cons g l ih =>
    rw [List.map_cons, List.flatten_cons, List.length_append, ih, List.length_cons]
    show 7 + 7 * l.length = _
    omega

/-- A byte list that opens as a HIRE report does passes the form test with the length its count byte tells. -/
theorem fareWellFormed_hire {segments extras : Nat} {a b c d e f g : Byte} {rest : List Byte} (some : 1 ≤ segments)
    (four : segments ≤ 4) (fewExtras : extras ≤ 4) (length : rest.length = 18 + 7 * segments + extras) :
    fareWellFormed ([0x01#8, a, b, c, d, e, f, g] ++ byte (16 * segments + extras) :: rest) = true := by
  have counts : (byte (16 * segments + extras)).toNat = 16 * segments + extras := byte_toNat_of_le (by omega)
  have segmentsBack : (16 * segments + extras) / 16 = segments := by omega
  have extrasBack : (16 * segments + extras) % 16 = extras := by omega
  simp [fareWellFormed, counts, segmentsBack, extrasBack, some, four, fewExtras, length]
  omega

theorem fareWellFormed_encodeHireReport (n : Nat) {r : HireReport} (some : 1 ≤ r.segments.length)
    (four : r.segments.length ≤ 4) (extras : r.extras.length ≤ 4) : fareWellFormed (encodeHireReport n r) = true := by
  obtain ⟨a, b, startIs⟩ := List.length_eq_two.mp (encodeMinute_length n 4 r.startMinute)
  obtain ⟨c, d, endIs⟩ := List.length_eq_two.mp (encodeMinute_length n 6 r.endMinute)
  rw [encodeHireReport_eq, startIs, endIs]
  simp only [List.append_assoc]
  refine fareWellFormed_hire some four extras ?_
  show (encodeJob n r.offerId ++ _).length = _
  simp only [List.length_append, List.length_map, encodeJob_length, segmentBytes_length]
  show 3 + (3 + (3 + (3 + (3 + (3 + (7 * r.segments.length + r.extras.length)))))) = _
  omega

theorem encodeShiftReport_length (n : Nat) (r : ShiftReport) : (encodeShiftReport n r).length = 36 := by
  simp [encodeShiftReport, encodeMinute_length, be16, be32]

theorem fareWellFormed_shift {rest : List Byte} (length : rest.length = 35) : fareWellFormed (byte 2 :: rest) = true := by
  simp [fareWellFormed, byte_toNat, length]

theorem fareWellFormed_encodeShiftReport (n : Nat) (r : ShiftReport) : fareWellFormed (encodeShiftReport n r) = true := by
  have length := encodeShiftReport_length n r
  obtain ⟨rest, is⟩ : ∃ rest, encodeShiftReport n r = byte 2 :: rest := ⟨_, rfl⟩
  rw [is, List.length_cons] at length
  rw [is]
  exact fareWellFormed_shift (Nat.succ.inj length)

/-! ## The CRC (R26) -/

theorem crc16_check : crc16 (codes "123456789") = 0x29B1#16 := by
  decide +kernel

/-- Settles O54: frames decode as they are encoded. -/
theorem framesDecodeAsEncoded : Obligations.FramesDecodeAsEncoded :=
  ⟨fun _ _ _ => decode_encodeHeader, fun k => ⟨kindOfCode_kindCode k, kindCode_le k⟩, fun _ => parse_encodeOfferId,
    fun _ => parse_encodeBid, fun _ => parse_encodeMsg, fun _ => parse_encodeAck, fun _ => parse_encodeAlarm,
    fun n _ => fareWellFormed_encodeHireReport n, fareWellFormed_encodeShiftReport, crc16_check⟩

end Sys2Proof.Machine
end
